-- ==== Sys2Proof/Word.lean ====
section
/-! DEFINITION. The words the UN34C is described with: characters, the wrapping counts and the
saturating tallies (00_scope, Counters and tallies). -/

namespace Sys2Proof

/-- The value of a serial character: eight data bits (R170). -/
abbrev Byte := BitVec 8

/-- Sequence numbers, contour tags and the contour count: 16 bits, wrapping (00_scope). -/
abbrev Word16 := BitVec 16

/-- The microsecond and millisecond counts and the stroke total: 32 bits, wrapping (00_scope). -/
abbrev Word32 := BitVec 32

end Sys2Proof
end

