-- ==== Sys2Proof/Syntax.lean ====
section
/-! DEFINITION. The commands of the UN34C: one constructor for each row of
spec/opcode_table.json, with the operands the spec gives that step. A request carries the port
whose handler takes it and its payload characters in the order they are received (R186, R200). -/

namespace Sys2Proof

/-- The three serial ports, named by role (R169). -/
inductive Port where
  | job | blade | panel
  deriving DecidableEq, Repr

/-- The three axes (R127, R139). -/
inductive Axis where
  | x | y | h
  deriving DecidableEq, Repr

/-- The strap pins, sampled at power-on and at the rise of RESETN (R160, R171). -/
structure Straps where
  supv : Bool
  baudsel1 : Bool
  baudsel0 : Bool
  deriving DecidableEq, Repr

/-- The levels of the four filtered inputs at the first sample after a reset (R102). -/
structure Lines where
  ca : Bool
  cb : Bool
  cz : Bool
  holdn : Bool
  deriving DecidableEq, Repr

/-- The commands: the steps of the operation table, each whole and indivisible
(95_what_each_step_holds). -/
inductive Instr where
  | powerOn (straps : Straps) (lines : Lines)
  | resetn (straps : Straps) (lines : Lines)
  | online (p : Port) (payload : List Byte)
  | setMachine (p : Port) (payload : List Byte)
  | setGrade (p : Port) (payload : List Byte)
  | setLevels (p : Port) (payload : List Byte)
  | setOrigin (p : Port) (payload : List Byte)
  | armSupervision (p : Port) (payload : List Byte)
  | syncTime (p : Port) (payload : List Byte)
  | setJogLock (p : Port) (payload : List Byte)
  | queueTraverse (p : Port) (payload : List Byte)
  | queueOpen (p : Port) (payload : List Byte)
  | queueLine (p : Port) (payload : List Byte)
  | queueArc (p : Port) (payload : List Byte)
  | run (p : Port) (payload : List Byte)
  | pauseAfter (p : Port) (payload : List Byte)
  | flush (p : Port) (payload : List Byte)
  | resetCut (p : Port) (payload : List Byte)
  | clearFault (p : Port) (payload : List Byte)
  | hold (p : Port) (payload : List Byte)
  | release (p : Port) (payload : List Byte)
  | bladeState (p : Port) (payload : List Byte)
  | setBladeOffset (p : Port) (payload : List Byte)
  | setOverride (p : Port) (payload : List Byte)
  | jogStart (p : Port) (payload : List Byte)
  | jogKeep (p : Port) (payload : List Byte)
  | jogEnd (p : Port) (payload : List Byte)
  | readProgress (p : Port) (payload : List Byte)
  | readStatus (p : Port) (payload : List Byte)
  | readStroke (p : Port) (payload : List Byte)
  | readGrade (p : Port) (payload : List Byte)
  | readPort (p : Port) (payload : List Byte)
  | setBaud (p : Port) (payload : List Byte)
  /-- A taken telegram, all its characters, whose sum is not 0 (R187). -/
  | checkDiscard (p : Port) (chars : List Byte)
  /-- A taken telegram of a kind that is no request code (R187). -/
  | unknownKindTelegram (p : Port) (kind : Byte) (payload : List Byte)
  | replyWrite (p : Port)
  | noticeBuild (p : Port)
  | baudSwitch (p : Port)
  | guardEnd (p : Port)
  /-- The bits read by sample 169 and whether a vote of bits 1 to 10 disagreed (R174). -/
  | rxCharacter (p : Port) (value : Byte) (mark stop noise : Bool)
  | breakFound (p : Port)
  | assemblerTake (p : Port)
  | gapExpiry (p : Port)
  | feedPeriodExpiry
  | dispatch
  | openTake
  | starvedResume
  /-- Which of CA and CB has a filtered edge at the sample (R104). -/
  | crankEdge (onA onB : Bool)
  | crankIndex
  | slowOverdue
  | holdnFall
  | holdnRise
  | stallTimeout
  | windowExpiry
  | stopLimitExpiry
  | clockLossFound
  | clockReturn
  | characterSent (p : Port)
  /-- The levels of samples 3, 5 and 7 of the start bit (R173). -/
  | startBitVerify (p : Port) (s3 s5 s7 : Bool)
  | lowPhaseReturn (p : Port)
  | breakPhaseEnd (p : Port)
  | stepSlot (axis : Axis)
  deriving DecidableEq, Repr

end Sys2Proof
end

