-- ==== Sys2Proof/Decode.lean ====
section
/-! DEFINITION. The table's encoding of commands. Every row of spec/opcode_table.json has an empty
list of fields and no fixed bits, so no word spells a command. The decoding of telegrams, which the
spec does give, is the handlers' (Machine/Handler.lean). -/

namespace Sys2Proof

/-- The command that a word spells by the table's bits: the table gives no row any (log 28). -/
def decodeTableWord (nbits w : Nat) : Option Instr :=
  match nbits, w with
  | _, _ => none

end Sys2Proof
end

