-- ==== Sys2Proof/Config.lean ====
section
/-! DEFINITION. What an implementation of the UN34C fixes: the capacities the spec numbers, and the
free values, which have no body because the spec leaves them open. -/

namespace Sys2Proof.Config

/-- Capacity of the contour queue (R1). -/
def queueCapacity : Nat := 48

/-- Capacity of a receive FIFO (R177). -/
def rxCapacity : Nat := 32

/-- Capacity of a transmit FIFO (R177). -/
def txCapacity : Nat := 64

/-- Longest payload of a telegram (R186). -/
def maxPayload : Nat := 20

/-- FREE VALUE. The error, per coordinate in µm, of the part's point on an arc: the spec gives only
that each coordinate lies within 2 µm of the exact rotated point (R50). It is a function of the
inputs of the mapping alone (chapter 3: the same inputs give the same result). The model clamps it
into that bound (log 6). -/
opaque arcPointError (start : Int × Int) (radius : Nat) (ccw : Bool) (s : Nat) : Int × Int

/-- FREE VALUE. Which of several steps that come together is taken first: "either order can occur"
(R16, R71, R112 and others). Applied to the count of choices made so far (log 5). -/
opaque choice (n : Nat) : Nat

end Sys2Proof.Config
end

