-- ==== Sys2Proof/Machine/State.lean ====
section
/-! DEFINITION. The state of the UN34C as plain data, block by block (00_scope, Block Diagram), the
outcomes that stop it, and the state after reset. Quantities the spec counts are natural numbers or
integers in the spec's unit; the counts the spec lets wrap are bit vectors; an absent field is an
`Option`. -/

namespace Sys2Proof.Machine

/-- Nothing in the spec stops the part: every fault it names (STALL, REVERSAL, INDEX, CLOCK_LOSS) is
an effect on the state (R152 to R157). So there is no fault, and no one raises one; this is safe. -/
inductive Fault where
  deriving DecidableEq, Repr

/-- Why a command has no meaning. -/
inductive Refusal where
  /-- Raised only by an arm of `exec` whose command has no meaning yet; safe. -/
  | notModelled (mnemonic : String)
  deriving DecidableEq, Repr

/-! ### Contour queue -/

/-- The four kinds of path entry (1.2). -/
inductive EntryKind where
  | traverse | opening | line | arc
  deriving DecidableEq, Repr

/-- A point of the path in whole µm (R41). -/
structure Point where
  x : Nat
  y : Nat
  deriving DecidableEq, Repr

/-- The arc fields of a prepared ARC (R6). -/
structure ArcShape where
  cx : Int
  cy : Int
  radius : Nat
  ccw : Bool
  sweep : Nat
  deriving DecidableEq, Repr

/-- The fields of a prepared entry that its kind carries (R4): a field absent for a kind is not
there. -/
inductive Body where
  | traverse (heading : Nat)
  | opening (grade : Nat) (fTarget : Nat) (tag : Word16)
  | line (tag : Word16) (heading : Nat) (junction : Option Int) (endMark : Bool)
  | arc (tag : Word16) (entryHeading exitHeading : Nat) (junction : Option Int) (endMark : Bool)
      (shape : ArcShape)
  deriving DecidableEq, Repr

/-- A prepared entry (R4). -/
structure Entry where
  seq : Word16
  start : Point
  stop : Point
  length : Nat
  body : Body
  deriving DecidableEq, Repr

/-- CQ's state (R1, R2, R14, R17, R22). -/
structure ContourQueue where
  entries : List Entry
  tail : Point
  tailHeading : Nat
  /-- The kind of the last entry accepted; `none` is NONE (R5). -/
  tailKind : Option EntryKind
  inContour : Bool
  openTag : Option Word16
  seq : Word16
  prime : Nat
  refill : Nat
  abandoned : Option Word16
  deriving DecidableEq, Repr

/-! ### Grade table and machine settings -/

/-- The seven fields of a VALID grade record (R26): b_g, h_g, s_g, p_g, v_crawl, min_spm, n_s. -/
structure Grade where
  bite : Nat
  turn : Nat
  smooth : Nat
  pivot : Nat
  crawl : Nat
  minSpm : Nat
  settle : Nat
  deriving DecidableEq, Repr

/-- The machine settings record (R32). -/
structure Settings where
  xLimit : Nat
  yLimit : Nat
  accel : Nat
  quickAccel : Nat
  traverseFeed : Nat
  fMax : Nat
  stepX : Nat
  stepY : Nat
  stepH : Nat
  slewH : Nat
  stallTimeout : Nat
  window : Nat
  filterK : Nat
  /-- Crank forward: `false` A_LEADS, `true` B_LEADS. -/
  bLeads : Bool
  deriving DecidableEq, Repr

/-- GT's state (R26, R32, R38); record i is INVALID when the i-th place holds `none`. -/
structure GradeTable where
  grades : List (Option Grade)
  settings : Settings
  offset : Nat
  deriving DecidableEq, Repr

/-! ### Feed interpolator -/

/-- The resume states of HOLDING and HELD (R63). -/
inductive Resume where
  | traversing | cutNormal | cutCrawl | pivotEntry | pivotCorner | pivotSettle
  deriving DecidableEq, Repr

/-- The stop mode kept through a quick stop (R93). -/
inductive StopMode where
  | none | traversing | cutNormal | cutCrawl
  deriving DecidableEq, Repr

/-- FI's state with its sub-mode, resume state and stop mode (R63, R93). -/
inductive FiState where
  | offline
  | idle
  | priming
  | traversing
  | cutNormal
  | cutCrawl
  | pivotEntry
  | pivotCorner
  | pivotSettle
  | starved
  | holding (r : Resume)
  | held (r : Resume)
  | jog
  | stopping (m : StopMode)
  | stopped
  deriving DecidableEq, Repr

/-- The contour record FI takes with an OPEN (R64). -/
structure Contour where
  index : Nat
  grade : Grade
  fTarget : Nat
  offset : Nat
  tag : Word16
  deriving DecidableEq, Repr

/-- FI's state (R63, R64, R96, R97, R198). -/
structure Interpolator where
  st : FiState
  x : Nat
  y : Nat
  h : Nat
  heading : Nat
  v : Nat
  rem : Nat
  budget : Nat
  active : Option Entry
  done : Nat
  /-- The contour record; the contour-active flag is set exactly while it is held (R64). -/
  contour : Option Contour
  strokes : Nat
  settle : Nat
  runEnable : Bool
  pauseAfter : Bool
  contours : Word16
  starves : Nat
  demand : Nat
  doneTag : Word16
  doneStrokes : Nat
  deriving DecidableEq, Repr

/-! ### Time base and stroke decoder -/

/-- TB's counts (R98). -/
structure TimeBase where
  us : Word32
  phase : Nat
  ms : Word32
  deriving DecidableEq, Repr

/-- One input filter (R101). -/
structure Filter where
  raw : Bool
  filtered : Bool
  run : Nat
  deriving DecidableEq, Repr

/-- SD's state (chapter 5). -/
structure Decoder where
  ca : Filter
  cb : Filter
  cz : Filter
  holdn : Filter
  crank : BitVec 8
  sinceIndex : Int
  backRun : Nat
  indexAge : Nat
  startPresent : Bool
  period : Option Nat
  strokeTotal : Word32
  slipRun : Nat
  missingRun : Nat
  slipTally : Nat
  missingTally : Nat
  quadTally : Nat
  /-- The blade state: `true` RUNNING, `false` STOPPED (R111). -/
  running : Bool
  stallTimer : Nat
  /-- The MODEL's own: the stall timer has reached the timeout, and its STALL is still to be taken
  (R112, log 23). -/
  stallDue : Bool
  /-- The MODEL's own: STALL_TIMEOUT has brought SD the present millisecond tick, for the stall timer and
  the edge age (log 23). -/
  stallTaken : Bool
  edgeAge : Nat
  slow : Bool
  clearing : Nat
  deriving DecidableEq, Repr

/-! ### Holds and jog -/

/-- The hold-reason set (R119). -/
structure HoldSet where
  job : Bool
  blade : Bool
  panel : Bool
  line : Bool
  slow : Bool
  driveOff : Bool
  deriving DecidableEq, Repr

/-- The end causes of a jog (R127). -/
inductive EndCause where
  | ended | early | expired | brk | hold | resetCut | fault
  deriving DecidableEq, Repr

/-- What the jog record holds while the phase is RUNNING or ENDING (R127). -/
structure JogMove where
  axis : Axis
  positive : Bool
  speed : Nat
  window : Nat
  timer : Nat
  deriving DecidableEq, Repr

/-- The phase of the jog record, with its data (R127). -/
inductive JogPhase where
  | none
  | running (m : JogMove)
  | ending (m : JogMove)
  deriving DecidableEq, Repr

/-- HJ's state (chapter 6). -/
structure HoldsJog where
  holds : HoldSet
  override : Nat
  lock : Bool
  phase : JogPhase
  endCause : Option EndCause
  earlyTally : Nat
  deriving DecidableEq, Repr

/-! ### Axis pulse outputs -/

/-- One axis generator (chapter 7). The schedule is the number of steps laid and how many of them
have been emitted; the slots follow from the number (R142), the direction is the DIR level (R143). -/
structure AxisOut where
  target : Int
  output : Int
  laid : Nat
  emitted : Nat
  /-- DIR level: `true` high, POSITIVE (R143). -/
  dir : Bool
  /-- STEP level (R142). -/
  step : Bool
  drop : Int
  backlog : Nat
  deriving DecidableEq, Repr

/-- AP's state (R139 to R142). -/
structure Pulses where
  x : AxisOut
  y : AxisOut
  h : AxisOut
  unwrapped : Int
  lastH : Nat
  /-- Microseconds since the expiry whose hand-off laid the schedules (R142). -/
  slotClock : Nat
  deriving DecidableEq, Repr

/-! ### Supervision -/

/-- Fault causes (R153). -/
inductive Cause where
  | stall | reversal | index | clockLoss
  deriving DecidableEq, Repr

/-- The fault record (R153); `state` carries the sub-mode and the resume state. -/
structure FaultRecord where
  cause : Cause
  state : FiState
  tag : Option Word16
  seq : Option Word16
  x : Nat
  y : Nat
  h : Nat
  ms : Word32
  deriving DecidableEq, Repr

/-- The clock monitor's states (R160, R161). -/
inductive Monitor where
  | disarmed | watching | lost
  deriving DecidableEq, Repr

/-- SV's state (chapter 8). -/
structure Supervision where
  record : Option FaultRecord
  further : Nat
  stopTimer : Nat
  /-- Permit state: `true` HIGH (R158). -/
  permit : Bool
  armed : Bool
  monitor : Monitor
  missed : Nat
  clockLosses : Nat
  deriving DecidableEq, Repr

/-! ### Serial ports and telegram handlers -/

/-- Receiver phases (R173 to R175). -/
inductive RxPhase where
  | idle | start | data | low | brk
  deriving DecidableEq, Repr

/-- A receiver: phase, high-run count, sample index, bits gathered, samples of the vote being taken,
NOISE mark, break-test count, loss flag (R173 to R177). In phase LOW the character held is all zeros,
so only its NOISE mark is state. -/
structure Receiver where
  phase : RxPhase
  highRun : Nat
  index : Nat
  bits : List Bool
  votes : List Bool
  noise : Bool
  breakTest : Nat
  loss : Bool
  deriving DecidableEq, Repr

/-- A tagged character of a receive FIFO (R177). -/
structure RxChar where
  value : Byte
  mark : Bool
  noise : Bool
  framing : Bool
  loss : Bool
  deriving DecidableEq, Repr

/-- An assembler with its gap timer and completed slot (R178 to R180). -/
structure Assembler where
  /-- `true` ASSEMBLING, `false` HUNTING. -/
  assembling : Bool
  chars : List Byte
  damaged : Bool
  gap : Nat
  slot : Option (List Byte)
  deriving DecidableEq, Repr

/-- Transmitter phases (R181, R182). -/
inductive TxPhase where
  | guard | idle | sending
  deriving DecidableEq, Repr

/-- A character of a transmit FIFO with its mark bit (R181). -/
structure TxChar where
  mark : Bool
  value : Byte
  deriving DecidableEq, Repr

/-- A transmitter and its FIFO (R181, R182). -/
structure Transmitter where
  phase : TxPhase
  guard : Nat
  shift : Option TxChar
  bit : Nat
  fifo : List TxChar
  deriving DecidableEq, Repr

/-- A port's seven tallies (R183). -/
structure Tallies where
  noise : Nat
  framing : Nat
  overrun : Nat
  brk : Nat
  gap : Nat
  check : Nat
  refused : Nat
  deriving DecidableEq, Repr

/-- Result codes (R201). -/
inductive Result where
  | accepted | queueFull | noContour | contourOpen | startMismatch | gradeInvalid | outsideWorkspace
  | zeroLength | arcMismatch | arcTooSmall | wrongState | notPermitted | locked | heldByOther
  | causePresent | badLength | unknownKind
  deriving DecidableEq, Repr

/-- The flags of a reply (R190). -/
structure ReplyFlags where
  clamped : Bool
  inUse : Bool
  notHeld : Bool
  deriving DecidableEq, Repr

/-- The reply data: fixed at the take, or taken when the reply is written (R188). -/
inductive ReplyData where
  | fixed (bytes : List Byte)
  | progress
  | status (part : Nat)
  | stroke
  | grade (source argument : Nat)
  | port (clear : Bool)
  deriving DecidableEq, Repr

/-- A handler's request in progress (R188). `written` marks a SET_BAUD whose reply is written and
which stays in progress until its switch (R172). -/
structure Request where
  kind : Byte
  result : Result
  flags : ReplyFlags
  data : ReplyData
  written : Bool
  deriving DecidableEq, Repr

/-- The notice kinds, in order of notice code (R198). -/
inductive Notice where
  | state | refill | contourDone | abandoned | demand | fault
  deriving DecidableEq, Repr

/-- A pending-notice set (R196). -/
structure NoticeSet where
  state : Bool
  refill : Bool
  contourDone : Bool
  abandoned : Bool
  demand : Bool
  fault : Bool
  deriving DecidableEq, Repr

/-- One serial port with its telegram handler (chapters 9 and 10). -/
structure PortState where
  divisor : Nat
  pendingDivisor : Option Nat
  /-- CLKIN cycles counted into the present sample (R171). -/
  rxClock : Nat
  /-- CLKIN cycles counted into the present bit time (R171). -/
  txClock : Nat
  rx : Receiver
  rxFifo : List RxChar
  asm : Assembler
  tx : Transmitter
  tallies : Tallies
  /-- The request in progress; BUSY is "a request is held" (R188). -/
  request : Option Request
  notices : NoticeSet
  /-- The MODEL's own: the lowest notice kind still to be built in this pass (R197, log 29). -/
  noticePass : Nat
  deriving DecidableEq, Repr

/-! ### The whole part -/

/-- The input pins (00_scope, Pin Summary). `clkin` says whether CLKIN is running. -/
structure Pins where
  clkin : Bool
  supv : Bool
  baudsel1 : Bool
  baudsel0 : Bool
  ca : Bool
  cb : Bool
  cz : Bool
  holdn : Bool
  jrxd : Bool
  brxd : Bool
  prxd : Bool
  deriving DecidableEq, Repr

/-- The UN34C, and the queue of commands waiting for it. -/
structure State where
  pins : Pins
  /-- The MODEL's own: CLKIN cycles into the present microsecond, 0..15 (R98, log 10). -/
  subMicro : Nat
  tb : TimeBase
  gt : GradeTable
  cq : ContourQueue
  fi : Interpolator
  sd : Decoder
  hj : HoldsJog
  ap : Pulses
  sv : Supervision
  job : PortState
  blade : PortState
  panel : PortState
  /-- The commands waiting, first in first out. -/
  pending : List Instr
  /-- The MODEL's own: how many free choices of order have been made (log 5). -/
  choices : Nat
  deriving DecidableEq, Repr

/-! ### Reset -/

/-- The settings of R32 at their defaults. -/
def Settings.default : Settings where
  xLimit := 3200000
  yLimit := 2200000
  accel := 1000000
  quickAccel := 8000000
  traverseFeed := 300000
  fMax := 600000
  stepX := 2
  stepY := 2
  stepH := 1
  slewH := 90
  stallTimeout := 200
  window := 100
  filterK := 4
  bLeads := false

/-- An axis output after reset (R151). -/
def AxisOut.reset : AxisOut :=
  { target := 0, output := 0, laid := 0, emitted := 0, dir := false, step := false, drop := 0,
    backlog := 0 }

/-- A filter that has taken its first sample (R102). -/
def Filter.first (level : Bool) : Filter := { raw := level, filtered := level, run := 0 }

/-- A port after reset with initial divisor `divisor` (R171, R185, R199). -/
def PortState.reset (divisor : Nat) : PortState where
  divisor := divisor
  pendingDivisor := none
  rxClock := 0
  txClock := 0
  rx := { phase := .idle, highRun := 0, index := 0, bits := [], votes := [], noise := false,
          breakTest := 0, loss := false }
  rxFifo := []
  asm := { assembling := false, chars := [], damaged := false, gap := 0, slot := none }
  tx := { phase := .guard, guard := 0, shift := none, bit := 0, fifo := [] }
  tallies := { noise := 0, framing := 0, overrun := 0, brk := 0, gap := 0, check := 0, refused := 0 }
  request := none
  notices := { state := false, refill := false, contourDone := false, abandoned := false,
               demand := false, fault := false }
  noticePass := 0

/-- The part right after power-on (R25, R40, R97, R118, R138, R151, R168, R185, R199), with CLKIN
running, all straps low, CA, CB and CZ low and HOLDN and the receive lines high (log 9). -/
def State.reset : State where
  pins := { clkin := true, supv := false, baudsel1 := false, baudsel0 := false, ca := false,
            cb := false, cz := false, holdn := true, jrxd := true, brxd := true, prxd := true }
  subMicro := 0
  tb := { us := 0, phase := 0, ms := 0 }
  gt := { grades := List.replicate 16 none, settings := Settings.default, offset := 0 }
  cq := { entries := [], tail := ⟨0, 0⟩, tailHeading := 0, tailKind := none, inContour := false,
          openTag := none, seq := 0, prime := 8, refill := 16, abandoned := none }
  fi := { st := .offline, x := 0, y := 0, h := 0, heading := 0, v := 0, rem := 0, budget := 0,
          active := none, done := 0, contour := none, strokes := 0, settle := 0,
          runEnable := false, pauseAfter := false, contours := 0, starves := 0, demand := 0,
          doneTag := 0, doneStrokes := 0 }
  sd := { ca := Filter.first false, cb := Filter.first false, cz := Filter.first false,
          holdn := Filter.first true, crank := 0, sinceIndex := 0, backRun := 0,
          indexAge := 1000000, startPresent := false, period := none, strokeTotal := 0,
          slipRun := 0, missingRun := 0, slipTally := 0, missingTally := 0, quadTally := 0,
          running := false, stallTimer := 0, stallDue := false, stallTaken := false,
          edgeAge := 65535, slow := false, clearing := 0 }
  hj := { holds := { job := false, blade := false, panel := false, line := false, slow := false,
                     driveOff := false },
          override := 100, lock := false, phase := .none, endCause := none, earlyTally := 0 }
  ap := { x := AxisOut.reset, y := AxisOut.reset, h := AxisOut.reset, unwrapped := 0, lastH := 0,
          slotClock := 0 }
  sv := { record := none, further := 0, stopTimer := 0, permit := false, armed := false,
          monitor := .disarmed, missed := 0, clockLosses := 0 }
  job := PortState.reset 8
  blade := PortState.reset 8
  panel := PortState.reset 8
  pending := []
  choices := 0

end Sys2Proof.Machine
end

