-- ==== Sys2Proof/Machine/Angles.lean ====
section
/-! DEFINITION. Roots, roundings and angles of Path Arithmetic (R41 to R43, R45, R50). Sines and
cosines are fixed-point numbers with 192 fraction bits, far finer than any comparison of inputs
within the part's ranges needs (log 8). -/

namespace Sys2Proof.Machine

/-! ### Roundings (R41) -/

/-- The floor of the root of `n`, bit by bit: `acc` is kept, adding `2 ^ k` where the square still
fits. -/
def isqrtBits (n : Nat) : Nat → Nat → Nat
  | 0, acc => acc
  | k + 1, acc =>
    let next := acc + 2 ^ k
    isqrtBits n k (if next * next ≤ n then next else acc)

/-- Floor of a root: the largest whole number whose square does not exceed `n` (R41). -/
def isqrt (n : Nat) : Nat := isqrtBits n (n.log2 / 2 + 1) 0

/-- The rounded root: the `m` with (m − ½)² ≤ n < (m + ½)² (R41). -/
def rootRound (n : Nat) : Nat := (isqrt (4 * n) + 1) / 2

/-- Round to the nearest whole number, an exact half up (R41). -/
def roundDiv (num : Int) (den : Nat) : Int := (2 * num + den) / (2 * den)

/-- Ceil of a quotient of natural numbers (R41). -/
def ceilDiv (num den : Nat) : Nat := (num + den - 1) / den

/-! ### Headings (R42) -/

/-- Reduction modulo 36,000 into 0..35,999 (R42). -/
def reduceHeading (a : Int) : Nat := (a % 36000).toNat

/-- Normalisation of a heading difference into −17,999..+18,000 (R42). -/
def normalise (d : Int) : Int :=
  let r := d % 36000
  if r > 18000 then r - 36000 else r

/-- The turn step of R52: H after turning toward `target` by at most `m`. -/
def turnStep (target h m : Nat) : Nat :=
  let remaining := normalise ((target : Int) - h)
  if remaining.natAbs ≤ m then target
  else reduceHeading (if 0 < remaining then (h : Int) + m else (h : Int) - m)

/-! ### Sine and cosine -/

/-- One in fixed point. -/
def fixOne : Nat := 2 ^ 192

/-- The floor of π in fixed point. -/
def fixPi : Nat := 19720096697726538562396133364228268891463450865190089732560

/-- The sums of the even and of the odd terms of the exponential series at the imaginary argument
`x`, from term number `k` whose size is `term`: (cosine, sine) in fixed point. -/
def sinCosSeries (x : Nat) : Nat → Nat → Nat → Int × Int → Int × Int
  | 0, _, _, acc => acc
  | fuel + 1, k, term, (c, s) =>
    let acc : Int × Int :=
      match k % 4 with
      | 0 => (c + term, s)
      | 1 => (c, s + term)
      | 2 => (c - term, s)
      | _ => (c, s - term)
    sinCosSeries x fuel (k + 1) (term * x / (fixOne * (k + 1))) acc

/-- Cosine and sine, in fixed point, of the angle `num / den` hundredths of a degree, for an angle
within a quarter turn. -/
def sinCosQuarter (num den : Nat) : Int × Int :=
  sinCosSeries (num * fixPi / (den * 18000)) 60 0 fixOne (0, 0)

/-- Cosine and sine of any angle `num / den` hundredths: the whole quarter turns are exact. -/
def sinCos (num den : Nat) : Int × Int :=
  let q := num / (9000 * den)
  let (c, s) := sinCosQuarter (num - q * (9000 * den)) den
  match q % 4 with
  | 0 => (c, s)
  | 1 => (-s, c)
  | 2 => (-c, -s)
  | _ => (s, -c)

/-! ### The angle of a vector (R43) -/

/-- Whether the direction of (u, w), with u and w positive, is at or past the boundary half-way
between k and k + 1 hundredths. -/
def pastBoundary (u w k : Nat) : Bool :=
  let (c, s) := sinCosQuarter (2 * k + 1) 2
  decide ((u : Int) * s ≤ (w : Int) * c)

/-- Bisection: the least k in lo..hi whose boundary the direction of (u, w) has not passed. -/
def angleSearch (u w : Nat) : Nat → Nat → Nat → Nat
  | 0, lo, _ => lo
  | fuel + 1, lo, hi =>
    if lo < hi then
      let mid := (lo + hi) / 2
      if pastBoundary u w mid then angleSearch u w fuel (mid + 1) hi
      else angleSearch u w fuel lo mid
    else lo

/-- The angle of (u, w) with u and w positive: rounded hundredths, 0..9,000. -/
def quarterAngle (u w : Nat) : Nat := angleSearch u w 15 0 9000

/-- The heading of a vector, correctly rounded and reduced; the zero vector has heading 0 (R43,
R45). Vectors along the axes give exact values. -/
def vectorHeading (dx dy : Int) : Nat :=
  if dy = 0 then (if 0 ≤ dx then 0 else 18000)
  else if dx = 0 then (if 0 < dy then 9000 else 27000)
  else if 0 < dy then
    if 0 < dx then reduceHeading (quarterAngle dx.natAbs dy.natAbs)
    else reduceHeading (9000 + quarterAngle dy.natAbs dx.natAbs)
  else
    if dx < 0 then reduceHeading (18000 + quarterAngle dx.natAbs dy.natAbs)
    else reduceHeading (27000 + quarterAngle dy.natAbs dx.natAbs)

end Sys2Proof.Machine
end

