-- ==== Sys2Proof/Machine/Arithmetic.lean ====
section
/-! DEFINITION. Path Arithmetic (R43 to R62): lines, arcs, junction angles, stroke quantities, speed
and distance. Pure functions of their inputs; the arithmetic holds no state. -/

namespace Sys2Proof.Machine

/-- One hundredth of a degree is `arcUnit / arcScale` radian (00_scope, Arc constant). -/
def arcUnit : Nat := 17453

/-- See `arcUnit`. -/
def arcScale : Nat := 100000000

/-! ### Fields of a prepared entry -/

/-- The kind of an entry (R4). -/
def Entry.kind (e : Entry) : EntryKind :=
  match e.body with
  | .traverse _ => .traverse
  | .opening _ _ _ => .opening
  | .line _ _ _ _ => .line
  | .arc _ _ _ _ _ _ => .arc

/-- A cut entry is a LINE or an ARC. -/
def Entry.isCut (e : Entry) : Bool :=
  match e.body with
  | .line _ _ _ _ => true
  | .arc _ _ _ _ _ _ => true
  | _ => false

/-- The contour tag, absent on a TRAVERSE (R4). -/
def Entry.tag (e : Entry) : Option Word16 :=
  match e.body with
  | .traverse _ => none
  | .opening _ _ t => some t
  | .line t _ _ _ => some t
  | .arc t _ _ _ _ _ => some t

/-- The entry heading, absent on an OPEN (R4). -/
def Entry.entryHeading (e : Entry) : Option Nat :=
  match e.body with
  | .traverse h => some h
  | .opening _ _ _ => none
  | .line _ h _ _ => some h
  | .arc _ h _ _ _ _ => some h

/-- The exit heading, absent on an OPEN (R4). -/
def Entry.exitHeading (e : Entry) : Option Nat :=
  match e.body with
  | .traverse h => some h
  | .opening _ _ _ => none
  | .line _ h _ _ => some h
  | .arc _ _ h _ _ _ => some h

/-- The junction angle (R5). -/
def Entry.junction (e : Entry) : Option Int :=
  match e.body with
  | .line _ _ j _ => j
  | .arc _ _ _ j _ _ => j
  | _ => none

/-- Whether the entry carries the END mark (R4). -/
def Entry.endMark (e : Entry) : Bool :=
  match e.body with
  | .line _ _ _ m => m
  | .arc _ _ _ _ m _ => m
  | _ => false

/-! ### Lines (R43, R44) -/

/-- X or Y difference of two points, signed. -/
def diff (a b : Nat) : Int := (b : Int) - a

/-- The length of the vector (dx, dy): the rounded root of the sum of squares (R44, R45). -/
def vectorLength (dx dy : Int) : Nat := rootRound (dx * dx + dy * dy).toNat

/-- The heading of a LINE or TRAVERSE (R43). -/
def lineHeading (a b : Point) : Nat := vectorHeading (diff a.x b.x) (diff a.y b.y)

/-- The length of a LINE or TRAVERSE (R44). -/
def lineLength (a b : Point) : Nat := vectorLength (diff a.x b.x) (diff a.y b.y)

/-- The point at distance `s` along a LINE or TRAVERSE of length `len` (R44). -/
def linePoint (a b : Point) (len s : Nat) : Point where
  x := (a.x + roundDiv (diff a.x b.x * s) len).toNat
  y := (a.y + roundDiv (diff a.y b.y * s) len).toNat

/-! ### Arcs (R45 to R50) -/

/-- The sweep from two rounded angles; a result of 0 is a full circle (R46). -/
def arcSweep (ccw : Bool) (startAngle endAngle : Nat) : Nat :=
  let d := reduceHeading (if ccw then (endAngle : Int) - startAngle else (startAngle : Int) - endAngle)
  if d = 0 then 36000 else d

/-- The tangent of an arc at an angle (R47). -/
def arcTangent (ccw : Bool) (angle : Nat) : Nat :=
  reduceHeading (if ccw then (angle : Int) + 9000 else (angle : Int) - 9000)

/-- The length of an arc (R48). -/
def arcLength (radius sweep : Nat) : Nat := (roundDiv (radius * sweep * arcUnit : Nat) arcScale).toNat

/-- Whether the arc reaches the axis-extreme at angle `a` (R49). -/
def arcReaches (ccw : Bool) (startAngle sweep a : Nat) : Bool :=
  decide (reduceHeading (if ccw then (a : Int) - startAngle else (startAngle : Int) - a) ≤ sweep)

/-- The axis-extreme points the arc reaches, as signed coordinates (R11, R49). -/
def arcExtremes (shape : ArcShape) (startAngle : Nat) : List (Int × Int) :=
  let at_ (a : Nat) (pt : Int × Int) : List (Int × Int) :=
    if arcReaches shape.ccw startAngle shape.sweep a then [pt] else []
  at_ 0 (shape.cx + shape.radius, shape.cy) ++ at_ 9000 (shape.cx, shape.cy + shape.radius)
    ++ at_ 18000 (shape.cx - shape.radius, shape.cy) ++ at_ 27000 (shape.cx, shape.cy - shape.radius)

/-- The numerator of φ(s) over `radius × 17,453`, in hundredths of a degree (R50). -/
def arcAngleNum (s : Nat) : Nat := s * arcScale

/-- The denominator of φ(s) (R50). -/
def arcAngleDen (radius : Nat) : Nat := radius * arcUnit

/-- The path heading at distance `s` into an arc: the entry heading turned by ψ = round(φ(s)),
limited to the sweep (R47). -/
def arcHeading (entryHeading : Nat) (shape : ArcShape) (s : Nat) : Nat :=
  let psi := min (roundDiv (arcAngleNum s : Nat) (arcAngleDen shape.radius)).toNat shape.sweep
  reduceHeading (if shape.ccw then (entryHeading : Int) + psi else (entryHeading : Int) - psi)

/-- The vector (ix, iy) rotated counter-clockwise by `num / den` hundredths, or clockwise, in fixed
point (R50, log 7). -/
def rotateFixed (ix iy : Int) (ccw : Bool) (num den : Nat) : Int × Int :=
  let (c, s) := sinCos num den
  if ccw then (ix * c - iy * s, ix * s + iy * c) else (ix * c + iy * s, iy * c - ix * s)

/-- A coordinate offset given exactly in fixed point, rounded and moved by the free error `err`, kept
within 2 µm of the exact value (R50, log 6). The slack is that of the fixed-point arithmetic. -/
def withinTwo (exact err : Int) : Int :=
  let one : Int := fixOne
  let slack : Int := 2 ^ 64
  let low := -((-(exact - 2 * one - slack)) / one)
  let high := (exact + 2 * one + slack) / one
  max low (min high (roundDiv exact fixOne + err))

/-- Clamp of a signed coordinate into 0..limit (R50). -/
def clampInto (limit : Nat) (c : Int) : Nat := min c.toNat limit

/-- The point at distance `s` into an arc (R50): the centre plus the rotated start vector, within
2 µm, each coordinate clamped into the workspace; the start point exactly at 0. -/
def arcPoint (start : Point) (shape : ArcShape) (xLimit yLimit s : Nat) : Point :=
  if s = 0 then start
  else
    let ix := (start.x : Int) - shape.cx
    let iy := (start.y : Int) - shape.cy
    let (ex, ey) := rotateFixed ix iy shape.ccw (arcAngleNum s) (arcAngleDen shape.radius)
    let (fx, fy) := Config.arcPointError (ix, iy) shape.radius shape.ccw s
    { x := clampInto xLimit (shape.cx + withinTwo ex fx)
      y := clampInto yLimit (shape.cy + withinTwo ey fy) }

/-! ### Junctions (R51) -/

/-- The junction angle of an entry against the tail heading (R51). -/
def junctionAngle (tailHeading entryHeading : Nat) : Int := normalise ((entryHeading : Int) - tailHeading)

/-- The corner classes (4.5). -/
inductive Corner where
  | smooth | turn | pivot
  deriving DecidableEq, Repr

/-- The class of a junction with a latched grade copy. A junction angle is always present where a
cut entry follows a cut entry (R5); absent, which no run reaches, it is classed PIVOT (log 20). -/
def classify (g : Grade) : Option Int → Corner
  | none => .pivot
  | some d => if d.natAbs ≤ g.smooth then .smooth else if d.natAbs ≤ g.pivot then .turn else .pivot

/-! ### Stroke quantities (R53 to R57) -/

/-- The effective bite of an entry with a latched grade (R53); 0 for an entry that has none. -/
def biteOf (g : Grade) (e : Entry) : Nat :=
  match e.body with
  | .line _ _ _ _ => g.bite
  | .arc _ _ _ _ _ shape => min g.bite (max 1 (shape.radius * g.turn * arcUnit / arcScale))
  | _ => 0

/-- The feed target, or the traverse speed, with override (R54). -/
def withOverride (feed override : Nat) : Nat := feed * override / 100

/-- A usable stroke period is one of 50,000 µs or less (R55). -/
def usablePeriod : Option Nat → Bool
  | none => false
  | some p => decide (p ≤ 50000)

/-- The stroke ceiling F_s from the bite and the held period (R55). -/
def strokeCeiling (bite : Nat) : Option Nat → Nat
  | none => 0
  | some p => if p ≤ 50000 then bite * 1000000 / max p 5000 else 0

/-- The measured stroke rate from a period (R56). -/
def strokeRate (p : Nat) : Nat := min 65535 (60000000 / p)

/-- The stroke demand of a grade at a feed target with override (R57). -/
def strokeDemand (g : Grade) (feed : Nat) : Nat :=
  min 12000 (max g.minSpm (ceilDiv (feed * 60) g.bite))

/-! ### Speed and distance (R60 to R62) -/

/-- The speed step of an acceleration (R60). -/
def speedStep (accel : Nat) : Nat := max 1 (accel / 1000)

/-- Moving `v` toward `target` by at most `step` (R60). -/
def moveToward (v target step : Nat) : Nat :=
  if v ≤ target then min target (v + step) else max target (v - step)

/-- The look-ahead speed of one constraint of speed `vj` at distance `d` (R62). -/
def constraintSpeed (accel vj d : Nat) : Nat := isqrt (vj * vj + 2 * accel * d)

/-- The look-ahead over the queued entries behind a cut entry without the END mark whose end lies at
distance `d` (R62): the scan ends at the first point of speed 0. -/
def lookQueue (accel : Nat) (g : Grade) : List Entry → Nat → Nat
  | [], d => constraintSpeed accel 0 d
  | e :: rest, d =>
    let beyond :=
      if e.endMark then constraintSpeed accel 0 (d + e.length)
      else lookQueue accel g rest (d + e.length)
    match classify g e.junction with
    | .pivot => constraintSpeed accel 0 d
    | .turn => min (constraintSpeed accel g.crawl d) beyond
    | .smooth => beyond

end Sys2Proof.Machine
end

