-- ==== Sys2Proof/Machine/Operands.lean ====
section
/-! DEFINITION. The fields of request telegrams and the bytes of replies: fields wider than one byte
least significant byte first, signed fields two's complement (R186, R190). -/

namespace Sys2Proof.Machine

/-- The unsigned value of characters, least significant first (R186). -/
def leValue : List Byte → Nat
  | [] => 0
  | b :: rest => b.toNat + 256 * leValue rest

/-- The field of `width` characters at `offset` of a payload. -/
def field (payload : List Byte) (offset width : Nat) : Nat :=
  leValue ((payload.drop offset).take width)

/-- The two's complement value of a field of `width` characters (R190). -/
def signedField (payload : List Byte) (offset width : Nat) : Int :=
  let v := field payload offset width
  if v < 256 ^ width / 2 then v else (v : Int) - 256 ^ width

/-- The `width` characters of a value, least significant first, two's complement (R190). -/
def leBytes : Nat → Int → List Byte
  | 0, _ => []
  | width + 1, v => BitVec.ofInt 8 v :: leBytes width (v / 256)

/-- A natural number in `width` characters. -/
def natBytes (width v : Nat) : List Byte := leBytes width v

/-- An optional field: absent, it keeps its place with its bytes 0 (R190). -/
def optBytes (width : Nat) : Option Nat → List Byte
  | none => leBytes width 0
  | some v => leBytes width v

/-- A flag as a byte: 1 or 0. -/
def boolByte (b : Bool) : List Byte := [if b then 1 else 0]

/-- A byte of bits, bit 0 first: presence bytes, sets, pin levels (R190, R201). -/
def bitsByte (bits : List Bool) : List Byte :=
  [bits.foldr (fun b acc => (if b then 1 else 0) + 2 * acc) 0]

/-- The check value that makes the 8-bit sum of all characters 0 (R186). -/
def checkValue (chars : List Byte) : Byte := -(chars.foldl (· + ·) 0)

/-- A whole telegram: kind, length, payload, check (R186, R202). -/
def telegram (kind : Byte) (payload : List Byte) : List Byte :=
  let body := kind :: BitVec.ofNat 8 payload.length :: payload
  body ++ [checkValue body]

/-- The 8-bit sum of a telegram's characters (R187, first check). -/
def charSum (chars : List Byte) : Byte := chars.foldl (· + ·) 0

/-- A value clamped into `lo..hi`. -/
def clampTo (lo hi v : Nat) : Nat := min hi (max lo v)

/-- One step of a saturating tally (00_scope, Counters and tallies). -/
def saturate (n : Nat) : Nat := min 65535 (n + 1)

end Sys2Proof.Machine
end

