-- ==== Sys2Proof/Machine/Flags.lean ====
section
/-! DEFINITION. The codes and flag bytes of telegrams (R190, R194, R198, R201) and the flags computed
from the state: the hold-reason set, the prime condition, the contour-active flag, MPERMIT. -/

namespace Sys2Proof.Machine

/-- Result codes (R201). -/
def Result.code : Result → Byte
  | .accepted => 0x00
  | .queueFull => 0x01
  | .noContour => 0x02
  | .contourOpen => 0x03
  | .startMismatch => 0x04
  | .gradeInvalid => 0x05
  | .outsideWorkspace => 0x06
  | .zeroLength => 0x07
  | .arcMismatch => 0x08
  | .arcTooSmall => 0x09
  | .wrongState => 0x0A
  | .notPermitted => 0x0B
  | .locked => 0x0C
  | .heldByOther => 0x0D
  | .causePresent => 0x0E
  | .badLength => 0x0F
  | .unknownKind => 0x10

/-- The flags byte of a reply: CLAMPED, IN_USE, NOT_HELD (R190). -/
def ReplyFlags.bytes (f : ReplyFlags) : List Byte := bitsByte [f.clamped, f.inUse, f.notHeld]

/-- No flags. -/
def noFlags : ReplyFlags := { clamped := false, inUse := false, notHeld := false }

/-- CLAMPED when the condition holds. -/
def clampedIf (c : Bool) : ReplyFlags := { clamped := c, inUse := false, notHeld := false }

/-- The hold-reason set as a byte (R201). -/
def HoldSet.bytes (h : HoldSet) : List Byte :=
  bitsByte [h.job, h.blade, h.panel, h.line, h.slow, h.driveOff]

/-- Whether the set is non-empty (R119). -/
def HoldSet.any (h : HoldSet) : Bool :=
  h.job || h.blade || h.panel || h.line || h.slow || h.driveOff

/-- State codes (R201). -/
def FiState.code : FiState → Nat
  | .offline => 0
  | .idle => 1
  | .priming => 2
  | .traversing => 3
  | .cutNormal => 4
  | .cutCrawl => 4
  | .pivotEntry => 5
  | .pivotCorner => 5
  | .pivotSettle => 5
  | .starved => 6
  | .holding _ => 7
  | .held _ => 8
  | .jog => 9
  | .stopping _ => 10
  | .stopped => 10

/-- Sub-mode codes; absent outside CUTTING, PIVOTING and FAULT (R63, R95, R201). -/
def FiState.subMode : FiState → Option Nat
  | .cutNormal => some 0
  | .cutCrawl => some 1
  | .pivotEntry => some 2
  | .pivotCorner => some 3
  | .pivotSettle => some 4
  | .stopping _ => some 5
  | .stopped => some 6
  | _ => none

/-- The resume state, absent outside HOLDING and HELD (R63). -/
def FiState.resume : FiState → Option Resume
  | .holding r => some r
  | .held r => some r
  | _ => none

/-- Resume state codes (R201). -/
def Resume.code : Resume → Nat
  | .traversing => 0
  | .cutNormal => 1
  | .cutCrawl => 2
  | .pivotEntry => 3
  | .pivotCorner => 4
  | .pivotSettle => 5

/-- Whether FI is in FAULT, the quick stop included. -/
def FiState.isFault : FiState → Bool
  | .stopping _ => true
  | .stopped => true
  | _ => false

/-- Tail kind codes (R194). -/
def kindCode : Option EntryKind → Nat
  | none => 0
  | some .traverse => 1
  | some .opening => 2
  | some .line => 3
  | some .arc => 4

/-- Jog phase codes (R194). -/
def JogPhase.code : JogPhase → Nat
  | .none => 0
  | .running _ => 1
  | .ending _ => 2

/-- The data the jog record holds in RUNNING and ENDING (R127). -/
def JogPhase.move : JogPhase → Option JogMove
  | .none => Option.none
  | .running m => some m
  | .ending m => some m

/-- End cause codes (R194). -/
def EndCause.code : EndCause → Nat
  | .ended => 0
  | .early => 1
  | .expired => 2
  | .brk => 3
  | .hold => 4
  | .resetCut => 5
  | .fault => 6

/-- Axis codes (R200). -/
def axisCode : Axis → Nat
  | .x => 0
  | .y => 1
  | .h => 2

/-- Fault cause codes (R201). -/
def Cause.code : Cause → Nat
  | .stall => 1
  | .reversal => 2
  | .index => 3
  | .clockLoss => 4

/-- Monitor state codes (R194). -/
def Monitor.code : Monitor → Nat
  | .disarmed => 0
  | .watching => 1
  | .lost => 2

/-- Role codes (R195). -/
def portCode : Port → Nat
  | .job => 0
  | .blade => 1
  | .panel => 2

/-- Receiver phase codes (R195). -/
def RxPhase.code : RxPhase → Nat
  | .idle => 0
  | .start => 1
  | .data => 2
  | .low => 3
  | .brk => 4

/-- Notice codes (R198). -/
def Notice.code : Notice → Byte
  | .state => 0x60
  | .refill => 0x61
  | .contourDone => 0x62
  | .abandoned => 0x63
  | .demand => 0x64
  | .fault => 0x65

/-- A notice's place in the order of notice codes (R197). -/
def Notice.rank : Notice → Nat
  | .state => 0
  | .refill => 1
  | .contourDone => 2
  | .abandoned => 3
  | .demand => 4
  | .fault => 5

/-- The notice kinds in order of code (R197). -/
def noticeOrder : List Notice := [.state, .refill, .contourDone, .abandoned, .demand, .fault]

/-- Whether a kind is pending (R196). -/
def NoticeSet.has (n : NoticeSet) : Notice → Bool
  | .state => n.state
  | .refill => n.refill
  | .contourDone => n.contourDone
  | .abandoned => n.abandoned
  | .demand => n.demand
  | .fault => n.fault

/-- A pending-notice set with one flag set or cleared (R196). -/
def NoticeSet.put (n : NoticeSet) (k : Notice) (b : Bool) : NoticeSet :=
  match k with
  | .state => { n with state := b }
  | .refill => { n with refill := b }
  | .contourDone => { n with contourDone := b }
  | .abandoned => { n with abandoned := b }
  | .demand => { n with demand := b }
  | .fault => { n with fault := b }

/-- The characters of a notice's whole telegram: kind, length, the payload of R198 and the check. -/
def Notice.length : Notice → Nat
  | .state => 8
  | .refill => 4
  | .contourDone => 11
  | .abandoned => 6
  | .demand => 5
  | .fault => 5

/-- The free places of the transmit FIFO (R181). -/
def PortState.room (q : PortState) : Nat := Config.txCapacity - q.tx.fifo.length

/-- The kinds pending on a port, in order of code (R197). -/
def PortState.pendingKinds (q : PortState) : List Notice := noticeOrder.filter q.notices.has

/-- The lowest pending kind left in the present pass (R197, log 29). -/
def PortState.nextInPass (q : PortState) : Option Notice :=
  q.pendingKinds.find? fun k => decide (q.noticePass ≤ k.rank)

/-- The pass of R197 goes on while its lowest pending kind fits. Where that kind does not fit the
handler stops building, and where none is left the pass is over: the next build begins again at the
lowest kind (log 29). -/
def PortState.closePass (q : PortState) : PortState :=
  match q.nextInPass with
  | some k => if k.length ≤ q.room then q else { q with noticePass := 0 }
  | none => { q with noticePass := 0 }

/-- The prime condition (R18). -/
def ContourQueue.primed (q : ContourQueue) : Bool :=
  decide (q.prime ≤ q.entries.length) || q.entries.any Entry.endMark

/-- The contour-active flag (R64). -/
def State.contourActive (s : State) : Bool := s.fi.contour.isSome

/-- The level of MPERMIT (R158): the permit state, unless the monitor forces it low. -/
def State.mpermit (s : State) : Bool := s.sv.permit && decide (s.sv.monitor ≠ .lost)

/-- Whether the stall monitor is active (R112). -/
def State.stallActive (s : State) : Bool := s.contourActive && s.sd.running

/-- The active entry is a LINE or an ARC. -/
def State.cutActive (s : State) : Bool := s.fi.active.any Entry.isCut

end Sys2Proof.Machine
end

