-- ==== Sys2Proof/Machine/Ops.lean ====
section
/-! DEFINITION. The shared operations: ports and notices, FI's state, the hold-reason set, the demand,
the queue's head, the flush, the pulse counts, the fault and the quick stop's ends. Meanings are
written over these. -/

namespace Sys2Proof.Machine

/-- A clocked step: while CLKIN stands still every clocked block stands still (R100, R163, R166). -/
def clocked (s : State) (f : State → State) : Host.Outcome State Fault Refusal :=
  .next (if s.pins.clkin then f s else s)

/-! ### Ports and notices (R169, R196) -/

/-- A port's state. -/
def State.port (s : State) : Port → PortState
  | .job => s.job
  | .blade => s.blade
  | .panel => s.panel

/-- The state with one port replaced. -/
def State.setPort (s : State) (p : Port) (v : PortState) : State :=
  match p with
  | .job => { s with job := v }
  | .blade => { s with blade := v }
  | .panel => { s with panel := v }

/-- A notice kind made pending (R196); it joins the present pass where its code is higher than the last
kind built, and ends the pass where it is then the lowest kind and does not fit (R197). -/
def PortState.raise (q : PortState) (k : Notice) : PortState :=
  ({ q with notices := q.notices.put k true } : PortState).closePass

/-- A notice kind made pending on one port. -/
def State.raise (s : State) (p : Port) (k : Notice) : State := s.setPort p ((s.port p).raise k)

/-- A notice kind made pending on all three ports. -/
def State.raiseAll (s : State) (k : Notice) : State :=
  ((s.raise .job k).raise .blade k).raise .panel k

/-! ### FI's state (R63) -/

/-- The states in which the path speed is zero (R63). -/
def FiState.still : FiState → Bool
  | .offline => true
  | .idle => true
  | .priming => true
  | .pivotEntry => true
  | .pivotCorner => true
  | .pivotSettle => true
  | .starved => true
  | .held _ => true
  | .stopped => true
  | _ => false

/-- FI enters a state: v becomes 0 in the states R63 names, and STATE becomes pending on all ports
when the state or the resume state changes. -/
def State.enter (s : State) (st : FiState) : State :=
  let s1 : State := { s with fi := { s.fi with st := st, v := if st.still then 0 else s.fi.v } }
  if st.code = s.fi.st.code ∧ st.resume = s.fi.st.resume then s1 else s1.raiseAll .state

/-- The state a resume state names (R89). -/
def Resume.state : Resume → FiState
  | .traversing => .traversing
  | .cutNormal => .cutNormal
  | .cutCrawl => .cutCrawl
  | .pivotEntry => .pivotEntry
  | .pivotCorner => .pivotCorner
  | .pivotSettle => .pivotSettle

/-- FI's reaction to the hold-reason set becoming non-empty (R86). -/
def State.holdFeed (s : State) : State :=
  match s.fi.st with
  | .traversing => s.enter (.holding .traversing)
  | .cutNormal => s.enter (.holding .cutNormal)
  | .cutCrawl => s.enter (.holding .cutCrawl)
  | .pivotEntry => s.enter (.held .pivotEntry)
  | .pivotCorner => s.enter (.held .pivotCorner)
  | .pivotSettle => s.enter (.held .pivotSettle)
  | _ => s

/-- FI's reaction to the hold-reason set becoming empty (R89): v as it stands from HOLDING, 0 from
HELD. -/
def State.resumeFeed (s : State) : State :=
  match s.fi.st with
  | .holding r => s.enter r.state
  | .held r => ({ s with fi := { s.fi with v := 0 } } : State).enter r.state
  | _ => s

/-! ### Jog end causes (R135) -/

/-- The first end cause puts a running jog in ENDING; later ones change nothing (R135). -/
def State.endJog (s : State) (c : EndCause) : State :=
  match s.hj.phase with
  | .running m => { s with hj := { s.hj with phase := .ending m, endCause := some c } }
  | _ => s

/-- The window timer reaches W: the jog ends with EXPIRED (R134, R135). -/
def State.expireWindow (s : State) : State :=
  match s.hj.phase with
  | .running m =>
    ({ s with hj := { s.hj with phase := .running { m with timer := m.window } } } : State).endJog
      .expired
  | _ => s

/-! ### The hold-reason set (R119) -/

/-- The set takes a value; a change makes STATE pending on all ports (R119). FI does not react. -/
def State.putHolds (s : State) (h : HoldSet) : State :=
  if h = s.hj.holds then s
  else ({ s with hj := { s.hj with holds := h } } : State).raiseAll .state

/-- The set takes a value and FI reacts to its becoming non-empty or empty (R86, R89, R119). -/
def State.changeHolds (s : State) (h : HoldSet) : State :=
  let s1 := s.putHolds h
  if !s.hj.holds.any && h.any then s1.holdFeed
  else if s.hj.holds.any && !h.any then s1.resumeFeed
  else s1

/-- JOB, BLADE or LINE joining the set ends a running jog with cause HOLD (R135). -/
def State.joinHold (s : State) (present : Bool) (h : HoldSet) : State :=
  if present then s else (s.changeHolds h).endJog .hold

/-! ### The demand (R57 to R59) -/

/-- D as its source gives it (R58). -/
def State.demandNow (s : State) : Nat :=
  match s.fi.contour with
  | some c => strokeDemand c.grade (withOverride c.fTarget s.hj.override)
  | none =>
    match s.cq.entries with
    | { body := .opening g ft _, .. } :: _ =>
      match s.gt.grades[g]? with
      | some (some r) => strokeDemand r (withOverride ft s.hj.override)
      | _ => 0
    | _ => 0

/-- D is recomputed from its source; a change makes DEMAND pending on the blade port (R59). -/
def State.recomputeDemand (s : State) : State :=
  if s.demandNow = s.fi.demand then s
  else ({ s with fi := { s.fi with demand := s.demandNow } } : State).raise .blade .demand

/-! ### The cap on the speed (R65) -/

/-- The cap C of R65 for the active entry. Without an active path entry there is no motion to cap;
the value is then 0 (log 20). -/
def State.cap (s : State) : Nat :=
  match s.fi.active with
  | none => 0
  | some e =>
    match e.kind with
    | .traverse => min (withOverride s.gt.settings.traverseFeed s.hj.override) s.gt.settings.fMax
    | .opening => 0
    | _ =>
      match s.fi.contour with
      | none => 0
      | some c =>
        let base := min (withOverride c.fTarget s.hj.override)
          (min s.gt.settings.fMax (strokeCeiling (biteOf c.grade e) s.sd.period))
        match s.fi.st with
        | .cutCrawl => min base c.grade.crawl
        | .holding .cutCrawl => min base c.grade.crawl
        | _ => base

/-- Whether the cap limits v: TRAVERSING, CUTTING and HOLDING (R65). -/
def FiState.capped : FiState → Bool
  | .traversing => true
  | .cutNormal => true
  | .cutCrawl => true
  | .holding _ => true
  | _ => false

/-- An event that lowers C below v sets v to C at once; a rise leaves v (R65). -/
def State.applyCap (s : State) : State :=
  if s.fi.st.capped then { s with fi := { s.fi with v := min s.fi.v s.cap } } else s

/-! ### Taking entries (R15, R19) -/

/-- CQ removes the head entry; a downward crossing of the refill level makes REFILL pending (R15,
R19). -/
def State.dropHead (s : State) : State :=
  let before := s.cq.entries.length
  let s1 : State := { s with cq := { s.cq with entries := s.cq.entries.tail } }
  if s.cq.refill < before ∧ before - 1 ≤ s.cq.refill then s1.raise .job .refill else s1

/-- FI makes an entry active at distance done 0; the path heading becomes the entry's own at that
distance (R95, log 13). -/
def State.makeActive (s : State) (e : Entry) : State :=
  { s with fi := { s.fi with active := some e, done := 0,
                             heading := e.entryHeading.getD s.fi.heading } }

/-- The bite of an entry with the latched grade; 0 with no latched grade (R53). -/
def State.bite (s : State) (e : Entry) : Nat :=
  match s.fi.contour with
  | none => 0
  | some c => biteOf c.grade e

/-- The budget becomes the lesser of the budget remaining and the entry's bite (R68, R80, R83). -/
def State.limitBudget (s : State) (e : Entry) : State :=
  { s with fi := { s.fi with budget := min s.fi.budget (s.bite e) } }

/-- FI takes the head entry `e` (R15). -/
def State.takeEntry (s : State) (e : Entry) : State := (s.dropHead.makeActive e).recomputeDemand

/-! ### The contour record and the flush (R20, R64, R90, R116) -/

/-- The contour-active flag is cleared and the contour record released: SD clears SLOW and its
clearing run, HJ removes SLOW and DRIVE_OFF (R64, R84, R116, R122, R123). FI's own state is set by
the step that releases. -/
def State.releaseContour (s : State) : State :=
  match s.fi.contour with
  | none => s
  | some _ =>
    ({ s with fi := { s.fi with contour := none },
              sd := { s.sd with slow := false, clearing := 0 } } : State).putHolds
      { s.hj.holds with slow := false, driveOff := false }

/-- The first contour tag among the active entry and the queue (R22). -/
def State.firstTag (s : State) : Option Word16 :=
  (s.fi.active.toList ++ s.cq.entries).findSome? Entry.tag

/-- The flush of R20 and R90. The FI state after it is set by its cause. -/
def State.flush (s : State) : State :=
  let s1 : State :=
    { s with
      cq := { s.cq with abandoned := s.firstTag, entries := [], inContour := false, openTag := none,
                        tailKind := none, tail := ⟨s.fi.x, s.fi.y⟩, tailHeading := s.fi.heading },
      fi := { s.fi with active := none, done := 0, v := 0, rem := 0 } }
  s1.releaseContour.recomputeDemand

/-! ### Pulse counts (R139 to R145) -/

/-- The target counts of X and Y from the commanded coordinate (R139). -/
def targetOf (c step : Nat) : Int := ((c / step : Nat) : Int)

/-- The owed count (R141). -/
def AxisOut.owed (a : AxisOut) : Int := a.target - a.output

/-- A hand-off to one axis (R141, R143, R145): the schedule of the coming period, or, with MPERMIT
low, counts that follow without a step. -/
def AxisOut.handOff (a : AxisOut) (target : Int) (permitted : Bool) : AxisOut :=
  let owed := target - a.output
  let n := min owed.natAbs 500
  if permitted then
    { a with target := target, laid := n, emitted := 0, step := false,
             dir := if n = 0 then a.dir else decide (0 < owed),
             backlog := if 500 < owed.natAbs then saturate a.backlog else a.backlog }
  else { a with target := target, output := target, laid := 0, emitted := 0, step := false }

/-- What is owed is discarded into the drop count and the output count follows (R145, R148). -/
def AxisOut.discard (a : AxisOut) : AxisOut :=
  { a with drop := a.owed, output := a.target, laid := 0, emitted := 0 }

/-- The unwrapped heading U once the commanded heading `h` is handed to AP (R140). -/
def Pulses.unwrap (p : Pulses) (h : Nat) : Int := p.unwrapped + normalise ((h : Int) - p.lastH)

/-- The hand-off of the commanded position (R69, R139, R140). -/
def State.handOff (s : State) : State :=
  let u := s.ap.unwrap s.fi.h
  { s with ap := { s.ap with
      x := s.ap.x.handOff (targetOf s.fi.x s.gt.settings.stepX) s.mpermit
      y := s.ap.y.handOff (targetOf s.fi.y s.gt.settings.stepY) s.mpermit
      h := s.ap.h.handOff (u / (s.gt.settings.stepH : Int)) s.mpermit
      unwrapped := u
      lastH := s.fi.h } }

/-- The permit state becomes LOW; on the fall AP discards what it owes (R145, R157). The fall is no
hand-off, so a turn of H committed since the last one is not in the counts before the rise (log
40). -/
def State.lowerPermit (s : State) : State :=
  if s.sv.permit then
    { s with sv := { s.sv with permit := false },
             ap := { s.ap with x := s.ap.x.discard, y := s.ap.y.discard, h := s.ap.h.discard } }
  else s

/-- AP takes the commanded heading into the counts of H with the output following, so that nothing is
owed, as at a hand-off with MPERMIT low (R140, R145). -/
def Pulses.takeHeading (p : Pulses) (h stepH : Nat) : Pulses :=
  let count := p.unwrap h / (stepH : Int)
  { p with h := { p.h with target := count, output := count }, unwrapped := p.unwrap h, lastH := h }

/-- The permit state becomes HIGH; AP emits nothing for the rise (R146, R158). A turn of H committed
before the fall and not handed since goes into the counts here, so that the first hand-off after the
rise owes only what has been committed since (R146, log 40). -/
def State.raisePermit (s : State) : State :=
  { s with sv := { s.sv with permit := true }
           ap := s.ap.takeHeading s.fi.h s.gt.settings.stepH }

/-! ### Dispatch (R77) -/

/-- FI is to dispatch (R77): with run-enable set, the queue not empty and the hold-reason set empty
it enters PRIMING at an OPEN or takes a TRAVERSE; otherwise it enters IDLE. A cut entry never stands
at the head here (R3); FI then stays in IDLE (log 20). -/
def State.dispatchNow (s : State) : State :=
  if s.fi.runEnable && !s.hj.holds.any then
    match s.cq.entries with
    | [] => s.enter .idle
    | e :: _ =>
      match e.kind with
      | .opening => s.enter .priming
      | .traverse =>
        ({ s.takeEntry e with fi := { (s.takeEntry e).fi with v := 0 } } : State).enter .traversing
      | _ => s.enter .idle
  else s.enter .idle

/-! ### Quick stop and fault (R93, R94, R152 to R157) -/

/-- The end of the quick stop (R94, R157): FAULT STOPPED with v 0, the permit LOW, the jog's phase
NONE, the flush and the release of the contour record. -/
def State.endStop (s : State) : State :=
  let s1 := (s.enter .stopped).lowerPermit
  let s2 : State := { s1 with hj := { s1.hj with phase := .none } }
  s2.flush

/-- The stop mode a fault finds (R93). -/
def FiState.stopMode : FiState → StopMode
  | .cutNormal => .cutNormal
  | .cutCrawl => .cutCrawl
  | .traversing => .traversing
  | .holding .cutNormal => .cutNormal
  | .holding .cutCrawl => .cutCrawl
  | .holding .traversing => .traversing
  | _ => .none

/-- Whether the jog in progress is a jog of H. -/
def JogPhase.turnsH (p : JogPhase) : Bool := p.move.any fun m => decide (m.axis = .h)

/-- FI's reaction to a first fault (R93, R135, R154): FAULT STOPPING; an H jog stops at the fault,
and with v already 0 the stop ends at once. -/
def State.beginStop (s : State) : State :=
  let s1 := s.endJog .fault
  let s2 := s1.enter (.stopping s.fi.st.stopMode)
  let v := if s.hj.phase.turnsH && decide (s.fi.st = .jog) then 0 else s2.fi.v
  let s3 : State := { s2 with fi := { s2.fi with v := v } }
  if v = 0 then s3.endStop else s3

/-- The fault record as it stands at a report (R153). -/
def State.faultRecord (s : State) (c : Cause) : FaultRecord where
  cause := c
  state := s.fi.st
  tag := s.fi.contour.map Contour.tag
  seq := s.fi.active.map Entry.seq
  x := s.fi.x
  y := s.fi.y
  h := s.fi.h
  ms := s.tb.ms

/-- SV fills the record, makes FAULT pending and restarts the stop timer (R154). -/
def State.recordFault (s : State) (c : Cause) : State :=
  ({ s with sv := { s.sv with record := some (s.faultRecord c), stopTimer := 0 } } : State).raiseAll
    .fault

/-- A further fault advances the further-fault count (R155). -/
def State.furtherFault (s : State) : State :=
  { s with sv := { s.sv with further := saturate s.sv.further } }

/-- A fault report from SD (R152): the first fault while the record is absent, else a further one. -/
def State.reportFault (s : State) (c : Cause) : State :=
  match s.sv.record with
  | none => (s.recordFault c).beginStop
  | some _ => s.furtherFault

/-! ### The SLOW condition reported to HJ (R114, R122) -/

/-- SD holds SLOW raised or clear and HJ follows (R114, R115, R122). -/
def State.setSlow (s : State) (slow : Bool) (clearing : Nat) : State :=
  let s1 : State := { s with sd := { s.sd with slow := slow, clearing := clearing } }
  if slow = s.sd.slow then s1 else s1.changeHolds { s.hj.holds with slow := slow }

/-- Whether the index age is overdue for the contour (R114). -/
def State.overdue (s : State) : Bool :=
  match s.fi.contour with
  | none => false
  | some c => decide (60000000 < s.sd.indexAge * c.grade.minSpm)

/-- The overdue ground: SLOW is raised and the clearing run restarts (R114). -/
def State.raiseSlow (s : State) : State := s.setSlow true 0

end Sys2Proof.Machine
end

