-- ==== Sys2Proof/Machine/Handler.lean ====
section
/-! DEFINITION. The receiving side of ports and handlers that every request command shares: the
storage of characters (R177), the arrival of a whole telegram (log 3), the arbitration of R197, the
checks of R187 and the request in progress of R188; and the writing of telegrams (R181). -/

namespace Sys2Proof.Machine

/-! ### Characters and telegrams in a port -/

/-- A character completed by the receiver joins the receive FIFO, or is an overrun (R177). -/
def PortState.store (q : PortState) (value : Byte) (mark noise framing : Bool) : PortState :=
  if Config.rxCapacity ≤ q.rxFifo.length then
    { q with tallies := { q.tallies with overrun := saturate q.tallies.overrun },
             rx := { q.rx with loss := true } }
  else
    { q with
      rxFifo := q.rxFifo ++ [{ value := value, mark := mark, noise := noise, framing := framing,
                               loss := q.rx.loss }]
      rx := { q.rx with loss := false }
      tallies := { q.tallies with
        noise := if noise then saturate q.tallies.noise else q.tallies.noise
        framing := if framing then saturate q.tallies.framing else q.tallies.framing } }

/-- The unmarked characters of a telegram are stored one after the other. -/
def PortState.storeRest (q : PortState) : List Byte → PortState
  | [] => q
  | b :: rest => (q.store b false false false).storeRest rest

/-- A whole telegram's characters are stored, the first with the mark bit (R186). -/
def PortState.storeTelegram (q : PortState) : List Byte → PortState
  | [] => q
  | b :: rest => (q.store b true false false).storeRest rest

/-- The transmitter begins the oldest character of the FIFO, or rests (R181, R182). -/
def Transmitter.startNext (t : Transmitter) : Transmitter :=
  match t.fifo with
  | [] => { t with phase := .idle, shift := none, bit := 0 }
  | c :: rest => { t with phase := .sending, shift := some c, bit := 0, fifo := rest }

/-- The characters of a telegram with their mark bits (R181). -/
def markChars : List Byte → List TxChar
  | [] => []
  | b :: rest => { mark := true, value := b } :: rest.map fun c => { mark := false, value := c }

/-- A telegram is written into the transmit FIFO; in phase IDLE its first character is begun at once
(R181). -/
def PortState.write (q : PortState) (chars : List Byte) : PortState :=
  let t : Transmitter := { q.tx with fifo := q.tx.fifo ++ markChars chars }
  if q.tx.phase = .idle then { q with tx := t.startNext, txClock := 0 } else { q with tx := t }

/-! ### Notices (R197, R198) -/

/-- The telegram of a notice as its source stands (R198). -/
def State.noticeTelegram (s : State) (k : Notice) : List Byte :=
  telegram k.code <|
    match k with
    | .state =>
      bitsByte [s.fi.st.subMode.isSome, s.fi.st.resume.isSome] ++ natBytes 1 s.fi.st.code
        ++ optBytes 1 s.fi.st.subMode ++ optBytes 1 (s.fi.st.resume.map Resume.code)
        ++ s.hj.holds.bytes
    | .refill => natBytes 1 s.cq.entries.length
    | .contourDone =>
      natBytes 2 s.fi.doneTag.toNat ++ natBytes 4 s.fi.doneStrokes ++ natBytes 2 s.fi.contours.toNat
    | .abandoned => bitsByte [s.cq.abandoned.isSome] ++ optBytes 2 (s.cq.abandoned.map BitVec.toNat)
    | .demand => natBytes 2 s.fi.demand
    | .fault => bitsByte [s.sv.record.isSome] ++ optBytes 1 (s.sv.record.map fun r => r.cause.code)

/-- The pending kind a handler builds next: the lowest one left in the present pass, else the lowest
one of a new pass (R197, log 29). -/
def PortState.nextNotice (q : PortState) : Option Notice := q.nextInPass.or q.pendingKinds.head?

/-- The notice a FREE handler builds now: the next kind, when the whole notice fits (R197). -/
def State.noticeDue (s : State) (p : Port) : Option Notice :=
  match (s.port p).request, (s.port p).nextNotice with
  | none, some k => if (s.noticeTelegram k).length ≤ (s.port p).room then some k else none
  | _, _ => none

/-- A handler takes a telegram when it is FREE and no notice that fits comes first (R188, R197). -/
def State.mayTake (s : State) (p : Port) : Bool :=
  (s.port p).request.isNone && (s.noticeDue p).isNone

/-! ### Requests (R187, R188, R190) -/

/-- What an owner answers to a request: result, flags, reply data (R188). -/
structure Reply where
  result : Result
  flags : ReplyFlags
  data : ReplyData
  deriving DecidableEq, Repr

/-- A refusal: result code, no flags and no data (R190). -/
def refuse (r : Result) : Reply := { result := r, flags := noFlags, data := .fixed [] }

/-- An acceptance without flags. -/
def accept (bytes : List Byte) : Reply :=
  { result := .accepted, flags := noFlags, data := .fixed bytes }

/-- An acceptance with flags. -/
def acceptFlags (f : ReplyFlags) (bytes : List Byte) : Reply :=
  { result := .accepted, flags := f, data := .fixed bytes }

/-- The handler holds a request in progress: BUSY (R188). -/
def State.busy (s : State) (p : Port) (kind : Byte) (r : Reply) : State :=
  s.setPort p { s.port p with
    request := some { kind := kind, result := r.result, flags := r.flags, data := r.data,
                      written := false }
    noticePass := 0 }

/-- The third and fourth checks of R187, then the owner acts at once (R188); `turnedAway` gives the
reply data of a request these checks refuse (R190, log 19). -/
def State.takeRequest (s : State) (p : Port) (kind : Byte) (roles : List Port) (n : Nat)
    (payload : List Byte) (turnedAway : List Byte) (owner : State → State × Reply) : State :=
  if !roles.contains p then
    s.busy p kind { result := .notPermitted, flags := noFlags, data := .fixed turnedAway }
  else if payload.length ≠ n then
    s.busy p kind { result := .badLength, flags := noFlags, data := .fixed turnedAway }
  else ((owner s).1).busy p kind (owner s).2

/-- A request of the job port. -/
def jobOnly : List Port := [.job]

/-- A request of any port. -/
def anyPort : List Port := [.job, .blade, .panel]

/-- A length above 20 cannot be delimited: the check tally advances and nothing is handed on (R178,
log 25). -/
def PortState.countCheck (q : PortState) : PortState :=
  { q with tallies := { q.tallies with check := saturate q.tallies.check } }

/-- The first character of a telegram passes a receive FIFO with room: it takes the loss flag with it,
and as a marked character it damages nothing (R177, R178). -/
def PortState.heard (q : PortState) : PortState := { q with rx := { q.rx with loss := false } }

/-- Nothing waits before a telegram that arrives: the slot and the receive FIFO are empty and the
assembler is HUNTING (R179). -/
def PortState.clear (q : PortState) : Bool :=
  q.asm.slot.isNone && q.rxFifo.isEmpty && !q.asm.assembling

/-- A whole telegram arrives on a port (log 3). With nothing before it, a handler that may take takes
it at once (`take`), and otherwise it waits in the completed slot; behind earlier characters or a full
slot its characters wait in the receive FIFO (R177, R179, R188, R189). The gap timer and the run of high
samples stay as they stood (log 3). -/
def State.arrive (s : State) (p : Port) (chars : List Byte) (take : State → State) : State :=
  let q := s.port p
  if Config.maxPayload + 3 < chars.length then s.setPort p q.heard.countCheck
  else if q.clear then
    if s.mayTake p then take (s.setPort p q.heard)
    else s.setPort p { q.heard with asm := { q.asm with slot := some chars } }
  else s.setPort p (q.storeTelegram chars)

end Sys2Proof.Machine
end

