-- ==== Sys2Proof/Machine/Control.lean ====
section
/-! DEFINITION. The job port's control requests: ONLINE (R76), RUN (R77), PAUSE_AFTER (R85), FLUSH
(R21), RESET_CUT (R91, R124), CLEAR_FAULT (R164, R165), ARM_SUPERVISION (R160), SYNC_TIME (R99) and
SET_JOG_LOCK (R130). -/

namespace Sys2Proof.Machine

/-! ### ONLINE -/

/-- ONLINE at FI: from OFFLINE to IDLE, MPERMIT rises (R76, R158). -/
def ownOnline (_payload : List Byte) (s : State) : State × Reply :=
  if s.fi.st = .offline then ((s.enter .idle).raisePermit, accept [])
  else (s, refuse .wrongState)

/-- The handler takes ONLINE. -/
def takeOnline (p : Port) (d : List Byte) (s : State) : State :=
  s.takeRequest p 0x01 jobOnly 0 d [] (ownOnline d)

/-- ONLINE. -/
def execOnline (p : Port) (d : List Byte) (s : State) : Host.Outcome State Fault Refusal :=
  clocked s fun s => s.arrive p (telegram 0x01 d) (takeOnline p d)

/-! ### RUN and PAUSE_AFTER -/

/-- RUN at FI (R77, R85, R192): run-enable set, pause-after clear; the dispatch is a step of its
own. -/
def ownRun (_payload : List Byte) (s : State) : State × Reply :=
  if s.fi.st = .offline ∨ s.fi.st.isFault = true then (s, refuse .wrongState)
  else ({ s with fi := { s.fi with runEnable := true, pauseAfter := false } },
        accept (boolByte true))

/-- The handler takes RUN. -/
def takeRun (p : Port) (d : List Byte) (s : State) : State :=
  s.takeRequest p 0x14 jobOnly 0 d [] (ownRun d)

/-- RUN. -/
def execRun (p : Port) (d : List Byte) (s : State) : Host.Outcome State Fault Refusal :=
  clocked s fun s => s.arrive p (telegram 0x14 d) (takeRun p d)

/-- PAUSE_AFTER's effect (R85): the pause-after flag while a contour is active outside FAULT;
otherwise both flags clear at once, and PRIMING returns to IDLE (R78). -/
def State.pauseRun (s : State) : State :=
  if s.contourActive && !s.fi.st.isFault then { s with fi := { s.fi with pauseAfter := true } }
  else
    let s1 : State := { s with fi := { s.fi with runEnable := false, pauseAfter := false } }
    if s.fi.st = .priming then s1.enter .idle else s1

/-- PAUSE_AFTER at FI (R85, R192). -/
def ownPauseAfter (_payload : List Byte) (s : State) : State × Reply :=
  (s.pauseRun, accept (bitsByte [s.pauseRun.fi.runEnable, s.pauseRun.fi.pauseAfter]))

/-- The handler takes PAUSE_AFTER. -/
def takePauseAfter (p : Port) (d : List Byte) (s : State) : State :=
  s.takeRequest p 0x15 jobOnly 0 d [] (ownPauseAfter d)

/-- PAUSE_AFTER. -/
def execPauseAfter (p : Port) (d : List Byte) (s : State) : Host.Outcome State Fault Refusal :=
  clocked s fun s => s.arrive p (telegram 0x15 d) (takePauseAfter p d)

/-! ### FLUSH and RESET_CUT -/

/-- The states in which FLUSH is accepted (R21). -/
def FiState.flushable : FiState → Bool
  | .idle => true
  | .priming => true
  | .held _ => true
  | .starved => true
  | _ => false

/-- FLUSH at CQ (R21, R90). -/
def ownFlush (_payload : List Byte) (s : State) : State × Reply :=
  if s.fi.st.flushable then
    (s.flush.enter .idle, accept (natBytes 1 (s.flush.enter .idle).cq.entries.length))
  else (s, refuse .wrongState)

/-- The handler takes FLUSH. -/
def takeFlush (p : Port) (d : List Byte) (s : State) : State :=
  s.takeRequest p 0x16 jobOnly 0 d [] (ownFlush d)

/-- FLUSH. -/
def execFlush (p : Port) (d : List Byte) (s : State) : Host.Outcome State Fault Refusal :=
  clocked s fun s => s.arrive p (telegram 0x16 d) (takeFlush p d)

/-- RESET_CUT ends any jog at once: the cause is kept from the first end, and the phase becomes NONE
(R135, R136, R138). -/
def State.cutJog (s : State) : State :=
  let s1 := s.endJog .resetCut
  { s1 with hj := { s1.hj with phase := .none } }

/-- RESET_CUT's effect, in the order of R91. -/
def State.resetCut (s : State) : State :=
  let s1 := s.flush
  let s2 : State := { s1 with fi := { s1.fi with runEnable := false, pauseAfter := false } }
  let s3 := s2.putHolds { s2.hj.holds with job := false, blade := false, panel := false }
  s3.cutJog.enter .idle

/-- RESET_CUT at FI (R91). -/
def ownResetCut (_payload : List Byte) (s : State) : State × Reply :=
  if s.fi.st = .offline ∨ s.fi.st.isFault = true then (s, refuse .wrongState)
  else (s.resetCut, accept [])

/-- The handler takes RESET_CUT. -/
def takeResetCut (p : Port) (d : List Byte) (s : State) : State :=
  s.takeRequest p 0x17 jobOnly 0 d [] (ownResetCut d)

/-- RESET_CUT. -/
def execResetCut (p : Port) (d : List Byte) (s : State) : Host.Outcome State Fault Refusal :=
  clocked s fun s => s.arrive p (telegram 0x17 d) (takeResetCut p d)

/-! ### CLEAR_FAULT -/

/-- The second test of R164: whether the cause of the record is still present. -/
def State.causePresent (s : State) : Bool :=
  match s.sv.record with
  | none => false
  | some r =>
    decide (r.cause = .stall) && s.sd.running
      && decide (s.gt.settings.stallTimeout ≤ s.sd.edgeAge)

/-- CLEAR_FAULT's effect, in the order of R165. -/
def State.clearFault (s : State) : State :=
  let s1 : State := { s with sv := { s.sv with record := none, further := 0 } }
  let s2 := s1.flush
  let s3 := s2.putHolds { s2.hj.holds with slow := false, driveOff := false }
  let s4 : State := { s3 with fi := { s3.fi with runEnable := false, pauseAfter := false } }
  (s4.enter .idle).raisePermit

/-- CLEAR_FAULT at SV (R164). -/
def ownClearFault (_payload : List Byte) (s : State) : State × Reply :=
  if s.fi.st ≠ .stopped then (s, refuse .wrongState)
  else if s.causePresent then (s, refuse .causePresent)
  else (s.clearFault, accept [])

/-- The handler takes CLEAR_FAULT. -/
def takeClearFault (p : Port) (d : List Byte) (s : State) : State :=
  s.takeRequest p 0x18 jobOnly 0 d [] (ownClearFault d)

/-- CLEAR_FAULT. -/
def execClearFault (p : Port) (d : List Byte) (s : State) : Host.Outcome State Fault Refusal :=
  clocked s fun s => s.arrive p (telegram 0x18 d) (takeClearFault p d)

/-! ### ARM_SUPERVISION, SYNC_TIME, SET_JOG_LOCK -/

/-- ARM_SUPERVISION at SV (R160): a change to armed puts the monitor in WATCHING. The reply's byte
is 1 for armed (log 46). -/
def ownArm (_payload : List Byte) (s : State) : State × Reply :=
  (if s.sv.armed then s
   else { s with sv := { s.sv with armed := true, monitor := .watching, missed := 0 } },
   accept (boolByte true))

/-- The handler takes ARM_SUPERVISION. -/
def takeArmSupervision (p : Port) (d : List Byte) (s : State) : State :=
  s.takeRequest p 0x06 jobOnly 0 d [] (ownArm d)

/-- ARM_SUPERVISION. -/
def execArmSupervision (p : Port) (d : List Byte) (s : State) : Host.Outcome State Fault Refusal :=
  clocked s fun s => s.arrive p (telegram 0x06 d) (takeArmSupervision p d)

/-- SYNC_TIME at TB (R99): the millisecond count and the phase restart; the reply carries the count
as it stood. -/
def ownSyncTime (_payload : List Byte) (s : State) : State × Reply :=
  ({ s with tb := { s.tb with ms := 0, phase := 0 } }, accept (natBytes 4 s.tb.ms.toNat))

/-- The handler takes SYNC_TIME. -/
def takeSyncTime (p : Port) (d : List Byte) (s : State) : State :=
  s.takeRequest p 0x07 jobOnly 0 d [] (ownSyncTime d)

/-- SYNC_TIME. -/
def execSyncTime (p : Port) (d : List Byte) (s : State) : Host.Outcome State Fault Refusal :=
  clocked s fun s => s.arrive p (telegram 0x07 d) (takeSyncTime p d)

/-- SET_JOG_LOCK at HJ (R130). -/
def ownJogLock (payload : List Byte) (s : State) : State × Reply :=
  let v := field payload 0 1
  if 1 < v then (s, refuse .unknownKind)
  else
    ({ s with hj := { s.hj with lock := decide (v = 1) } }, accept (boolByte (decide (v = 1))))

/-- The handler takes SET_JOG_LOCK. -/
def takeSetJogLock (p : Port) (d : List Byte) (s : State) : State :=
  s.takeRequest p 0x08 jobOnly 1 d [] (ownJogLock d)

/-- SET_JOG_LOCK. -/
def execSetJogLock (p : Port) (d : List Byte) (s : State) : Host.Outcome State Fault Refusal :=
  clocked s fun s => s.arrive p (telegram 0x08 d) (takeSetJogLock p d)

end Sys2Proof.Machine
end

