-- ==== Sys2Proof/Machine/Holds.lean ====
section
/-! DEFINITION. The hold-reason set's commands: HOLD and RELEASE (R120), BLADE_STATE (R111, R123),
SET_OVERRIDE (R125, R126) and the edges of HOLDN (R121). -/

namespace Sys2Proof.Machine

/-! ### HOLD and RELEASE -/

/-- The reason of a port (R120). -/
def HoldSet.has (h : HoldSet) : Port → Bool
  | .job => h.job
  | .blade => h.blade
  | .panel => h.panel

/-- The set with a port's reason present or absent. -/
def HoldSet.put (h : HoldSet) (p : Port) (b : Bool) : HoldSet :=
  match p with
  | .job => { h with job := b }
  | .blade => { h with blade := b }
  | .panel => { h with panel := b }

/-- A port's reason joins the set (R86, R120); JOB or BLADE joining ends a running jog, PANEL does
not (R135). -/
def State.addHold (s : State) (p : Port) : State :=
  match p with
  | .job => s.joinHold s.hj.holds.job (s.hj.holds.put .job true)
  | .blade => s.joinHold s.hj.holds.blade (s.hj.holds.put .blade true)
  | .panel => s.changeHolds (s.hj.holds.put .panel true)

/-- HOLD at HJ (R120): the reason is that of the receiving port. -/
def ownHold (p : Port) (_payload : List Byte) (s : State) : State × Reply :=
  (s.addHold p, accept (s.addHold p).hj.holds.bytes)

/-- The handler takes HOLD. -/
def takeHold (p : Port) (d : List Byte) (s : State) : State :=
  s.takeRequest p 0x19 anyPort 0 d [] (ownHold p d)

/-- HOLD. -/
def execHold (p : Port) (d : List Byte) (s : State) : Host.Outcome State Fault Refusal :=
  clocked s fun s => s.arrive p (telegram 0x19 d) (takeHold p d)

/-- RELEASE at HJ (R120): NOT_HELD when the port's reason was absent. -/
def ownRelease (p : Port) (_payload : List Byte) (s : State) : State × Reply :=
  let s1 := s.changeHolds (s.hj.holds.put p false)
  (s1, acceptFlags { clamped := false, inUse := false, notHeld := !s.hj.holds.has p }
         s1.hj.holds.bytes)

/-- The handler takes RELEASE. -/
def takeRelease (p : Port) (d : List Byte) (s : State) : State :=
  s.takeRequest p 0x1A anyPort 0 d [] (ownRelease p d)

/-- RELEASE. -/
def execRelease (p : Port) (d : List Byte) (s : State) : Host.Outcome State Fault Refusal :=
  clocked s fun s => s.arrive p (telegram 0x1A d) (takeRelease p d)

/-! ### BLADE_STATE -/

/-- The blade state takes a value (R111): a change to RUNNING while the contour is active restarts
the stall monitor (R112), and HJ re-evaluates DRIVE_OFF (R123). -/
def State.setBlade (s : State) (running : Bool) : State :=
  if running = s.sd.running then s
  else
    let s1 : State :=
      { s with sd := { s.sd with
          running := running
          stallTimer := if running && s.contourActive then 0 else s.sd.stallTimer } }
    if running then s1.changeHolds { s1.hj.holds with driveOff := false }
    else if s.contourActive then s1.changeHolds { s1.hj.holds with driveOff := true }
    else s1

/-- BLADE_STATE at SD (R111). -/
def ownBladeState (payload : List Byte) (s : State) : State × Reply :=
  let v := field payload 0 1
  if 1 < v then (s, refuse .unknownKind)
  else (s.setBlade (decide (v = 1)), accept (boolByte (decide (v = 1))))

/-- The handler takes BLADE_STATE. -/
def takeBladeState (p : Port) (d : List Byte) (s : State) : State :=
  s.takeRequest p 0x1B [.blade] 1 d [] (ownBladeState d)

/-- BLADE_STATE. -/
def execBladeState (p : Port) (d : List Byte) (s : State) : Host.Outcome State Fault Refusal :=
  clocked s fun s => s.arrive p (telegram 0x1B d) (takeBladeState p d)

/-! ### SET_OVERRIDE -/

/-- A change of override reaches FI's cap and the demand at once (R126). -/
def State.setOverride (s : State) (v : Nat) : State :=
  if v = s.hj.override then s
  else (({ s with hj := { s.hj with override := v } } : State).applyCap).recomputeDemand

/-- SET_OVERRIDE at HJ (R125). -/
def ownOverride (payload : List Byte) (s : State) : State × Reply :=
  let received := field payload 0 2
  (s.setOverride (min 150 received),
   acceptFlags (clampedIf (decide (150 < received))) (natBytes 1 (min 150 received)))

/-- The handler takes SET_OVERRIDE. -/
def takeSetOverride (p : Port) (d : List Byte) (s : State) : State :=
  s.takeRequest p 0x1D [.panel] 2 d [] (ownOverride d)

/-- SET_OVERRIDE. -/
def execSetOverride (p : Port) (d : List Byte) (s : State) : Host.Outcome State Fault Refusal :=
  clocked s fun s => s.arrive p (telegram 0x1D d) (takeSetOverride p d)

/-! ### HOLDN -/

/-- A filter at a filtered edge to a level (R101). -/
def Filter.edge (level : Bool) : Filter := { raw := level, filtered := level, run := 0 }

/-- The pin and the filter of HOLDN at a filtered edge (log 26). -/
def State.holdnEdge (s : State) (level : Bool) : State :=
  { s with pins := { s.pins with holdn := level }, sd := { s.sd with holdn := Filter.edge level } }

/-- LINE joins the set: a filtered falling edge of HOLDN (R121, R135). -/
def State.lineFalls (s : State) : State :=
  (s.holdnEdge false).joinHold s.hj.holds.line { s.hj.holds with line := true }

/-- LINE leaves the set: a filtered rising edge of HOLDN (R121). -/
def State.lineRises (s : State) : State :=
  (s.holdnEdge true).changeHolds { s.hj.holds with line := false }

/-- HOLDN_FALL; the edge exists only while the filtered level is high (log 4). -/
def execHoldnFall (s : State) : Host.Outcome State Fault Refusal :=
  clocked s fun s => if s.sd.holdn.filtered then s.lineFalls else s

/-- HOLDN_RISE; the edge exists only while the filtered level is low (log 4). -/
def execHoldnRise (s : State) : Host.Outcome State Fault Refusal :=
  clocked s fun s => if s.sd.holdn.filtered then s else s.lineRises

end Sys2Proof.Machine
end

