-- ==== Sys2Proof/Machine/Jog.lean ====
section
/-! DEFINITION. The jog's commands: JOG_START (R128, R129), JOG_KEEP and WINDOW_EXPIRY (R134) and
JOG_END (R135). The jog's motion is in Feed.lean. -/

namespace Sys2Proof.Machine

/-! ### JOG_START -/

/-- The axis an axis code names (R200). -/
def axisOf : Nat → Option Axis
  | 0 => some .x
  | 1 => some .y
  | 2 => some .h
  | _ => none

/-- The speed stored for a jog (R128, R200): lowered to 1,000,000, then clamped to the axis's
range. -/
def State.jogSpeed (s : State) (axis : Axis) (received : Nat) : Nat :=
  match axis with
  | .h => clampTo 1 s.gt.settings.slewH (min 1000000 received)
  | _ => clampTo 100 s.gt.settings.traverseFeed (min 1000000 received)

/-- A jog from HELD first abandons the held work (R129, R22). -/
def State.abandon (s : State) : State :=
  match s.fi.st with
  | .held _ => s.flush.raise .job .abandoned
  | _ => s

/-- FI enters JOG with v and remainder 0, and HJ fills the jog record (R129). -/
def State.startJog (s : State) (axis : Axis) (positive : Bool) (speed : Nat) : State :=
  let s1 := s.abandon
  let s2 : State :=
    { s1 with
      fi := { s1.fi with v := 0, rem := 0 }
      hj := { s1.hj with
        phase := .running { axis := axis, positive := positive, speed := speed,
                            window := s.gt.settings.window, timer := 0 }
        endCause := none } }
  s2.enter .jog

/-- The second test of R128: IDLE with an empty queue, or HELD. -/
def State.mayJog (s : State) : Bool :=
  match s.fi.st with
  | .idle => s.cq.entries.isEmpty
  | .held _ => true
  | _ => false

/-- The fourth test of R128 fails: HELD with the jog lock set. -/
def State.jogLocked (s : State) : Bool := decide (s.fi.st ≠ .idle) && s.hj.lock

/-- JOG_START at HJ, in the order of R128. -/
def ownJogStart (payload : List Byte) (s : State) : State × Reply :=
  let direction := field payload 1 1
  let received := field payload 2 3
  match axisOf (field payload 0 1) with
  | none => (s, refuse .unknownKind)
  | some axis =>
    if 1 < direction then (s, refuse .unknownKind)
    else if !s.mayJog then (s, refuse .wrongState)
    else if s.hj.holds.job || s.hj.holds.blade || s.hj.holds.line then (s, refuse .heldByOther)
    else if s.jogLocked then (s, refuse .locked)
    else
      let speed := s.jogSpeed axis received
      (s.startJog axis (decide (direction = 0)) speed,
       acceptFlags (clampedIf (decide (speed ≠ received)))
         (natBytes 1 (axisCode axis) ++ natBytes 1 direction ++ natBytes 3 speed))

/-- The handler takes JOG_START. -/
def takeJogStart (p : Port) (d : List Byte) (s : State) : State :=
  s.takeRequest p 0x1E [.panel] 5 d [] (ownJogStart d)

/-- JOG_START. -/
def execJogStart (p : Port) (d : List Byte) (s : State) : Host.Outcome State Fault Refusal :=
  clocked s fun s => s.arrive p (telegram 0x1E d) (takeJogStart p d)

/-! ### JOG_KEEP and JOG_END -/

/-- The reply data of JOG_KEEP: presence, phase, end cause (R200). -/
def State.keepBytes (s : State) : List Byte :=
  bitsByte [s.hj.endCause.isSome] ++ natBytes 1 s.hj.phase.code
    ++ optBytes 1 (s.hj.endCause.map EndCause.code)

/-- JOG_KEEP's effect on a running jog (R134): before a quarter of the window the jog ends with
EARLY, otherwise the timer restarts. -/
def State.keepJog (s : State) (m : JogMove) : State :=
  if m.timer < m.window / 4 then
    let s1 := s.endJog .early
    { s1 with hj := { s1.hj with earlyTally := saturate s1.hj.earlyTally } }
  else { s with hj := { s.hj with phase := .running { m with timer := 0 } } }

/-- JOG_KEEP at HJ (R134). -/
def ownJogKeep (_payload : List Byte) (s : State) : State × Reply :=
  match s.hj.phase with
  | .running m => (s.keepJog m, accept (s.keepJog m).keepBytes)
  | _ => (s, refuse .wrongState)

/-- The handler takes JOG_KEEP. -/
def takeJogKeep (p : Port) (d : List Byte) (s : State) : State :=
  s.takeRequest p 0x1F [.panel] 0 d [] (ownJogKeep d)

/-- JOG_KEEP. -/
def execJogKeep (p : Port) (d : List Byte) (s : State) : Host.Outcome State Fault Refusal :=
  clocked s fun s => s.arrive p (telegram 0x1F d) (takeJogKeep p d)

/-- JOG_END at HJ (R135). -/
def ownJogEnd (_payload : List Byte) (s : State) : State × Reply :=
  match s.hj.phase with
  | .running _ => (s.endJog .ended, accept (natBytes 1 (s.endJog .ended).hj.phase.code))
  | _ => (s, refuse .wrongState)

/-- The handler takes JOG_END. -/
def takeJogEnd (p : Port) (d : List Byte) (s : State) : State :=
  s.takeRequest p 0x20 [.panel] 0 d [] (ownJogEnd d)

/-- JOG_END. -/
def execJogEnd (p : Port) (d : List Byte) (s : State) : Host.Outcome State Fault Refusal :=
  clocked s fun s => s.arrive p (telegram 0x20 d) (takeJogEnd p d)

/-! ### WINDOW_EXPIRY -/

/-- WINDOW_EXPIRY: the tick that brings the window timer to W, sent alone; behind a
FEED_PERIOD_EXPIRY that brought it there the jog has ended already (log 1, log 32). -/
def execWindowExpiry (s : State) : Host.Outcome State Fault Refusal :=
  clocked s State.expireWindow

end Sys2Proof.Machine
end

