-- ==== Sys2Proof/Machine/Queue.lean ====
section
/-! DEFINITION. The contour queue's requests: the receipt checks of QUEUE_TRAVERSE, QUEUE_OPEN,
QUEUE_LINE and QUEUE_ARC (R3 to R13), SET_LEVELS (R17) and SET_ORIGIN (R24). -/

namespace Sys2Proof.Machine

/-! ### Receipt (R8 to R13) -/

/-- Whether a point lies in the workspace, bounds included (R11). -/
def State.inWorkspace (s : State) (x y : Int) : Bool :=
  decide (0 ≤ x) && decide (x ≤ s.gt.settings.xLimit) && decide (0 ≤ y)
    && decide (y ≤ s.gt.settings.yLimit)

/-- The state test and the first two checks (R8, R9): `cut` says whether the kind needs an open
contour (R3). -/
def State.receiptGate (s : State) (cut : Bool) : Option Result :=
  if s.fi.st.isFault || decide (s.fi.st = .jog) then some .wrongState
  else if Config.queueCapacity ≤ s.cq.entries.length then some .queueFull
  else if cut && !s.cq.inContour then some .noContour
  else if !cut && s.cq.inContour then some .contourOpen
  else none

/-- The reply to a refused entry: the code and the unchanged level (R8). -/
def State.refuseEntry (s : State) (r : Result) : State × Reply :=
  (s, { result := r, flags := noFlags, data := .fixed (natBytes 1 s.cq.entries.length) })

/-- The junction angle of a cut entry at receipt: present after a LINE or an ARC (R5). -/
def State.junctionAt (s : State) (entryHeading : Nat) : Option Int :=
  match s.cq.tailKind with
  | some .line => some (junctionAngle s.cq.tailHeading entryHeading)
  | some .arc => some (junctionAngle s.cq.tailHeading entryHeading)
  | _ => none

/-- The prepared entry at the tail (R4, R13). -/
def State.prepared (s : State) (stop : Point) (length : Nat) (body : Body) : Entry :=
  { seq := s.cq.seq, start := s.cq.tail, stop := stop, length := length, body := body }

/-- Acceptance: the entry joins at the tail, the counter advances, the tail follows (R2, R13); into
an empty queue it changes the head, so D is recomputed (R59). -/
def State.acceptEntry (s : State) (e : Entry) : State :=
  let s1 : State :=
    { s with cq := { s.cq with
        entries := s.cq.entries ++ [e]
        seq := s.cq.seq + 1
        tail := e.stop
        tailHeading := e.exitHeading.getD s.cq.tailHeading
        tailKind := some e.kind
        inContour := match e.kind with
          | .opening => true
          | .traverse => s.cq.inContour
          | _ => s.cq.inContour && !e.endMark
        openTag := match e.kind with
          | .opening => e.tag
          | .traverse => s.cq.openTag
          | _ => if e.endMark then none else s.cq.openTag } }
  if s.cq.entries.isEmpty then s1.recomputeDemand else s1

/-- The answer to an accepted entry: sequence number and new level (R13, R200). -/
def State.acceptReply (s : State) (e : Entry) (clamped : Bool) : State × Reply :=
  (s.acceptEntry e,
   acceptFlags (clampedIf clamped)
     (natBytes 2 e.seq.toNat ++ natBytes 1 (s.acceptEntry e).cq.entries.length))

/-- CQ's handling of QUEUE_TRAVERSE (R8 to R13). -/
def ownTraverse (payload : List Byte) (s : State) : State × Reply :=
  let stop : Point := ⟨field payload 0 3, field payload 3 3⟩
  match s.receiptGate false with
  | some r => s.refuseEntry r
  | none =>
    if !s.inWorkspace stop.x stop.y then s.refuseEntry .outsideWorkspace
    else if stop = s.cq.tail then s.refuseEntry .zeroLength
    else
      s.acceptReply
        (s.prepared stop (lineLength s.cq.tail stop) (.traverse (lineHeading s.cq.tail stop))) false

/-- CQ's handling of QUEUE_OPEN (R7 to R11, R13). -/
def ownOpen (payload : List Byte) (s : State) : State × Reply :=
  let start : Point := ⟨field payload 0 3, field payload 3 3⟩
  let grade := field payload 6 1
  let received := field payload 7 3
  let target := clampTo 1000 800000 received
  match s.receiptGate false with
  | some r => s.refuseEntry r
  | none =>
    if start ≠ s.cq.tail then s.refuseEntry .startMismatch
    else if ((s.gt.grades[grade]?).join).isNone then s.refuseEntry .gradeInvalid
    else if !s.inWorkspace s.cq.tail.x s.cq.tail.y then s.refuseEntry .outsideWorkspace
    else
      s.acceptReply
        (s.prepared s.cq.tail 0 (.opening grade target (BitVec.ofNat 16 (field payload 10 2))))
        (decide (target ≠ received))

/-- CQ's handling of QUEUE_LINE (R8 to R13); option bit 1 is the END mark (R200). -/
def ownLine (payload : List Byte) (s : State) : State × Reply :=
  let stop : Point := ⟨field payload 0 3, field payload 3 3⟩
  let endMark := (field payload 6 1).testBit 1
  match s.receiptGate true with
  | some r => s.refuseEntry r
  | none =>
    if !s.inWorkspace stop.x stop.y then s.refuseEntry .outsideWorkspace
    else if stop = s.cq.tail then s.refuseEntry .zeroLength
    else
      let heading := lineHeading s.cq.tail stop
      s.acceptReply
        (s.prepared stop (lineLength s.cq.tail stop)
          (.line (s.cq.openTag.getD 0) heading (s.junctionAt heading) endMark)) false

/-- The derived fields of an arc at receipt (R45 to R47). -/
structure ArcReceipt where
  shape : ArcShape
  startAngle : Nat
  endRadius : Nat
  entryHeading : Nat
  exitHeading : Nat
  deriving DecidableEq, Repr

/-- CQ forms the vectors, angles, sweep and headings of an arc from its start point (R45 to R47). -/
def arcReceipt (start stop : Point) (cx cy : Int) (ccw : Bool) : ArcReceipt :=
  let sx := (start.x : Int) - cx
  let sy := (start.y : Int) - cy
  let ex := (stop.x : Int) - cx
  let ey := (stop.y : Int) - cy
  let startAngle := vectorHeading sx sy
  let endAngle := vectorHeading ex ey
  { shape := { cx := cx, cy := cy, radius := vectorLength sx sy, ccw := ccw,
               sweep := arcSweep ccw startAngle endAngle }
    startAngle := startAngle
    endRadius := vectorLength ex ey
    entryHeading := arcTangent ccw startAngle
    exitHeading := arcTangent ccw endAngle }

/-- CQ's handling of QUEUE_ARC (R6, R8 to R13, R45 to R49); the payload is that of R202. -/
def ownArc (payload : List Byte) (s : State) : State × Reply :=
  let stop : Point := ⟨field payload 0 3, field payload 3 3⟩
  let options := field payload 12 1
  let endMark := options.testBit 1
  let a := arcReceipt s.cq.tail stop (signedField payload 6 3) (signedField payload 9 3)
    (options.testBit 0)
  let length := arcLength a.shape.radius a.shape.sweep
  match s.receiptGate true with
  | some r => s.refuseEntry r
  | none =>
    if !(((stop.x : Int), (stop.y : Int)) :: arcExtremes a.shape a.startAngle).all
        (fun pt => s.inWorkspace pt.1 pt.2) then s.refuseEntry .outsideWorkspace
    else if 50 < ((a.shape.radius : Int) - a.endRadius).natAbs then s.refuseEntry .arcMismatch
    else if a.shape.radius < 1000 then s.refuseEntry .arcTooSmall
    else if length = 0 then s.refuseEntry .zeroLength
    else
      s.acceptReply
        (s.prepared stop length
          (.arc (s.cq.openTag.getD 0) a.entryHeading a.exitHeading (s.junctionAt a.entryHeading)
            endMark a.shape)) false

/-- The level every reply to a queue request carries (R1, R8, R190). -/
def State.levelBytes (s : State) : List Byte := natBytes 1 s.cq.entries.length

/-- The handler takes QUEUE_TRAVERSE (R200). -/
def takeQueueTraverse (p : Port) (d : List Byte) (s : State) : State :=
  s.takeRequest p 0x10 jobOnly 6 d s.levelBytes (ownTraverse d)

/-- The handler takes QUEUE_OPEN (R200). -/
def takeQueueOpen (p : Port) (d : List Byte) (s : State) : State :=
  s.takeRequest p 0x11 jobOnly 12 d s.levelBytes (ownOpen d)

/-- The handler takes QUEUE_LINE (R200). -/
def takeQueueLine (p : Port) (d : List Byte) (s : State) : State :=
  s.takeRequest p 0x12 jobOnly 7 d s.levelBytes (ownLine d)

/-- The handler takes QUEUE_ARC (R200). -/
def takeQueueArc (p : Port) (d : List Byte) (s : State) : State :=
  s.takeRequest p 0x13 jobOnly 13 d s.levelBytes (ownArc d)

/-- QUEUE_TRAVERSE. -/
def execQueueTraverse (p : Port) (d : List Byte) (s : State) : Host.Outcome State Fault Refusal :=
  clocked s fun s => s.arrive p (telegram 0x10 d) (takeQueueTraverse p d)

/-- QUEUE_OPEN. -/
def execQueueOpen (p : Port) (d : List Byte) (s : State) : Host.Outcome State Fault Refusal :=
  clocked s fun s => s.arrive p (telegram 0x11 d) (takeQueueOpen p d)

/-- QUEUE_LINE. -/
def execQueueLine (p : Port) (d : List Byte) (s : State) : Host.Outcome State Fault Refusal :=
  clocked s fun s => s.arrive p (telegram 0x12 d) (takeQueueLine p d)

/-- QUEUE_ARC. -/
def execQueueArc (p : Port) (d : List Byte) (s : State) : Host.Outcome State Fault Refusal :=
  clocked s fun s => s.arrive p (telegram 0x13 d) (takeQueueArc p d)

/-! ### Levels and origin -/

/-- SET_LEVELS at CQ: both levels clamped and stored (R17). -/
def ownLevels (payload : List Byte) (s : State) : State × Reply :=
  let prime := field payload 0 1
  let refill := field payload 1 1
  let prime' := clampTo 1 48 prime
  let refill' := min 47 refill
  ({ s with cq := { s.cq with prime := prime', refill := refill' } },
   acceptFlags (clampedIf (decide (prime' ≠ prime ∨ refill' ≠ refill)))
     (natBytes 1 prime' ++ natBytes 1 refill'))

/-- The handler takes SET_LEVELS. -/
def takeSetLevels (p : Port) (d : List Byte) (s : State) : State :=
  s.takeRequest p 0x04 jobOnly 2 d [] (ownLevels d)

/-- SET_LEVELS. -/
def execSetLevels (p : Port) (d : List Byte) (s : State) : Host.Outcome State Fault Refusal :=
  clocked s fun s => s.arrive p (telegram 0x04 d) (takeSetLevels p d)

/-- An axis whose counts shift to a new origin without steps (R147); with MPERMIT low the output
count follows the target count (R145). -/
def AxisOut.shift (a : AxisOut) (target : Int) (permitted : Bool) : AxisOut :=
  { a with target := target,
           output := if permitted then a.output + (target - a.target) else target }

/-- SET_ORIGIN at FI, CQ and AP (R24, R147). -/
def ownOrigin (payload : List Byte) (s : State) : State × Reply :=
  let x := field payload 0 3
  let y := field payload 3 3
  if s.fi.st ≠ .idle ∨ s.cq.entries ≠ [] then (s, refuse .wrongState)
  else if s.gt.settings.xLimit < x ∨ s.gt.settings.yLimit < y then (s, refuse .outsideWorkspace)
  else
    ({ s with
        fi := { s.fi with x := x, y := y }
        cq := { s.cq with tail := ⟨x, y⟩, tailKind := none }
        ap := { s.ap with
          x := s.ap.x.shift (targetOf x s.gt.settings.stepX) s.mpermit
          y := s.ap.y.shift (targetOf y s.gt.settings.stepY) s.mpermit } },
     accept [])

/-- The handler takes SET_ORIGIN. -/
def takeSetOrigin (p : Port) (d : List Byte) (s : State) : State :=
  s.takeRequest p 0x05 jobOnly 6 d [] (ownOrigin d)

/-- SET_ORIGIN. -/
def execSetOrigin (p : Port) (d : List Byte) (s : State) : Host.Outcome State Fault Refusal :=
  clocked s fun s => s.arrive p (telegram 0x05 d) (takeSetOrigin p d)

end Sys2Proof.Machine
end

