-- ==== Sys2Proof/Machine/Serial.lean ====
section
/-! DEFINITION. The serial ports' steps: the receiver (R173 to R176), the assembler (R178 to R180), the
transmitter (R181, R182) and the switch of rate (R172). -/

namespace Sys2Proof.Machine

/-- A port's state replaced by a function of it. -/
def State.onPort (s : State) (p : Port) (f : PortState → PortState) : State := s.setPort p (f (s.port p))

/-! ### Receiver -/

/-- The receiver back in IDLE with a high-run count; the loss flag is kept. -/
def Receiver.toIdle (r : Receiver) (highRun : Nat) : Receiver :=
  { phase := .idle, highRun := highRun, index := 0, bits := [], votes := [], noise := false,
    breakTest := 0, loss := r.loss }

/-- The verification of a start bit at sample 7 (R173). -/
def PortState.verifyStart (q : PortState) (s3 s5 s7 : Bool) : PortState :=
  if (s3 && s5) || (s3 && s7) || (s5 && s7) then
    { q with rx := q.rx.toIdle 0, tallies := { q.tallies with noise := saturate q.tallies.noise } }
  else
    { q with rx := { q.rx with phase := .data, highRun := 0, index := 7, bits := [], votes := [],
                               noise := s3 || s5 || s7 } }

/-- START_BIT_VERIFY: the receiver is in START, or enters it with this start bit, which phase IDLE takes
only after three high samples (R173, log 27). -/
def execStartBitVerify (p : Port) (s3 s5 s7 : Bool) (s : State) : Host.Outcome State Fault Refusal :=
  clocked s fun s =>
    match (s.port p).rx.phase with
    | .idle =>
      if (s.port p).rx.highRun = 3 then s.onPort p fun q => q.verifyStart s3 s5 s7 else s
    | .start => s.onPort p fun q => q.verifyStart s3 s5 s7
    | _ => s

/-- A character complete at sample 169 (R174). -/
def PortState.characterDone (q : PortState) (value : Byte) (mark stop noise : Bool) : PortState :=
  let noisy := q.rx.noise || noise
  if stop then
    let q1 := q.store value mark noisy false
    { q1 with rx := q1.rx.toIdle 3 }
  else if decide (value ≠ 0) || mark then
    let q1 := q.store value mark noisy true
    { q1 with rx := q1.rx.toIdle 0 }
  else
    { q with rx := { q.rx with phase := .low, highRun := 0, index := 0, bits := [], votes := [],
                               noise := noisy, breakTest := 0 } }

/-- RX_CHARACTER: the receiver is in DATA (R174, log 4). -/
def execRxCharacter (p : Port) (value : Byte) (mark stop noise : Bool) (s : State) :
    Host.Outcome State Fault Refusal :=
  clocked s fun s =>
    if (s.port p).rx.phase = .data then
      s.onPort p fun q => q.characterDone value mark stop noise
    else s

/-- The line has returned in phase LOW: the held character of zeros is stored tagged FRAMING
(R175). -/
def PortState.lineReturn (q : PortState) : PortState :=
  let q1 := q.store 0 false q.rx.noise true
  { q1 with rx := q1.rx.toIdle 3 }

/-- LOW_PHASE_RETURN (R175, log 4). -/
def execLowPhaseReturn (p : Port) (s : State) : Host.Outcome State Fault Refusal :=
  clocked s fun s => if (s.port p).rx.phase = .low then s.onPort p PortState.lineReturn else s

/-- A break found on a port (R175, R176). The run of high samples starts again at 0: high samples at the
end of phase LOW do not count toward the three that end phase BREAK (log 30). -/
def PortState.takeBreak (q : PortState) : PortState :=
  { q with
    rx := { phase := .brk, highRun := 0, index := 0, bits := [], votes := [], noise := false,
            breakTest := 0, loss := false }
    rxFifo := []
    asm := { q.asm with assembling := false, chars := [], damaged := false }
    tallies := { q.tallies with brk := saturate q.tallies.brk } }

/-- A break; on the panel port it ends a running jog (R169, R176). -/
def State.findBreak (s : State) (p : Port) : State :=
  let s1 := s.onPort p PortState.takeBreak
  if p = .panel then s1.endJog .brk else s1

/-- BREAK (R175, R176, log 4). -/
def execBreak (p : Port) (s : State) : Host.Outcome State Fault Refusal :=
  clocked s fun s => if (s.port p).rx.phase = .low then s.findBreak p else s

/-- BREAK_PHASE_END: three consecutive high samples in phase BREAK (R175, log 4). -/
def execBreakPhaseEnd (p : Port) (s : State) : Host.Outcome State Fault Refusal :=
  clocked s fun s =>
    if (s.port p).rx.phase = .brk then s.onPort p fun q => { q with rx := q.rx.toIdle 3 } else s

/-! ### Assembler -/

/-- The assembler back in HUNTING with nothing in assembly. -/
def Assembler.hunt (a : Assembler) : Assembler :=
  { a with assembling := false, chars := [], damaged := false }

/-- An unmarked character is added to the telegram in assembly (R178): a length above 20 is discarded,
and a complete telegram goes to the slot unless it is damaged. -/
def PortState.addChar (q : PortState) (c : RxChar) : PortState :=
  let chars := q.asm.chars ++ [c.value]
  let damaged := q.asm.damaged || c.loss
  let n := (chars.getD 1 0).toNat
  if chars.length = 2 ∧ Config.maxPayload < n then
    ({ q with asm := q.asm.hunt } : PortState).countCheck
  else if 2 ≤ chars.length ∧ chars.length = n + 3 then
    { q with asm := { q.asm.hunt with slot := if damaged then none else some chars } }
  else { q with asm := { q.asm with chars := chars, damaged := damaged } }

/-- The handling of a character the assembler takes (R178). -/
def PortState.assemble (q : PortState) (c : RxChar) : PortState :=
  if c.framing then { q with asm := q.asm.hunt }
  else if c.mark then
    { q with
      asm := { q.asm with assembling := true, chars := [c.value], damaged := false }
      tallies := { q.tallies with
        gap := if q.asm.assembling then saturate q.tallies.gap else q.tallies.gap } }
  else if q.asm.assembling then q.addChar c
  else q

/-- The assembler takes the oldest character when the slot is empty; the gap timer restarts (R178,
R180). -/
def PortState.assemblerTake (q : PortState) : PortState :=
  match q.asm.slot, q.rxFifo with
  | none, c :: rest =>
    ({ q with rxFifo := rest, asm := { q.asm with gap := 0 } } : PortState).assemble c
  | _, _ => q

/-- ASSEMBLER_TAKE. -/
def execAssemblerTake (p : Port) (s : State) : Host.Outcome State Fault Refusal :=
  clocked s fun s => s.onPort p PortState.assemblerTake

/-- Samples of silence after which a telegram in assembly is abandoned (R180). -/
def gapLimit : Nat := 384

/-- The gap timer reaches 384 in ASSEMBLING (R180). -/
def PortState.gapExpire (q : PortState) : PortState :=
  if q.asm.assembling then
    { q with asm := { q.asm.hunt with gap := gapLimit },
             tallies := { q.tallies with gap := saturate q.tallies.gap } }
  else q

/-- GAP_EXPIRY. -/
def execGapExpiry (p : Port) (s : State) : Host.Outcome State Fault Refusal :=
  clocked s fun s => s.onPort p PortState.gapExpire

/-! ### Transmitter -/

/-- The stop bit of the character in the shift has left (R181). -/
def PortState.characterSent (q : PortState) : PortState :=
  if q.tx.phase = .sending then { q with tx := q.tx.startNext, txClock := 0 } else q

/-- CHARACTER_SENT. -/
def execCharacterSent (p : Port) (s : State) : Host.Outcome State Fault Refusal :=
  clocked s fun s => s.onPort p PortState.characterSent

/-- The idle frame has ended (R182). -/
def PortState.guardEnd (q : PortState) : PortState :=
  if q.tx.phase = .guard then
    { q with tx := ({ q.tx with guard := 0 } : Transmitter).startNext, txClock := 0 }
  else q

/-- GUARD_END. -/
def execGuardEnd (p : Port) (s : State) : Host.Outcome State Fault Refusal :=
  clocked s fun s => s.onPort p PortState.guardEnd

/-- The reply of an accepted SET_BAUD is written and its last stop bit has left the line (R172). -/
def PortState.switchDue (q : PortState) : Bool :=
  q.request.any (fun r => r.written) && decide (q.tx.phase = .idle) && q.tx.fifo.isEmpty

/-- The switch of rate (R172). -/
def PortState.baudSwitch (q : PortState) : PortState :=
  match q.pendingDivisor with
  | some d =>
    if q.switchDue then
      { q with
        divisor := d
        pendingDivisor := none
        rxClock := 0
        txClock := 0
        rx := q.rx.toIdle 0
        tx := { q.tx with phase := .guard, guard := 0, shift := none, bit := 0 }
        request := none
        noticePass := 0 }
    else q
  | none => q

/-- BAUD_SWITCH. -/
def execBaudSwitch (p : Port) (s : State) : Host.Outcome State Fault Refusal :=
  clocked s fun s => s.onPort p PortState.baudSwitch

end Sys2Proof.Machine
end

