-- ==== Sys2Proof/Machine/Settings.lean ====
section
/-! DEFINITION. Foam grades and machine settings: SET_GRADE (R27 to R30), SET_MACHINE (R32 to R37,
R103, R148) and SET_BLADE_OFFSET (R38). -/

namespace Sys2Proof.Machine

/-! ### Grades -/

/-- The seven received fields of a grade record, in the order of R26. -/
def receivedGrade (payload : List Byte) : Grade where
  bite := field payload 1 2
  turn := field payload 3 2
  smooth := field payload 5 2
  pivot := field payload 7 2
  crawl := field payload 9 2
  minSpm := field payload 11 2
  settle := field payload 13 1

/-- The clamps of R27: s_g first, then p_g into s_g..9,000. -/
def clampGrade (g : Grade) : Grade where
  bite := clampTo 50 4000 g.bite
  turn := clampTo 5 1000 g.turn
  smooth := min 200 g.smooth
  pivot := clampTo (min 200 g.smooth) 9000 g.pivot
  crawl := clampTo 500 20000 g.crawl
  minSpm := clampTo 1200 12000 g.minSpm
  settle := min 15 g.settle

/-- The seven fields at their widths (R190). -/
def Grade.bytes (g : Grade) : List Byte :=
  natBytes 2 g.bite ++ natBytes 2 g.turn ++ natBytes 2 g.smooth ++ natBytes 2 g.pivot
    ++ natBytes 2 g.crawl ++ natBytes 2 g.minSpm ++ natBytes 1 g.settle

/-- Whether FI holds a latched copy of a grade index (R29). -/
def State.latches (s : State) (index : Nat) : Bool :=
  s.fi.contour.any fun c => decide (c.index = index)

/-- Whether D's source is the table record of an index: no latched copy, and an OPEN naming it at
the head (R30, R58). -/
def State.demandReads (s : State) (index : Nat) : Bool :=
  match s.fi.contour, s.cq.entries with
  | none, e :: _ =>
    match e.body with
    | .opening g _ _ => decide (g = index)
    | _ => false
  | _, _ => false

/-- SET_GRADE at GT (R27, R29, R30). -/
def ownGrade (payload : List Byte) (s : State) : State × Reply :=
  let index := field payload 0 1
  let received := receivedGrade payload
  let stored := clampGrade received
  if 15 < index then (s, refuse .gradeInvalid)
  else
    let s1 : State := { s with gt := { s.gt with grades := s.gt.grades.set index (some stored) } }
    (if s.demandReads index then s1.recomputeDemand else s1,
     acceptFlags { clamped := decide (stored ≠ received), inUse := s.latches index, notHeld := false }
       (natBytes 1 index ++ stored.bytes))

/-- The handler takes SET_GRADE. -/
def takeSetGrade (p : Port) (d : List Byte) (s : State) : State :=
  s.takeRequest p 0x03 jobOnly 14 d [] (ownGrade d)

/-- SET_GRADE. -/
def execSetGrade (p : Port) (d : List Byte) (s : State) : Host.Outcome State Fault Refusal :=
  clocked s fun s => s.arrive p (telegram 0x03 d) (takeSetGrade p d)

/-! ### Machine settings -/

/-- The linear speed ceiling of R35. -/
def Settings.linearCeiling (m : Settings) : Nat := 500000 * min m.stepX m.stepY

/-- The ceiling of the H free slew rate (R35). -/
def Settings.slewCeiling (m : Settings) : Nat := 500 * m.stepH

/-- The effective value of a setting (R32); absent for a selector outside the table. -/
def Settings.get (m : Settings) : Nat → Option Nat
  | 0x00 => some m.xLimit
  | 0x01 => some m.yLimit
  | 0x02 => some m.accel
  | 0x03 => some m.quickAccel
  | 0x04 => some m.traverseFeed
  | 0x05 => some m.fMax
  | 0x06 => some m.stepX
  | 0x07 => some m.stepY
  | 0x08 => some m.stepH
  | 0x09 => some m.slewH
  | 0x0A => some m.stallTimeout
  | 0x0B => some m.window
  | 0x0C => some m.filterK
  | 0x0D => some (if m.bLeads then 1 else 0)
  | _ => none

/-- The range clamp of a setting with the ceilings of R35 (R34). -/
def Settings.clamp (m : Settings) (selector value : Nat) : Nat :=
  match selector with
  | 0x00 => clampTo 1000 4194303 value
  | 0x01 => clampTo 1000 4194303 value
  | 0x02 => clampTo 10000 5000000 value
  | 0x03 => clampTo 100000 20000000 value
  | 0x04 => min (clampTo 1000 1000000 value) m.linearCeiling
  | 0x05 => min (clampTo 1000 800000 value) m.linearCeiling
  | 0x06 => clampTo 1 50 value
  | 0x07 => clampTo 1 50 value
  | 0x08 => clampTo 1 10 value
  | 0x09 => min (clampTo 1 500 value) m.slewCeiling
  | 0x0A => clampTo 20 1000 value
  | 0x0B => clampTo 20 500 value
  | 0x0C => clampTo 2 15 value
  | 0x0D => min 1 value
  | _ => value

/-- The settings with a linear ceiling re-applied after a step-size write (R35). -/
def Settings.reclampLinear (m : Settings) : Settings :=
  { m with fMax := min m.fMax m.linearCeiling, traverseFeed := min m.traverseFeed m.linearCeiling }

/-- The settings with the H ceiling re-applied after a step H write (R35). -/
def Settings.reclampSlew (m : Settings) : Settings := { m with slewH := min m.slewH m.slewCeiling }

/-- A clamped value stored, with the re-clamps of R35. -/
def Settings.put (m : Settings) (selector value : Nat) : Settings :=
  match selector with
  | 0x00 => { m with xLimit := value }
  | 0x01 => { m with yLimit := value }
  | 0x02 => { m with accel := value }
  | 0x03 => { m with quickAccel := value }
  | 0x04 => { m with traverseFeed := value }
  | 0x05 => { m with fMax := value }
  | 0x06 => Settings.reclampLinear { m with stepX := value }
  | 0x07 => Settings.reclampLinear { m with stepY := value }
  | 0x08 => Settings.reclampSlew { m with stepH := value }
  | 0x09 => { m with slewH := value }
  | 0x0A => { m with stallTimeout := value }
  | 0x0B => { m with window := value }
  | 0x0C => { m with filterK := value }
  | 0x0D => { m with bLeads := decide (value = 1) }
  | _ => m

/-- Whether a step-size re-clamp lowered a dependent setting (R35). -/
def Settings.lowered (before after : Settings) : Bool :=
  decide (after.fMax < before.fMax) || decide (after.traverseFeed < before.traverseFeed)
    || decide (after.slewH < before.slewH)

/-- A filter restarted: the run count becomes 0 and the level is kept (R103). -/
def Filter.restart (f : Filter) : Filter := { f with run := 0 }

/-- A write of K restarts the filters, loses the measurement start and makes the held period none
(R103, R107). -/
def State.restartFilters (s : State) : State :=
  { s with sd := { s.sd with ca := s.sd.ca.restart, cb := s.sd.cb.restart, cz := s.sd.cz.restart,
                             holdn := s.sd.holdn.restart, startPresent := false, period := none } }

/-- An axis re-derived in a new step size: with MPERMIT high what was owed becomes the drop count;
with it low nothing was owed and the drop count stays (R148). -/
def AxisOut.recount (a : AxisOut) (target : Int) (permitted : Bool) : AxisOut :=
  { a with target := target, output := target, laid := 0, emitted := 0,
           drop := if permitted then a.owed else a.drop }

/-- AP's part of a step-size write that changed the stored value (R148). -/
def State.recount (s : State) (selector : Nat) : State :=
  match selector with
  | 0x06 => { s with ap := { s.ap with
      x := s.ap.x.recount (targetOf s.fi.x s.gt.settings.stepX) s.mpermit } }
  | 0x07 => { s with ap := { s.ap with
      y := s.ap.y.recount (targetOf s.fi.y s.gt.settings.stepY) s.mpermit } }
  | 0x08 => { s with ap := { s.ap with
      h := s.ap.h.recount (s.ap.unwrapped / (s.gt.settings.stepH : Int)) s.mpermit } }
  | _ => s

/-- The workspace test of a limit (R36): the position and the tail point must stay inside. -/
def State.limitRefused (s : State) (selector value : Nat) : Bool :=
  match selector with
  | 0x00 => decide (value < s.fi.x) || decide (value < s.cq.tail.x)
  | 0x01 => decide (value < s.fi.y) || decide (value < s.cq.tail.y)
  | _ => false

/-- The blocks that act on an accepted SET_MACHINE beside the record: a K write restarts the filters
whether or not the value differs, a step-size write recounts when it does (R37, R103, R148). -/
def State.settingActs (s : State) (selector before after : Nat) : State :=
  if selector = 0x0C then s.restartFilters
  else if before = after then s
  else s.recount selector

/-- SET_MACHINE at GT, in the order of R33. -/
def ownMachine (payload : List Byte) (s : State) : State × Reply :=
  let selector := field payload 0 1
  let requested := field payload 1 4
  let value := s.gt.settings.clamp selector requested
  if ¬(s.fi.st = .idle ∨ s.fi.st = .offline) ∨ s.cq.entries ≠ [] then (s, refuse .wrongState)
  else
    match s.gt.settings.get selector with
    | none => (s, refuse .unknownKind)
    | some before =>
      if s.limitRefused selector value then (s, refuse .outsideWorkspace)
      else
        let settings := s.gt.settings.put selector value
        let s1 : State := { s with gt := { s.gt with settings := settings } }
        (s1.settingActs selector before value,
         acceptFlags
           (clampedIf (decide (value ≠ requested) ||
             (decide (0x06 ≤ selector ∧ selector ≤ 0x08) && s.gt.settings.lowered settings)))
           (natBytes 1 selector ++ natBytes 4 value))

/-- The handler takes SET_MACHINE. -/
def takeSetMachine (p : Port) (d : List Byte) (s : State) : State :=
  s.takeRequest p 0x02 jobOnly 5 d [] (ownMachine d)

/-- SET_MACHINE. -/
def execSetMachine (p : Port) (d : List Byte) (s : State) : Host.Outcome State Fault Refusal :=
  clocked s fun s => s.arrive p (telegram 0x02 d) (takeSetMachine p d)

/-! ### Blade offset -/

/-- SET_BLADE_OFFSET at GT (R38). -/
def ownOffset (payload : List Byte) (s : State) : State × Reply :=
  let received := field payload 0 2
  if s.fi.st = .idle ∨ s.fi.st = .offline then
    ({ s with gt := { s.gt with offset := received % 36000 } },
     acceptFlags (clampedIf (decide (36000 ≤ received))) (natBytes 2 (received % 36000)))
  else (s, refuse .wrongState)

/-- The handler takes SET_BLADE_OFFSET. -/
def takeSetBladeOffset (p : Port) (d : List Byte) (s : State) : State :=
  s.takeRequest p 0x1C [.blade] 2 d [] (ownOffset d)

/-- SET_BLADE_OFFSET. -/
def execSetBladeOffset (p : Port) (d : List Byte) (s : State) : Host.Outcome State Fault Refusal :=
  clocked s fun s => s.arrive p (telegram 0x1C d) (takeSetBladeOffset p d)

end Sys2Proof.Machine
end

