-- ==== Sys2Proof/Machine/Reads.lean ====
section
/-! DEFINITION. The reads and SET_BAUD: READ_PROGRESS, READ_STROKE (R193), READ_STATUS (R194),
READ_GRADE (R31, R195), READ_PORT (R184, R195) and SET_BAUD (R172), with the field lists of their
replies and the reply groups (R191). -/

namespace Sys2Proof.Machine

/-! ### Field lists -/

/-- The progress record (R95, R202). -/
def State.progressFields (s : State) : List (List Byte) :=
  let st := s.fi.st
  let active := s.fi.active
  let ft := s.fi.contour.map fun c => withOverride c.fTarget s.hj.override
  [ bitsByte [st.subMode.isSome, st.resume.isSome, s.fi.contour.isSome, active.isSome,
              active.isSome, active.isSome, ft.isSome],
    natBytes 1 st.code, optBytes 1 st.subMode, optBytes 1 (st.resume.map Resume.code),
    optBytes 2 (s.fi.contour.map fun c => c.tag.toNat),
    optBytes 2 (active.map fun e => e.seq.toNat),
    optBytes 3 (active.map fun _ => s.fi.done),
    optBytes 3 (active.map fun e => e.length - s.fi.done),
    natBytes 3 s.fi.x, natBytes 3 s.fi.y, natBytes 2 s.fi.heading, natBytes 2 s.fi.h,
    natBytes 3 s.fi.v, optBytes 3 ft, natBytes 4 s.fi.strokes,
    natBytes 1 s.cq.entries.length, s.hj.holds.bytes, natBytes 4 s.tb.ms.toNat ]

/-- The decoder's items in the order of R193 (R117). A pin's bit is 1 for high and 0 for low (log 46). -/
def State.strokeFields (s : State) : List (List Byte) :=
  let d := s.sd
  [ bitsByte [d.period.isSome, d.period.isSome],
    bitsByte [d.ca.raw, d.cb.raw, d.cz.raw, d.holdn.raw],
    bitsByte [d.ca.filtered, d.cb.filtered, d.cz.filtered, d.holdn.filtered],
    natBytes 1 s.gt.settings.filterK, natBytes 1 d.crank.toNat, leBytes 2 d.sinceIndex,
    natBytes 4 d.strokeTotal.toNat, optBytes 3 d.period, optBytes 2 (d.period.map strokeRate),
    boolByte d.startPresent, natBytes 3 d.indexAge, natBytes 2 d.edgeAge, boolByte d.running,
    boolByte d.slow, natBytes 1 d.clearing, natBytes 1 d.slipRun, natBytes 1 d.missingRun,
    natBytes 1 d.backRun, natBytes 2 d.slipTally, natBytes 2 d.missingTally,
    natBytes 2 d.quadTally, natBytes 4 s.tb.us.toNat, natBytes 4 s.tb.ms.toNat ]

/-- Section 0, the interpolator (R194). -/
def State.interpolatorFields (s : State) : List (List Byte) :=
  [ boolByte s.fi.runEnable, boolByte s.fi.pauseAfter, natBytes 2 s.fi.budget,
    natBytes 1 s.fi.settle, natBytes 2 s.fi.demand, natBytes 2 s.fi.contours.toNat,
    natBytes 2 s.fi.starves ]

/-- Section 1, the queue (R194). -/
def State.queueFields (s : State) : List (List Byte) :=
  let q := s.cq
  [ bitsByte [q.openTag.isSome, q.abandoned.isSome], natBytes 3 q.tail.x, natBytes 3 q.tail.y,
    natBytes 2 q.tailHeading, natBytes 1 (kindCode q.tailKind), boolByte q.inContour,
    optBytes 2 (q.openTag.map BitVec.toNat), natBytes 2 q.seq.toNat, natBytes 1 q.prime,
    natBytes 1 q.refill, optBytes 2 (q.abandoned.map BitVec.toNat) ]

/-- Section 2, holds and jog (R194). -/
def State.jogFields (s : State) : List (List Byte) :=
  let h := s.hj
  let m := h.phase.move
  [ bitsByte [m.isSome, m.isSome, m.isSome, m.isSome, m.isSome, h.endCause.isSome],
    h.holds.bytes, natBytes 1 h.override, boolByte h.lock, natBytes 2 h.earlyTally,
    natBytes 1 h.phase.code, optBytes 1 (m.map fun j => axisCode j.axis),
    optBytes 1 (m.map fun j => if j.positive then 0 else 1),
    optBytes 3 (m.map JogMove.speed), optBytes 2 (m.map JogMove.window),
    optBytes 2 (m.map JogMove.timer), optBytes 1 (h.endCause.map EndCause.code) ]

/-- Sections 3 to 5, one axis (R150, R194). The DIR level is 1 for high and 0 for low (log 46). -/
def AxisOut.fields (a : AxisOut) : List (List Byte) :=
  [ leBytes 6 a.target, leBytes 6 a.output, leBytes 6 a.owed, natBytes 2 (a.laid - a.emitted),
    boolByte a.dir, leBytes 6 a.drop, natBytes 2 a.backlog ]

/-- Section 6, supervision (R167, R194); without a record every record field is absent. The arm latch
is one byte, armed 1 and disarmed 0, the MPERMIT level 1 for high and 0 for low, and the further-fault
count two bytes (log 46). -/
def State.supervisionFields (s : State) : List (List Byte) :=
  let v := s.sv
  let r := v.record
  let sub := r.bind fun r => r.state.subMode
  let resume := r.bind fun r => r.state.resume.map Resume.code
  let tag := r.bind fun r => r.tag.map BitVec.toNat
  let seq := r.bind fun r => r.seq.map BitVec.toNat
  [ bitsByte [r.isSome, sub.isSome, resume.isSome, tag.isSome, seq.isSome],
    optBytes 1 (r.map fun r => r.cause.code), optBytes 1 (r.map fun r => r.state.code),
    optBytes 1 sub, optBytes 1 resume, optBytes 2 tag, optBytes 2 seq,
    optBytes 3 (r.map FaultRecord.x), optBytes 3 (r.map FaultRecord.y),
    optBytes 2 (r.map FaultRecord.h), optBytes 4 (r.map fun r => r.ms.toNat),
    natBytes 2 v.further, natBytes 1 v.stopTimer, boolByte v.permit, boolByte s.mpermit,
    boolByte v.armed, natBytes 1 v.monitor.code, natBytes 1 v.missed, natBytes 2 v.clockLosses ]

/-- The fields of a READ_STATUS section (R194). -/
def State.statusFields (s : State) : Nat → List (List Byte)
  | 0 => s.interpolatorFields
  | 1 => s.queueFields
  | 2 => s.jogFields
  | 3 => s.ap.x.fields
  | 4 => s.ap.y.fields
  | 5 => s.ap.h.fields ++ [leBytes 6 s.ap.unwrapped, natBytes 2 s.ap.lastH]
  | 6 => s.supervisionFields
  | _ => []

/-- READ_PORT's fields (R184, R195). -/
def State.portFields (s : State) (p : Port) : List (List Byte) :=
  let q := s.port p
  let t := q.tallies
  [ bitsByte [q.pendingDivisor.isSome], natBytes 1 (portCode p), natBytes 2 q.divisor,
    optBytes 2 q.pendingDivisor, natBytes 1 q.rx.phase.code, boolByte q.asm.assembling,
    natBytes 1 q.rxFifo.length, boolByte q.asm.slot.isSome, natBytes 1 q.tx.fifo.length,
    natBytes 2 t.noise, natBytes 2 t.framing, natBytes 2 t.overrun, natBytes 2 t.brk,
    natBytes 2 t.gap, natBytes 2 t.check, natBytes 2 t.refused ]

/-- The seven fields of a record, or their places empty. -/
def gradeBytes : Option Grade → List Byte
  | some g => g.bytes
  | none => List.replicate 13 0

/-- READ_GRADE's data (R31, R195). -/
def State.gradeData (s : State) (source argument : Nat) : List Byte :=
  match source with
  | 0 =>
    let r := (s.gt.grades[argument]?).join
    natBytes 1 argument ++ boolByte r.isSome ++ gradeBytes r
  | 1 =>
    bitsByte [s.fi.contour.isSome] ++ optBytes 1 (s.fi.contour.map Contour.index)
      ++ gradeBytes (s.fi.contour.map Contour.grade)
  | 2 => natBytes 1 argument ++ optBytes 4 (s.gt.settings.get argument)
  | _ => natBytes 2 s.gt.offset

/-! ### Reply groups (R191) -/

/-- One field joins the parts laid so far: the last part while its payload stays within 20 bytes,
otherwise a new part. -/
def addField (parts : List (List Byte) × List Byte) (f : List Byte) : List (List Byte) × List Byte :=
  if parts.2.length + f.length + 3 ≤ Config.maxPayload then (parts.1, parts.2 ++ f)
  else (parts.1 ++ [parts.2], f)

/-- The fields of a group, laid in parts (R191). -/
def partsOf (fields : List (List Byte)) : List (List Byte) :=
  let r := fields.foldl addField ([], [])
  r.1 ++ [r.2]

/-- The telegrams of a group: result, flags, part byte and fields (R191). -/
def groupFrom (kind : Byte) (header : List Byte) (count : Nat) : Nat → List (List Byte) → List (List Byte)
  | _, [] => []
  | i, part :: rest =>
    telegram kind (header ++ natBytes 1 (i + 16 * count) ++ part) :: groupFrom kind header count (i + 1) rest

/-- A reply group (R191). -/
def replyGroup (kind : Byte) (header : List Byte) (fields : List (List Byte)) : List (List Byte) :=
  groupFrom kind header (partsOf fields).length 0 (partsOf fields)

/-- The telegrams of the reply to a request in progress, as the state stands (R188, R190, R191). -/
def State.replyTelegrams (s : State) (p : Port) (r : Request) : List (List Byte) :=
  let kind := r.kind + 0x80
  let header := r.result.code :: r.flags.bytes
  match r.data with
  | .fixed bytes => [telegram kind (header ++ bytes)]
  | .progress => replyGroup kind header s.progressFields
  | .status part => replyGroup kind header (s.statusFields part)
  | .stroke => replyGroup kind header s.strokeFields
  | .grade source argument => [telegram kind (header ++ s.gradeData source argument)]
  | .port _ => replyGroup kind header (s.portFields p)

/-! ### The requests -/

/-- An acceptance whose data are taken when the reply is written (R188). -/
def acceptRead (data : ReplyData) : Reply := { result := .accepted, flags := noFlags, data := data }

/-- READ_PROGRESS (R193). -/
def ownProgress (_payload : List Byte) (s : State) : State × Reply := (s, acceptRead .progress)

/-- The handler takes READ_PROGRESS. -/
def takeReadProgress (p : Port) (d : List Byte) (s : State) : State :=
  s.takeRequest p 0x21 anyPort 0 d [] (ownProgress d)

/-- READ_PROGRESS. -/
def execReadProgress (p : Port) (d : List Byte) (s : State) : Host.Outcome State Fault Refusal :=
  clocked s fun s => s.arrive p (telegram 0x21 d) (takeReadProgress p d)

/-- READ_STATUS: a section outside 0..6 names nothing (R194). -/
def ownStatus (payload : List Byte) (s : State) : State × Reply :=
  let part := field payload 0 1
  if 6 < part then (s, refuse .unknownKind) else (s, acceptRead (.status part))

/-- The handler takes READ_STATUS. -/
def takeReadStatus (p : Port) (d : List Byte) (s : State) : State :=
  s.takeRequest p 0x22 anyPort 1 d [] (ownStatus d)

/-- READ_STATUS. -/
def execReadStatus (p : Port) (d : List Byte) (s : State) : Host.Outcome State Fault Refusal :=
  clocked s fun s => s.arrive p (telegram 0x22 d) (takeReadStatus p d)

/-- READ_STROKE (R117, R193). -/
def ownStroke (_payload : List Byte) (s : State) : State × Reply := (s, acceptRead .stroke)

/-- The handler takes READ_STROKE. -/
def takeReadStroke (p : Port) (d : List Byte) (s : State) : State :=
  s.takeRequest p 0x23 anyPort 0 d [] (ownStroke d)

/-- READ_STROKE. -/
def execReadStroke (p : Port) (d : List Byte) (s : State) : Host.Outcome State Fault Refusal :=
  clocked s fun s => s.arrive p (telegram 0x23 d) (takeReadStroke p d)

/-- READ_GRADE: the refusals and the IN_USE flag of R31, fixed at the take (log 18). -/
def ownReadGrade (payload : List Byte) (s : State) : State × Reply :=
  let source := field payload 0 1
  let argument := field payload 1 1
  match source with
  | 0 =>
    if 15 < argument then (s, refuse .gradeInvalid)
    else
      (s, { result := .accepted, flags := { noFlags with inUse := s.latches argument },
            data := .grade source argument })
  | 1 => (s, acceptRead (.grade source argument))
  | 2 =>
    if (s.gt.settings.get argument).isSome then (s, acceptRead (.grade source argument))
    else (s, refuse .unknownKind)
  | 3 => (s, acceptRead (.grade source argument))
  | _ => (s, refuse .unknownKind)

/-- The handler takes READ_GRADE. -/
def takeReadGrade (p : Port) (d : List Byte) (s : State) : State :=
  s.takeRequest p 0x24 anyPort 2 d [] (ownReadGrade d)

/-- READ_GRADE. -/
def execReadGrade (p : Port) (d : List Byte) (s : State) : Host.Outcome State Fault Refusal :=
  clocked s fun s => s.arrive p (telegram 0x24 d) (takeReadGrade p d)

/-- READ_PORT: option 0 reads, 1 reads and clears (R184). -/
def ownReadPort (payload : List Byte) (s : State) : State × Reply :=
  let option := field payload 0 1
  if 1 < option then (s, refuse .unknownKind) else (s, acceptRead (.port (decide (option = 1))))

/-- The handler takes READ_PORT. -/
def takeReadPort (p : Port) (d : List Byte) (s : State) : State :=
  s.takeRequest p 0x25 anyPort 1 d [] (ownReadPort d)

/-- READ_PORT. -/
def execReadPort (p : Port) (d : List Byte) (s : State) : Host.Outcome State Fault Refusal :=
  clocked s fun s => s.arrive p (telegram 0x25 d) (takeReadPort p d)

/-- SET_BAUD at the port that received it: the clamped divisor is held as pending (R172). -/
def ownSetBaud (p : Port) (payload : List Byte) (s : State) : State × Reply :=
  let received := field payload 0 2
  let divisor := clampTo 1 4095 received
  (s.onPort p fun q => { q with pendingDivisor := some divisor },
   acceptFlags (clampedIf (decide (divisor ≠ received))) (natBytes 2 divisor))

/-- The handler takes SET_BAUD. -/
def takeSetBaud (p : Port) (d : List Byte) (s : State) : State :=
  s.takeRequest p 0x27 anyPort 2 d [] (ownSetBaud p d)

/-- SET_BAUD. -/
def execSetBaud (p : Port) (d : List Byte) (s : State) : Host.Outcome State Fault Refusal :=
  clocked s fun s => s.arrive p (telegram 0x27 d) (takeSetBaud p d)

end Sys2Proof.Machine
end

