-- ==== Sys2Proof/WellFormed.lean ====
section
/-! DEFINITION. Which commands are well formed: what a controller or a line can really present.
The machine is total on the others too; each meaning says what it does with them. -/

namespace Sys2Proof

/-- The request codes of R200. -/
def requestCodes : List Nat :=
  [0x01, 0x02, 0x03, 0x04, 0x05, 0x06, 0x07, 0x08, 0x10, 0x11, 0x12, 0x13, 0x14, 0x15, 0x16, 0x17,
   0x18, 0x19, 0x1A, 0x1B, 0x1C, 0x1D, 0x1E, 0x1F, 0x20, 0x21, 0x22, 0x23, 0x24, 0x25, 0x27]

/-- A payload has at most 20 characters (R186). -/
def payloadOk (d : List Byte) : Bool := decide (d.length ≤ Config.maxPayload)

/-- The 8-bit sum of a telegram's characters (R186). -/
def telegramSum (chars : List Byte) : Byte := chars.foldl (· + ·) 0

/-- A delimited telegram: 3 + n characters with n its second character, 0..20 (R178, R186). -/
def delimited (chars : List Byte) : Bool :=
  match chars with
  | _ :: n :: rest => decide (n.toNat ≤ Config.maxPayload) && decide (rest.length = n.toNat + 1)
  | _ => false

/-- The well-formed commands. -/
def Instr.wf : Instr → Bool
  | .powerOn _ _ => true
  | .resetn _ _ => true
  | .online _ d => payloadOk d
  | .setMachine _ d => payloadOk d
  | .setGrade _ d => payloadOk d
  | .setLevels _ d => payloadOk d
  | .setOrigin _ d => payloadOk d
  | .armSupervision _ d => payloadOk d
  | .syncTime _ d => payloadOk d
  | .setJogLock _ d => payloadOk d
  | .queueTraverse _ d => payloadOk d
  | .queueOpen _ d => payloadOk d
  | .queueLine _ d => payloadOk d
  | .queueArc _ d => payloadOk d
  | .run _ d => payloadOk d
  | .pauseAfter _ d => payloadOk d
  | .flush _ d => payloadOk d
  | .resetCut _ d => payloadOk d
  | .clearFault _ d => payloadOk d
  | .hold _ d => payloadOk d
  | .release _ d => payloadOk d
  | .bladeState _ d => payloadOk d
  | .setBladeOffset _ d => payloadOk d
  | .setOverride _ d => payloadOk d
  | .jogStart _ d => payloadOk d
  | .jogKeep _ d => payloadOk d
  | .jogEnd _ d => payloadOk d
  | .readProgress _ d => payloadOk d
  | .readStatus _ d => payloadOk d
  | .readStroke _ d => payloadOk d
  | .readGrade _ d => payloadOk d
  | .readPort _ d => payloadOk d
  | .setBaud _ d => payloadOk d
  | .checkDiscard _ chars => delimited chars && decide (telegramSum chars ≠ 0)
  | .unknownKindTelegram _ kind d => payloadOk d && !requestCodes.contains kind.toNat
  | .replyWrite _ => true
  | .noticeBuild _ => true
  | .baudSwitch _ => true
  | .guardEnd _ => true
  | .rxCharacter _ _ _ _ _ => true
  | .breakFound _ => true
  | .assemblerTake _ => true
  | .gapExpiry _ => true
  | .feedPeriodExpiry => true
  | .dispatch => true
  | .openTake => true
  | .starvedResume => true
  | .crankEdge onA onB => onA || onB
  | .crankIndex => true
  | .slowOverdue => true
  | .holdnFall => true
  | .holdnRise => true
  | .stallTimeout => true
  | .windowExpiry => true
  | .stopLimitExpiry => true
  | .clockLossFound => true
  | .clockReturn => true
  | .characterSent _ => true
  | .startBitVerify _ _ _ _ => true
  | .lowPhaseReturn _ => true
  | .breakPhaseEnd _ => true
  | .stepSlot _ => true

end Sys2Proof
end

