-- ==== Sys2Proof/Machine/HandlerSteps.lean ====
section
/-! DEFINITION. The telegram handlers' own steps: the discard for a wrong sum and the unknown kind
(R187), the take of the completed slot (R188), the write of a reply (R188, R191) and the build of a
notice (R196 to R198). -/

namespace Sys2Proof.Machine

/-! ### Checks of R187 -/

/-- The first check fails: the check tally advances and the handler stays FREE (R187). -/
def State.discardTelegram (p : Port) (s : State) : State := s.onPort p PortState.countCheck

/-- CHECK_DISCARD: a delimited telegram whose sum is not 0 arrives and is taken (R187, log 4). -/
def execCheckDiscard (p : Port) (chars : List Byte) (s : State) : Host.Outcome State Fault Refusal :=
  clocked s fun s =>
    if delimited chars && decide (charSum chars ≠ 0) then
      s.arrive p chars (State.discardTelegram p)
    else s

/-- The second check fails: a reply of kind 0x80 with the kind received (R187, R190). -/
def takeUnknown (p : Port) (kind : Byte) (s : State) : State :=
  s.busy p 0x00 { result := .unknownKind, flags := noFlags, data := .fixed [kind] }

/-- UNKNOWN_KIND_TELEGRAM: a telegram of a kind that is no request code (R187, log 4). -/
def execUnknownKindTelegram (p : Port) (kind : Byte) (d : List Byte) (s : State) :
    Host.Outcome State Fault Refusal :=
  clocked s fun s =>
    if requestCodes.contains kind.toNat then s
    else s.arrive p (telegram kind d) (takeUnknown p kind)

/-! ### The take of the completed slot -/

/-- The take of a telegram by its kind (R187, R200). -/
def takeKind (p : Port) (kind : Byte) (d : List Byte) : State → State :=
  match kind.toNat with
  | 0x01 => takeOnline p d
  | 0x02 => takeSetMachine p d
  | 0x03 => takeSetGrade p d
  | 0x04 => takeSetLevels p d
  | 0x05 => takeSetOrigin p d
  | 0x06 => takeArmSupervision p d
  | 0x07 => takeSyncTime p d
  | 0x08 => takeSetJogLock p d
  | 0x10 => takeQueueTraverse p d
  | 0x11 => takeQueueOpen p d
  | 0x12 => takeQueueLine p d
  | 0x13 => takeQueueArc p d
  | 0x14 => takeRun p d
  | 0x15 => takePauseAfter p d
  | 0x16 => takeFlush p d
  | 0x17 => takeResetCut p d
  | 0x18 => takeClearFault p d
  | 0x19 => takeHold p d
  | 0x1A => takeRelease p d
  | 0x1B => takeBladeState p d
  | 0x1C => takeSetBladeOffset p d
  | 0x1D => takeSetOverride p d
  | 0x1E => takeJogStart p d
  | 0x1F => takeJogKeep p d
  | 0x20 => takeJogEnd p d
  | 0x21 => takeReadProgress p d
  | 0x22 => takeReadStatus p d
  | 0x23 => takeReadStroke p d
  | 0x24 => takeReadGrade p d
  | 0x25 => takeReadPort p d
  | 0x27 => takeSetBaud p d
  | _ => takeUnknown p kind

/-- The handler takes a delimited telegram: the first check, then by its kind (R187). -/
def State.takeTelegram (s : State) (p : Port) (chars : List Byte) : State :=
  if charSum chars ≠ 0 then State.discardTelegram p s
  else takeKind p (chars.headD 0) ((chars.drop 2).dropLast) s

/-- The handler takes the telegram in the completed slot, and the slot is then empty (R179, R188). -/
def State.takeSlot (s : State) (p : Port) : State :=
  match (s.port p).asm.slot with
  | none => s
  | some chars =>
    if s.mayTake p then
      (s.onPort p fun q => { q with asm := { q.asm with slot := none } }).takeTelegram p chars
    else s

/-! ### Replies -/

/-- Several telegrams written one after the other (R191). -/
def PortState.writeAll (q : PortState) : List (List Byte) → PortState
  | [] => q
  | t :: rest => (q.write t).writeAll rest

/-- The tallies after the reply of a READ_PORT with option 1 (R184). -/
def Tallies.afterReply (t : Tallies) (r : Request) : Tallies :=
  match r.data with
  | .port true =>
    { noise := 0, framing := 0, overrun := 0, brk := 0, gap := 0, check := 0, refused := 0 }
  | _ => if r.result = .accepted then t else { t with refused := saturate t.refused }

/-- The request in progress after its reply is written: none, but for an accepted SET_BAUD, which
stays until its switch (R172, R188). -/
def Request.afterReply (r : Request) : Option Request :=
  if r.kind = 0x27 ∧ r.result = .accepted then some { r with written := true } else none

/-- The reply of a request in progress is written into the transmit FIFO (R188). -/
def PortState.writeReply (q : PortState) (r : Request) (telegrams : List (List Byte)) : PortState :=
  let q1 := q.writeAll telegrams
  { q1 with request := r.afterReply, tallies := q.tallies.afterReply r, noticePass := 0 }

/-- The request whose reply can be written now: not yet written, with room for the whole reply
(R188). -/
def State.replyDue (s : State) (p : Port) : Option (Request × List (List Byte)) :=
  match (s.port p).request with
  | none => none
  | some r =>
    let telegrams := s.replyTelegrams p r
    if r.written = false ∧ telegrams.flatten.length ≤ (s.port p).room then some (r, telegrams)
    else none

/-- The write of a port's reply. -/
def State.replyWrite (s : State) (p : Port) : State :=
  match s.replyDue p with
  | some (r, telegrams) => s.onPort p fun q => q.writeReply r telegrams
  | none => s

/-- REPLY_WRITE (R188, log 4). -/
def execReplyWrite (p : Port) (s : State) : Host.Outcome State Fault Refusal :=
  clocked s fun s => s.replyWrite p

/-! ### Notices -/

/-- A notice is built: its flag is cleared and the telegram written (R197). -/
def PortState.writeNotice (q : PortState) (k : Notice) (chars : List Byte) : PortState :=
  ({ q with notices := q.notices.put k false, noticePass := k.rank + 1 } : PortState).write chars

/-- The build of the notice that is due on a port; the pass then goes on or ends (R197). -/
def State.noticeBuild (s : State) (p : Port) : State :=
  match s.noticeDue p with
  | some k => s.onPort p fun q => (q.writeNotice k (s.noticeTelegram k)).closePass
  | none => s

/-- NOTICE_BUILD (R197, log 4). -/
def execNoticeBuild (p : Port) (s : State) : Host.Outcome State Fault Refusal :=
  clocked s fun s => s.noticeBuild p

end Sys2Proof.Machine
end

