-- ==== Sys2Proof/Machine/Pulse.lean ====
section
/-! DEFINITION. The step slots of the axis outputs (R142). -/

namespace Sys2Proof.Machine

/-- Microseconds after the expiry at which step `i` of `n` rises (R142). -/
def slotOffset (n i : Nat) : Nat := 1 + 2 * (i * 500 / n)

/-- STEP rises in its slot and the output count moves by one in the period's direction (R142); nothing
rises while MPERMIT is low (R145). -/
def AxisOut.emit (a : AxisOut) (permitted : Bool) : AxisOut :=
  if permitted && decide (a.emitted < a.laid) then
    { a with step := true, emitted := a.emitted + 1,
             output := if a.dir then a.output + 1 else a.output - 1 }
  else a

/-- One axis's state. -/
def Pulses.axis (p : Pulses) : Axis → AxisOut
  | .x => p.x
  | .y => p.y
  | .h => p.h

/-- The outputs with one axis replaced. -/
def Pulses.setAxis (p : Pulses) (axis : Axis) (v : AxisOut) : Pulses :=
  match axis with
  | .x => { p with x := v }
  | .y => { p with y := v }
  | .h => { p with h := v }

/-- STEP_SLOT: the next slot of one axis begins. -/
def execStepSlot (axis : Axis) (s : State) : Host.Outcome State Fault Refusal :=
  clocked s fun s => { s with ap := s.ap.setAxis axis ((s.ap.axis axis).emit s.mpermit) }

end Sys2Proof.Machine
end

