-- ==== Sys2Proof/Machine/Reset.lean ====
section
/-! DEFINITION. POWER_ON and RESETN: every block at its reset values (R25, R40, R97, R102, R118, R138,
R151, R160, R168, R171, R185, R199). -/

namespace Sys2Proof.Machine

/-- The initial divisor of the BAUDSEL straps (R171). -/
def initialDivisor (baudsel1 baudsel0 : Bool) : Nat :=
  match baudsel1, baudsel0 with
  | false, false => 8
  | false, true => 4
  | true, false => 2
  | true, true => 1

/-- The monitor state after a reset (R160, R168). -/
def resetMonitor (armed : Bool) : Monitor := if armed then .watching else .disarmed

/-- The part after a reset that leaves the arm latch at `armed`, with the straps and input levels it
samples. The receive lines stay as they are, and the commands waiting stay in their queue. -/
def State.afterReset (s : State) (straps : Straps) (lines : Lines) (armed clkin : Bool) : State :=
  let d := initialDivisor straps.baudsel1 straps.baudsel0
  { State.reset with
    pins := { clkin := clkin, supv := straps.supv, baudsel1 := straps.baudsel1,
              baudsel0 := straps.baudsel0, ca := lines.ca, cb := lines.cb, cz := lines.cz,
              holdn := lines.holdn, jrxd := s.pins.jrxd, brxd := s.pins.brxd,
              prxd := s.pins.prxd }
    sd := { State.reset.sd with ca := Filter.first lines.ca, cb := Filter.first lines.cb,
                                cz := Filter.first lines.cz, holdn := Filter.first lines.holdn }
    hj := { State.reset.hj with holds := { State.reset.hj.holds with line := !lines.holdn } }
    sv := { State.reset.sv with armed := armed, monitor := resetMonitor armed }
    job := PortState.reset d
    blade := PortState.reset d
    panel := PortState.reset d
    pending := s.pending
    choices := s.choices }

/-- POWER_ON: the arm latch takes the level of SUPV, and CLKIN runs (R160, log 9). -/
def execPowerOn (straps : Straps) (lines : Lines) (s : State) : Host.Outcome State Fault Refusal :=
  .next (s.afterReset straps lines straps.supv true)

/-- RESETN, low and high again: an armed latch stays armed, a disarmed one takes the level of SUPV
(R160, log 31). -/
def execResetn (straps : Straps) (lines : Lines) (s : State) : Host.Outcome State Fault Refusal :=
  .next (s.afterReset straps lines (s.sv.armed || straps.supv) s.pins.clkin)

end Sys2Proof.Machine
end

