-- ==== Sys2Proof/Machine/Feed.lean ====
section
/-! DEFINITION. The feed interpolator's own steps: the feed period expiry (R65 to R69, R72, R80 to
R84, R87, R93), the jog motion (R131 to R133, R136), the dispatch (R77), the take of an OPEN (R79) and
the resume from STARVED (R83). -/

namespace Sys2Proof.Machine

/-! ### Speed and advance (R60, R62, R66, R67) -/

/-- The look-ahead limit at this expiry (R62, R72). -/
def State.lookAhead (s : State) : Nat :=
  let a := s.gt.settings.accel
  match s.fi.active with
  | none => 0
  | some e =>
    let left := e.length - s.fi.done
    match s.fi.contour with
    | none => constraintSpeed a 0 left
    | some c =>
      if e.isCut && !e.endMark then lookQueue a c.grade s.cq.entries left
      else constraintSpeed a 0 left

/-- The path speed after the speed step of this expiry (R66, R93). -/
def State.steppedSpeed (s : State) : Nat :=
  let m := s.gt.settings
  match s.fi.st with
  | .holding _ => moveToward s.fi.v 0 (speedStep m.accel)
  | .stopping _ => moveToward s.fi.v 0 (speedStep m.quickAccel)
  | _ => moveToward s.fi.v (min s.cap s.lookAhead) (speedStep m.accel)

/-- A speed with the advance it gives and the remainder it leaves. -/
structure Advance where
  v : Nat
  rem : Nat
  whole : Nat
  deriving DecidableEq, Repr

/-- The distance accumulator (R60). -/
def accumulate (v rem : Nat) : Advance :=
  { v := v, rem := (rem + v) % 1000, whole := (rem + v) / 1000 }

/-- The budget's cut of an advance along a cut entry (R67): with a budget of 0 the advance and v
are 0. -/
def Advance.cutBy (a : Advance) (budget : Nat) : Advance :=
  if budget < a.whole then { v := budget * 1000, rem := 0, whole := budget }
  else if budget = 0 then { a with v := 0 }
  else a

/-- The advance of this expiry, with the budget reduced by it and the distance done raised
(R67). -/
def State.advance (s : State) : State × Nat :=
  let free := accumulate s.steppedSpeed s.fi.rem
  let a := if s.cutActive then free.cutBy s.fi.budget else free
  ({ s with fi := { s.fi with
      v := a.v
      rem := a.rem
      budget := if s.cutActive then s.fi.budget - a.whole else s.fi.budget
      done := s.fi.done + a.whole } },
   a.whole)

/-! ### The commit (R69) -/

/-- The point at a distance into an entry (R44, R50). -/
def State.pointAt (s : State) (e : Entry) (d : Nat) : Point :=
  match e.body with
  | .arc _ _ _ _ _ shape => arcPoint e.start shape s.gt.settings.xLimit s.gt.settings.yLimit d
  | _ => linePoint e.start e.stop e.length d

/-- The heading of an entry at a distance into it (R43, R47). -/
def headingAt (e : Entry) (d old : Nat) : Nat :=
  match e.body with
  | .arc _ entry _ _ _ shape => arcHeading entry shape d
  | _ => e.entryHeading.getD old

/-- Whether the commanded H follows the path at a commit (R69, R93). -/
def FiState.followsPath : FiState → Bool
  | .cutNormal => true
  | .holding .cutNormal => true
  | .stopping .cutNormal => true
  | _ => false

/-- The H target at a path heading: the heading plus the latched offset (R38, R69). -/
def Contour.target (c : Contour) (heading : Nat) : Nat := reduceHeading ((heading + c.offset : Nat) : Int)

/-- The commanded position and path heading take their values; H follows where it follows (R69). -/
def State.commitAt (s : State) (pt : Point) (heading : Nat) : State :=
  { s with fi := { s.fi with
      x := pt.x
      y := pt.y
      heading := heading
      h := if s.fi.st.followsPath then (s.fi.contour.map fun c => c.target heading).getD s.fi.h
           else s.fi.h } }

/-- The commit at the distance done in the active entry (R69). -/
def State.commit (s : State) (e : Entry) : State :=
  s.commitAt (s.pointAt e s.fi.done) (headingAt e s.fi.done s.fi.heading)

/-! ### Entry ends (R68, R87, R93) -/

/-- The next entry of a carry end and whether its junction classes TURN (R68); absent at a stop
end. -/
def State.carryNext (s : State) (e : Entry) : Option (Entry × Bool) :=
  match s.fi.contour, s.cq.entries with
  | some c, next :: _ =>
    if e.isCut && !e.endMark then
      match classify c.grade next.junction with
      | .smooth => some (next, false)
      | .turn => some (next, true)
      | .pivot => none
    else none
  | _, _ => none

/-- A TURN junction enters CRAWL, in the sub-mode, the resume state or the stop mode (R73, R87,
R93). -/
def FiState.crawling : FiState → FiState
  | .cutNormal => .cutCrawl
  | .holding .cutNormal => .holding .cutCrawl
  | .stopping .cutNormal => .stopping .cutCrawl
  | st => st

/-- A carry end (R68): the next entry becomes active, and the excess is carried under the new budget.
The excess counts once against the budget (log 11). `whole` is the advance of this expiry so far;
with the new state comes the advance as it then stands. -/
def State.carryEnd (s : State) (e next : Entry) (turn : Bool) (whole : Nat) : State × Nat :=
  let excess := s.fi.done - e.length
  let s0 : State := { s with fi := { s.fi with budget := s.fi.budget + excess } }
  let s1 := (s0.takeEntry next).limitBudget next
  let s2 := (if turn then s1.enter s1.fi.st.crawling else s1).applyCap
  let carried := min excess s2.fi.budget
  let s3 : State := { s2 with fi := { s2.fi with done := carried,
                                                 budget := s2.fi.budget - carried } }
  if carried < excess then
    let w := whole - (excess - carried)
    (({ s3 with fi := { s3.fi with v := w * 1000, rem := 0 } } : State).applyCap, w)
  else (s3, whole)

/-- No entry is active any more. -/
def State.dropActive (s : State) : State := { s with fi := { s.fi with active := none, done := 0 } }

/-- The contour end, in the order of R84. -/
def State.contourEnd (s : State) : State :=
  let tag := match s.fi.contour with
    | some c => c.tag
    | none => s.fi.doneTag
  let s1 : State := { s.dropActive with fi := { s.dropActive.fi with
      contours := s.fi.contours + 1, doneTag := tag, doneStrokes := s.fi.strokes } }
  let s2 := (s1.raise .job .contourDone).raise .panel .contourDone
  let s3 := s2.releaseContour.recomputeDemand
  if s3.fi.pauseAfter then
    ({ s3 with fi := { s3.fi with runEnable := false, pauseAfter := false } } : State).enter .idle
  else s3.dispatchNow

/-- FI starves (R82, R96). -/
def State.starve (s : State) : State :=
  let s1 : State := { s.dropActive with fi := { s.dropActive.fi with starves := saturate s.fi.starves } }
  s1.enter .starved

/-- A PIVOT junction: the head entry is taken and the pivot begins, held in HOLDING (R74, R87). -/
def State.startPivot (s : State) (next : Entry) : State :=
  let s1 := s.takeEntry next
  match s.fi.st with
  | .holding _ => s1.enter (.held .pivotCorner)
  | _ => s1.enter .pivotCorner

/-- The position is set exactly to the end point, v and the remainder become 0, and the advance is
reduced to what was left, so the budget keeps the rest (R68, log 11, log 14). -/
def State.stopAt (s : State) (e : Entry) : State :=
  let rest := if e.isCut then s.fi.done - e.length else 0
  let s1 : State := { s with fi := { s.fi with v := 0, rem := 0, done := e.length,
                                               budget := s.fi.budget + rest } }
  s1.commitAt e.stop (e.exitHeading.getD s.fi.heading)

/-- A stop end (R68) and what follows it: nothing in STOPPING (R93), the dispatch after a TRAVERSE
(R81), the contour end (R84), STARVED (R82) or the pivot (R74). -/
def State.stopEnd (s : State) (e : Entry) : State :=
  let s1 := s.stopAt e
  if s.fi.st.isFault then s1
  else if e.kind = .traverse then s1.dropActive.dispatchNow
  else if e.endMark then s1.contourEnd
  else
    match s1.cq.entries with
    | [] => s1.starve
    | next :: _ => s1.startPivot next

/-- The entry ends and the commit of one expiry (R68, R69). Each carry end takes an entry from the
queue, so `fuel` above the queue's length never runs out. -/
def State.runEnds : Nat → State → Nat → State
  | 0, s, _ => s
  | fuel + 1, s, whole =>
    match s.fi.active with
    | none => s
    | some e =>
      if s.fi.done < e.length then s.commit e
      else
        match s.carryNext e with
        | some (next, turn) =>
          State.runEnds fuel (s.carryEnd e next turn whole).1 (s.carryEnd e next turn whole).2
        | none => s.stopEnd e

/-- R66 to R69 for the active entry. -/
def State.move (s : State) : State :=
  let a := s.advance
  State.runEnds (s.cq.entries.length + 1) a.1 a.2

/-! ### Jog motion (R131 to R133, R136) -/

/-- The distance from the commanded coordinate to the bound a linear jog moves toward (R132). -/
def State.jogRoom (s : State) (m : JogMove) : Nat :=
  match m.axis, m.positive with
  | .x, true => s.gt.settings.xLimit - s.fi.x
  | .x, false => s.fi.x
  | .y, true => s.gt.settings.yLimit - s.fi.y
  | .y, false => s.fi.y
  | .h, _ => 0

/-- A coordinate moved by an advance in a jog's direction (R131). -/
def jogged (positive : Bool) (c advance : Nat) : Nat := if positive then c + advance else c - advance

/-- One expiry of a linear jog: the speed moves toward `target` by at most `step`, the advance is
capped at the room left, and the tail point follows the commit (R92, R131, R132). -/
def State.jogLinear (s : State) (m : JogMove) (target step : Nat) : State :=
  let room := s.jogRoom m
  let a := accumulate (moveToward s.fi.v target step) s.fi.rem
  let adv := min a.whole room
  let bound := decide (room ≤ a.whole)
  let fi := { s.fi with
    v := if bound then 0 else a.v
    rem := if bound then 0 else a.rem
    x := if m.axis = .x then jogged m.positive s.fi.x adv else s.fi.x
    y := if m.axis = .y then jogged m.positive s.fi.y adv else s.fi.y }
  { s with fi := fi, cq := { s.cq with tail := ⟨fi.x, fi.y⟩ } }

/-- One expiry of an H jog: v holds the H rate (R133, log 16). -/
def State.jogTurn (s : State) (m : JogMove) (target : Nat) : State :=
  let rate := moveToward s.fi.v target s.gt.settings.slewH
  let h := if m.positive then (s.fi.h : Int) + rate else (s.fi.h : Int) - rate
  { s with fi := { s.fi with v := rate, h := reduceHeading h },
           cq := { s.cq with tail := ⟨s.fi.x, s.fi.y⟩ } }

/-- One expiry in JOG (R131 to R133): the jog speed is the target in phase RUNNING, lowered by the
limit stop on a linear axis, and 0 in ENDING. -/
def State.jogStep (s : State) : State :=
  match s.hj.phase with
  | .none => s
  | .running m =>
    match m.axis with
    | .h => s.jogTurn m m.speed
    | _ =>
      s.jogLinear m (min m.speed (constraintSpeed s.gt.settings.accel 0 (s.jogRoom m)))
        (speedStep s.gt.settings.accel)
  | .ending m =>
    match m.axis with
    | .h => s.jogTurn m 0
    | _ => s.jogLinear m 0 (speedStep s.gt.settings.accel)

/-- A jog in phase ENDING whose speed is 0 is complete (R136). -/
def State.jogComplete (s : State) : State :=
  match s.hj.phase with
  | .ending _ =>
    if s.fi.v = 0 then
      (({ s with hj := { s.hj with phase := .none } } : State).flush).enter .idle
    else s
  | _ => s

/-! ### The expiry (4.2) -/

/-- One slew step of H, and the take of the head cut entry when the step brings H onto the target
(R80). -/
def State.slew (s : State) : State :=
  match s.fi.contour, s.cq.entries with
  | some c, e :: _ =>
    match e.isCut, e.entryHeading with
    | true, some heading =>
      let h := turnStep (c.target heading) s.fi.h s.gt.settings.slewH
      let s1 : State := { s with fi := { s.fi with h := h } }
      if h = c.target heading then ((s1.takeEntry e).limitBudget e).enter .cutNormal else s1
    | _, _ => s
  | _, _ => s

/-- The motion of the quick stop: the jog's axis, or the path (R93, R132). -/
def State.stopMove (s : State) : State :=
  match s.hj.phase.move with
  | some m =>
    match m.axis with
    | .h => { s with fi := { s.fi with v := 0 } }
    | _ => s.jogLinear m 0 (speedStep s.gt.settings.quickAccel)
  | none =>
    match s.fi.active with
    | some _ => s.move
    | none => { s with fi := { s.fi with v := s.steppedSpeed } }

/-- The work of FI at a feed period expiry, by state (4.2). In FAULT STOPPED no hand-off is made, so an
expiry after the fall of MPERMIT leaves the counts as the fall left them (R69, log 39). HELD is entered
here, at an expiry: where v falls to 0 in HOLDING between two expiries, FI stays in HOLDING until the
next one (R65, R87, log 42). -/
def State.feedWork (s : State) : State :=
  match s.fi.st with
  | .offline => s
  | .stopped => s
  | .pivotEntry => s.slew.handOff
  | .traversing => s.move.handOff
  | .cutNormal => s.move.handOff
  | .cutCrawl => s.move.handOff
  | .holding _ =>
    let s1 := s.move.handOff
    match s1.fi.st with
    | .holding r => if s1.fi.v = 0 then s1.enter (.held r) else s1
    | _ => s1
  | .jog => s.jogStep.handOff.jogComplete
  | .stopping _ =>
    let s1 := s.stopMove.handOff
    if s1.fi.v = 0 then s1.endStop else s1
  | _ => s.handOff

/-- Whether the next millisecond tick brings the stall timer to the timeout (R112); a tick that
STALL_TIMEOUT has already counted does not (log 23). -/
def State.stallNears (s : State) : Bool :=
  s.stallActive && !s.sd.stallTaken && decide (s.gt.settings.stallTimeout ≤ s.sd.stallTimer + 1)

/-- The millisecond tick at SD: the edge age and, with the monitor active, the stall timer. Where the
timer reaches the timeout it becomes 0, and a STALL is to be taken (R112, R113). A tick that
STALL_TIMEOUT has brought SD already raises neither again (log 23). -/
def State.tickDecoder (s : State) : State :=
  { s with sd := { s.sd with
      edgeAge := if s.sd.stallTaken then s.sd.edgeAge else saturate s.sd.edgeAge
      stallTimer :=
        if s.stallNears then 0
        else if s.stallActive && !s.sd.stallTaken then s.sd.stallTimer + 1
        else s.sd.stallTimer
      stallDue := s.sd.stallDue || s.stallNears
      stallTaken := false } }

/-- The millisecond tick at HJ, after FI's work of the expiry: in phase RUNNING the window timer is
raised, and at W the jog ends with EXPIRED (R134, log 32). -/
def State.tickWindow (s : State) : State :=
  match s.hj.phase with
  | .running m =>
    if m.window ≤ m.timer + 1 then s.expireWindow
    else { s with hj := { s.hj with phase := .running { m with timer := m.timer + 1 } } }
  | _ => s

/-- The millisecond tick at SV: the stop timer in FAULT STOPPING (R156). -/
def State.tickStop (s : State) : State :=
  match s.fi.st with
  | .stopping _ => { s with sv := { s.sv with stopTimer := min 100 (s.sv.stopTimer + 1) } }
  | _ => s

/-- The millisecond at TB: the count advances, the phase returns to 0 and the slots of the coming
period are counted from here (R98, R142). -/
def State.tickTime (s : State) : State :=
  { s with tb := { s.tb with ms := s.tb.ms + 1, phase := 0 }, ap := { s.ap with slotClock := 0 } }

/-- The millisecond tick at TB, SD and SV, before FI's work (R98). -/
def State.tick (s : State) : State := s.tickTime.tickDecoder.tickStop

/-- The feed period expiry: the tick at TB, SD and SV, FI's work, and the tick at HJ (log 32). -/
def State.feedPeriod (s : State) : State := s.tick.feedWork.tickWindow

/-- FEED_PERIOD_EXPIRY. -/
def execFeedPeriodExpiry (s : State) : Host.Outcome State Fault Refusal := clocked s State.feedPeriod

/-! ### Dispatch, the take of an OPEN, the resume from STARVED -/

/-- DISPATCH: FI leaves IDLE when the three conditions of R77 hold. -/
def execDispatch (s : State) : Host.Outcome State Fault Refusal :=
  clocked s fun s => if s.fi.st = .idle then s.dispatchNow else s

/-- The conditions of R78 beside the OPEN at the head. -/
def State.openReady (s : State) : Bool :=
  decide (s.fi.st = .priming) && s.cq.primed && s.sd.running && usablePeriod s.sd.period
    && !s.hj.holds.any && s.fi.runEnable

/-- FI takes the OPEN (R79): the contour record is latched, SD starts the contour and tests overdue at
once (R112, R116). -/
def State.takeOpen (s : State) (e : Entry) (c : Contour) : State :=
  let s1 := s.dropHead.makeActive e
  let s2 : State := { s1 with
    fi := { s1.fi with contour := some c, strokes := 0 }
    sd := { s1.sd with stallTimer := 0, slow := false, clearing := 0 } }
  let s3 := s2.recomputeDemand.enter .pivotEntry
  if s3.overdue then s3.raiseSlow else s3

/-- The take of the OPEN at the head, when every condition of R78 holds. -/
def State.openTake (s : State) : State :=
  match s.cq.entries with
  | e :: _ =>
    match e.body with
    | .opening g ft tag =>
      match s.gt.grades[g]? with
      | some (some r) =>
        if s.openReady then
          s.takeOpen e { index := g, grade := r, fTarget := ft, offset := s.gt.offset, tag := tag }
        else s
      | _ => s
    | _ => s
  | [] => s

/-- OPEN_TAKE. -/
def execOpenTake (s : State) : Host.Outcome State Fault Refusal := clocked s State.openTake

/-- The state STARVED resumes into, by the class of the head entry's junction (R83). -/
def State.resumeClass (s : State) (c : Contour) (e : Entry) : FiState :=
  match classify c.grade e.junction with
  | .smooth => if s.fi.h = c.target s.fi.heading then .cutNormal else .cutCrawl
  | .turn => .cutCrawl
  | .pivot => .pivotCorner

/-- FI leaves STARVED when the prime condition holds and the hold-reason set is empty (R83). -/
def State.starvedResume (s : State) : State :=
  match s.fi.contour, s.cq.entries with
  | some c, e :: _ =>
    if decide (s.fi.st = .starved) && s.cq.primed && !s.hj.holds.any && e.isCut then
      ((s.takeEntry e).limitBudget e).enter (s.resumeClass c e)
    else s
  | _, _ => s

/-- STARVED_RESUME. -/
def execStarvedResume (s : State) : Host.Outcome State Fault Refusal := clocked s State.starvedResume

end Sys2Proof.Machine
end

