-- ==== Sys2Proof/Machine/Stroke.lean ====
section
/-! DEFINITION. The stroke decoder's events: the quadrature edges of the crank (R104, R105, R109), the
index (R106 to R108) with FI's reaction to it (R70 to R75) and the SLOW evaluation (R114, R115), the
overdue ground (R114) and the stall timeout (R112). -/

namespace Sys2Proof.Machine

/-! ### Quadrature (R104, R105, R109) -/

/-- A filter with a filtered edge takes the other level (R101). -/
def Filter.toggle (f : Filter) (on : Bool) : Filter :=
  if on then { raw := !f.filtered, filtered := !f.filtered, run := 0 } else f

/-- The levels of CA and CB after the sample's filtered edges, with their pins (log 26); the stall
timer and the edge age take the sample as a crank edge, and a STALL that a tick has brought stays to be
taken (R104, R112, R113, log 23). -/
def State.crankSample (s : State) (onA onB : Bool) : State :=
  let ca := s.sd.ca.toggle onA
  let cb := s.sd.cb.toggle onB
  { s with
    pins := { s.pins with ca := if onA then ca.filtered else s.pins.ca,
                          cb := if onB then cb.filtered else s.pins.cb }
    sd := { s.sd with ca := ca, cb := cb, edgeAge := 0, stallTimer := 0 } }

/-- Whether an edge counts forward (R104): `onA` says whether it is on CA, and the levels are those
after the edge. -/
def countsForward (onA : Bool) (ca cb bLeads : Bool) : Bool :=
  Bool.xor bLeads (if onA then Bool.xor ca cb else !Bool.xor ca cb)

/-- SD reports an INDEX or REVERSAL fault in any state but OFFLINE (R105, R108, R109, R110). -/
def State.reportCrank (s : State) (c : Cause) : State :=
  if s.fi.st = .offline then s else s.reportFault c

/-- A missing index (R109). -/
def State.missIndex (s : State) : State :=
  let run := s.sd.missingRun + 1
  let s1 : State := { s with sd := { s.sd with
      sinceIndex := s.sd.sinceIndex - 256
      missingTally := saturate s.sd.missingTally
      missingRun := if run = 2 then 0 else run
      startPresent := false
      clearing := 0 } }
  if run = 2 then s1.reportCrank .index else s1

/-- A forward count (R104, R105, R109). -/
def State.countForward (s : State) : State :=
  let since := s.sd.sinceIndex + 1
  let s1 : State := { s with sd := { s.sd with crank := s.sd.crank + 1, sinceIndex := since,
                                               backRun := 0 } }
  if since = 259 then s1.missIndex else s1

/-- A back count (R104, R105). -/
def State.countBack (s : State) : State :=
  let run := s.sd.backRun + 1
  let s1 : State := { s with sd := { s.sd with
      crank := s.sd.crank - 1
      sinceIndex := if s.sd.sinceIndex = -32768 then s.sd.sinceIndex else s.sd.sinceIndex - 1
      backRun := if run = 8 then 0 else run } }
  if run = 8 then s1.reportCrank .reversal else s1

/-- The quadrature edges of one sample (R104). -/
def State.crankEdge (s : State) (onA onB : Bool) : State :=
  let s1 := s.crankSample onA onB
  match onA, onB with
  | true, true => { s1 with sd := { s1.sd with quadTally := saturate s1.sd.quadTally } }
  | false, false => s1
  | a, _ =>
    if countsForward a s1.sd.ca.filtered s1.sd.cb.filtered s.gt.settings.bLeads then s1.countForward
    else s1.countBack

/-- CRANK_EDGE; with an edge on neither line there is no event (log 4). -/
def execCrankEdge (onA onB : Bool) (s : State) : Host.Outcome State Fault Refusal :=
  clocked s fun s => if onA || onB then s.crankEdge onA onB else s

/-! ### FI at a valid index event (R70 to R75) -/

/-- The bite entry of R70. -/
def State.biteEntry (s : State) : Option Entry :=
  if s.cutActive then s.fi.active
  else
    match s.fi.st with
    | .pivotEntry => s.cq.entries.head?.filter Entry.isCut
    | .held .pivotEntry => s.cq.entries.head?.filter Entry.isCut
    | .starved => s.cq.entries.head?.filter Entry.isCut
    | _ => none

/-- The refresh of the budget at a valid index event with a period (R70). -/
def State.refresh (s : State) : State :=
  match s.fi.contour, s.biteEntry with
  | some c, some e => { s with fi := { s.fi with budget := biteOf c.grade e } }
  | _, _ => s

/-- One turn step of H toward a target (R52, R73, R74, R82). -/
def State.turnTo (s : State) (c : Contour) (target : Nat) : State :=
  { s with fi := { s.fi with h := turnStep target s.fi.h c.grade.turn } }

/-- CORNER at a valid index event: H turns toward the active entry's heading, and CORNER ends when the
step brings it there (R74). -/
def State.cornerStep (s : State) (c : Contour) : State :=
  match s.fi.active.bind Entry.entryHeading with
  | none => s
  | some heading =>
    let s1 := s.turnTo c (c.target heading)
    if s1.fi.h = c.target heading then
      if c.grade.settle = 0 then s1.enter .cutNormal
      else ({ s1 with fi := { s1.fi with settle := 0 } } : State).enter .pivotSettle
    else s1

/-- SETTLE at a valid index event (R75). -/
def State.settleStep (s : State) (c : Contour) : State :=
  let s1 : State := { s with fi := { s.fi with settle := s.fi.settle + 1 } }
  if c.grade.settle ≤ s1.fi.settle then s1.enter .cutNormal else s1

/-- CRAWL at a valid index event: H turns toward the path, and FI goes to `normal` when the step brings
it there (R73, R87, R93). -/
def State.crawlStep (s : State) (c : Contour) (normal : FiState) : State :=
  let s1 := s.turnTo c (c.target s.fi.heading)
  if s1.fi.h = c.target s.fi.heading then s1.enter normal else s1

/-- What a valid index event turns (R73 to R75, R82, R87, R88, R93). -/
def State.indexTurn (s : State) (c : Contour) : State :=
  match s.fi.st with
  | .pivotCorner => s.cornerStep c
  | .pivotSettle => s.settleStep c
  | .cutCrawl => s.crawlStep c .cutNormal
  | .holding .cutCrawl => s.crawlStep c (.holding .cutNormal)
  | .stopping .cutCrawl => s.crawlStep c (.stopping .cutNormal)
  | .starved => s.turnTo c (c.target s.fi.heading)
  | _ => s

/-- FI acts on a VALID index event, with or without a period (R70, R71). -/
def State.indexEvent (s : State) (withPeriod : Bool) : State :=
  let s1 := if withPeriod then s.refresh else s
  match s.fi.contour with
  | none => s1.applyCap
  | some c =>
    (({ s1 with fi := { s1.fi with strokes := s1.fi.strokes + 1 } } : State).applyCap).indexTurn c

/-! ### The index (R106 to R108, R114, R115) -/

/-- An index at this crank count is valid (R106). -/
def validCount (c : BitVec 8) : Bool := decide (c.toNat ≤ 2) || decide (254 ≤ c.toNat)

/-- The period of a valid index, where the measurement start is present (R107, log 21). -/
def State.measured (s : State) : Option Nat :=
  if s.sd.startPresent then some (max 1 s.sd.indexAge) else none

/-- The SLOW condition and the clearing run after a valid index (R114, R115): SD evaluates them only
while a contour is active. -/
def State.slowAfter (s : State) (period : Option Nat) : Bool × Nat :=
  match s.fi.contour, period with
  | none, _ => (s.sd.slow, s.sd.clearing)
  | some _, none => (s.sd.slow, 0)
  | some c, some p =>
    if strokeRate p < c.grade.minSpm then (true, 0)
    else
      let run := min 2 (s.sd.clearing + 1)
      if s.sd.slow && decide (run = 2) then (false, 0) else (s.sd.slow, run)

/-- A valid index at SD (R106, R107). -/
def State.countIndex (s : State) (period : Option Nat) : State :=
  { s with sd := { s.sd with
      crank := 0
      sinceIndex := 0
      strokeTotal := s.sd.strokeTotal + 1
      period := period.orElse fun _ => s.sd.period
      indexAge := 0
      startPresent := true
      slipRun := 0
      missingRun := 0 } }

/-- A valid index, in the order of R106. -/
def State.validIndex (s : State) : State :=
  let period := s.measured
  ((s.countIndex period).indexEvent period.isSome).setSlow (s.slowAfter period).1
    (s.slowAfter period).2

/-- A slip (R108); FI keeps the budget and the stroke count (R70). -/
def State.slipIndex (s : State) : State :=
  let run := s.sd.slipRun + 1
  let s1 : State := { s with sd := { s.sd with
      crank := 0
      sinceIndex := 0
      slipTally := saturate s.sd.slipTally
      slipRun := if run = 3 then 0 else run
      startPresent := false
      clearing := 0 } }
  if run = 3 then s1.reportCrank .index else s1

/-- The pin and the filter of CZ at a filtered rising edge (log 26). -/
def State.czRises (s : State) : State :=
  { s with pins := { s.pins with cz := true },
           sd := { s.sd with cz := { raw := true, filtered := true, run := 0 } } }

/-- An index is checked against the crank count (R106). -/
def State.crankIndex (s : State) : State :=
  let s1 := s.czRises
  if validCount s1.sd.crank then s1.validIndex else s1.slipIndex

/-- CRANK_INDEX. -/
def execCrankIndex (s : State) : Host.Outcome State Fault Refusal := clocked s State.crankIndex

/-! ### Overdue and stall -/

/-- The index age at the microsecond where overdue first holds (R114, log 1). -/
def overdueAge (minSpm : Nat) : Nat := 60000000 / minSpm + 1

/-- SLOW_OVERDUE: the index age has passed the threshold of the contour (R114). -/
def State.slowOverdue (s : State) : State :=
  match s.fi.contour with
  | none => s
  | some c =>
    ({ s with sd := { s.sd with
        indexAge := max s.sd.indexAge (overdueAge c.grade.minSpm) } } : State).raiseSlow

/-- SLOW_OVERDUE. -/
def execSlowOverdue (s : State) : Host.Outcome State Fault Refusal := clocked s State.slowOverdue

/-- The STALL a tick has brought is reported, whatever has happened since that tick (R110, R112,
R152). Without one, the tick that brings the timer to the timeout comes to SD now, while the monitor
is active: the timer restarts, the edge age is raised, which is then at least the timeout, STALL is
reported and the tick is counted (R113, log 1, log 23). -/
def State.stallTimeout (s : State) : State :=
  if s.sd.stallDue then
    ({ s with sd := { s.sd with stallDue := false } } : State).reportFault .stall
  else if s.stallActive then
    ({ s with sd := { s.sd with
        stallTimer := 0
        edgeAge := max (saturate s.sd.edgeAge) s.gt.settings.stallTimeout
        stallTaken := true } } : State).reportFault .stall
  else s

/-- STALL_TIMEOUT. -/
def execStallTimeout (s : State) : Host.Outcome State Fault Refusal := clocked s State.stallTimeout

end Sys2Proof.Machine
end

