-- ==== Sys2Proof/Machine/Supervision.lean ====
section
/-! DEFINITION. Supervision's events: the stop-limit expiry (R94, R156), the loss of the clock found by
the monitor (R149, R161) and the return of the clock (R162, R163). -/

namespace Sys2Proof.Machine

/-- The stop-limit expiry ends the quick stop with the last commit in place (R94, R156). -/
def State.stopLimit (s : State) : State :=
  match s.fi.st with
  | .stopping _ => ({ s with sv := { s.sv with stopTimer := 100 } } : State).endStop
  | _ => s

/-- STOP_LIMIT_EXPIRY. -/
def execStopLimitExpiry (s : State) : Host.Outcome State Fault Refusal := clocked s State.stopLimit

/-! ### Loss of clock -/

/-- The monitor drives a STEP line low; a pulse cut short with MPERMIT high is not counted (R149). With
MPERMIT low already the counts stand as the fall left them (R145, log 24). After a step size write in
the high time, one step of the new unit is taken back (R148, log 45). -/
def AxisOut.cutPulse (a : AxisOut) (permitted : Bool) : AxisOut :=
  if a.step && permitted then
    { a with step := false, emitted := a.emitted - 1,
             output := if a.dir then a.output - 1 else a.output + 1 }
  else { a with step := false }

/-- The monitor finds a loss of clock (R149, R161). -/
def State.clockLost (s : State) : State :=
  { s with
    pins := { s.pins with clkin := false }
    ap := { s.ap with x := s.ap.x.cutPulse s.sv.permit, y := s.ap.y.cutPulse s.sv.permit,
                      h := s.ap.h.cutPulse s.sv.permit }
    sv := { s.sv with monitor := .lost, missed := 4, clockLosses := saturate s.sv.clockLosses } }

/-- CLOCK_LOSS_FOUND: the monitor's own step, taken without CLKIN, while it is WATCHING (R161, log 4). -/
def execClockLossFound (s : State) : Host.Outcome State Fault Refusal :=
  .next (if s.sv.monitor = .watching then s.clockLost else s)

/-! ### Return of the clock -/

/-- AP applies R145 for the fall of MPERMIT that the monitor made; with the permit state already LOW
nothing fell and nothing is owed (R149, R162). -/
def State.lossFall (s : State) : State := s.lowerPermit

/-- A fault's end after a clock loss: STOPPED directly with v 0, and the flush (R94, R162). -/
def State.stopDirect (s : State) : State := (s.endJog .fault).endStop

/-- SV's action by FI's state as it stood when the clock stopped (R162). -/
def State.returnAction (s : State) : State :=
  match s.fi.st with
  | .offline => s.lossFall
  | .stopping _ => s.furtherFault.lossFall.stopDirect
  | .stopped => s.furtherFault.lossFall
  | _ =>
    match s.sv.record with
    | none => (s.recordFault .clockLoss).lossFall.stopDirect
    | some _ => s.furtherFault.lossFall.stopDirect

/-- The return of the clock: out of LOST by R162, otherwise the blocks resume (R163), and the edge sets
the missed-period count to 0 (R161, log 30). -/
def State.clockReturned (s : State) : State :=
  let s1 : State := { s with pins := { s.pins with clkin := true }, sv := { s.sv with missed := 0 } }
  if s.sv.monitor = .lost then
    let s2 := s1.returnAction
    { s2 with sv := { s2.sv with monitor := .watching } }
  else s1

/-- CLOCK_RETURN: the first rising edge of CLKIN (R162). -/
def execClockReturn (s : State) : Host.Outcome State Fault Refusal := .next s.clockReturned

end Sys2Proof.Machine
end

