-- ==== Sys2Proof/Machine/Dispatch.lean ====
section
/-! DEFINITION. One arm for each command of the operation table. -/

namespace Sys2Proof.Machine

def exec (i : Instr) (s : State) : Host.Outcome State Fault Refusal :=
  match i with
  | .powerOn straps lines => Sys2Proof.Machine.execPowerOn straps lines s
  | .resetn straps lines => Sys2Proof.Machine.execResetn straps lines s
  | .online p d => Sys2Proof.Machine.execOnline p d s
  | .setMachine p d => Sys2Proof.Machine.execSetMachine p d s
  | .setGrade p d => Sys2Proof.Machine.execSetGrade p d s
  | .setLevels p d => Sys2Proof.Machine.execSetLevels p d s
  | .setOrigin p d => Sys2Proof.Machine.execSetOrigin p d s
  | .armSupervision p d => Sys2Proof.Machine.execArmSupervision p d s
  | .syncTime p d => Sys2Proof.Machine.execSyncTime p d s
  | .setJogLock p d => Sys2Proof.Machine.execSetJogLock p d s
  | .queueTraverse p d => Sys2Proof.Machine.execQueueTraverse p d s
  | .queueOpen p d => Sys2Proof.Machine.execQueueOpen p d s
  | .queueLine p d => Sys2Proof.Machine.execQueueLine p d s
  | .queueArc p d => Sys2Proof.Machine.execQueueArc p d s
  | .run p d => Sys2Proof.Machine.execRun p d s
  | .pauseAfter p d => Sys2Proof.Machine.execPauseAfter p d s
  | .flush p d => Sys2Proof.Machine.execFlush p d s
  | .resetCut p d => Sys2Proof.Machine.execResetCut p d s
  | .clearFault p d => Sys2Proof.Machine.execClearFault p d s
  | .hold p d => Sys2Proof.Machine.execHold p d s
  | .release p d => Sys2Proof.Machine.execRelease p d s
  | .bladeState p d => Sys2Proof.Machine.execBladeState p d s
  | .setBladeOffset p d => Sys2Proof.Machine.execSetBladeOffset p d s
  | .setOverride p d => Sys2Proof.Machine.execSetOverride p d s
  | .jogStart p d => Sys2Proof.Machine.execJogStart p d s
  | .jogKeep p d => Sys2Proof.Machine.execJogKeep p d s
  | .jogEnd p d => Sys2Proof.Machine.execJogEnd p d s
  | .readProgress p d => Sys2Proof.Machine.execReadProgress p d s
  | .readStatus p d => Sys2Proof.Machine.execReadStatus p d s
  | .readStroke p d => Sys2Proof.Machine.execReadStroke p d s
  | .readGrade p d => Sys2Proof.Machine.execReadGrade p d s
  | .readPort p d => Sys2Proof.Machine.execReadPort p d s
  | .setBaud p d => Sys2Proof.Machine.execSetBaud p d s
  | .checkDiscard p chars => Sys2Proof.Machine.execCheckDiscard p chars s
  | .unknownKindTelegram p kind d => Sys2Proof.Machine.execUnknownKindTelegram p kind d s
  | .replyWrite p => Sys2Proof.Machine.execReplyWrite p s
  | .noticeBuild p => Sys2Proof.Machine.execNoticeBuild p s
  | .baudSwitch p => Sys2Proof.Machine.execBaudSwitch p s
  | .guardEnd p => Sys2Proof.Machine.execGuardEnd p s
  | .rxCharacter p value mark stop noise => Sys2Proof.Machine.execRxCharacter p value mark stop noise s
  | .breakFound p => Sys2Proof.Machine.execBreak p s
  | .assemblerTake p => Sys2Proof.Machine.execAssemblerTake p s
  | .gapExpiry p => Sys2Proof.Machine.execGapExpiry p s
  | .feedPeriodExpiry => Sys2Proof.Machine.execFeedPeriodExpiry s
  | .dispatch => Sys2Proof.Machine.execDispatch s
  | .openTake => Sys2Proof.Machine.execOpenTake s
  | .starvedResume => Sys2Proof.Machine.execStarvedResume s
  | .crankEdge onA onB => Sys2Proof.Machine.execCrankEdge onA onB s
  | .crankIndex => Sys2Proof.Machine.execCrankIndex s
  | .slowOverdue => Sys2Proof.Machine.execSlowOverdue s
  | .holdnFall => Sys2Proof.Machine.execHoldnFall s
  | .holdnRise => Sys2Proof.Machine.execHoldnRise s
  | .stallTimeout => Sys2Proof.Machine.execStallTimeout s
  | .windowExpiry => Sys2Proof.Machine.execWindowExpiry s
  | .stopLimitExpiry => Sys2Proof.Machine.execStopLimitExpiry s
  | .clockLossFound => Sys2Proof.Machine.execClockLossFound s
  | .clockReturn => Sys2Proof.Machine.execClockReturn s
  | .characterSent p => Sys2Proof.Machine.execCharacterSent p s
  | .startBitVerify p s3 s5 s7 => Sys2Proof.Machine.execStartBitVerify p s3 s5 s7 s
  | .lowPhaseReturn p => Sys2Proof.Machine.execLowPhaseReturn p s
  | .breakPhaseEnd p => Sys2Proof.Machine.execBreakPhaseEnd p s
  | .stepSlot axis => Sys2Proof.Machine.execStepSlot axis s

end Sys2Proof.Machine
end

