-- ==== Sys2Proof/Machine/Tick.lean ====
section
/-! DEFINITION. The block's own work, taken when no command waits (log 2): the steps that are due, the
CLKIN cycle with the receivers, the transmitters and the microsecond (R98, R101, R142, R171), and the
monitor's period while CLKIN stands still (R161). -/

namespace Sys2Proof.Machine

/-! ### Steps that are due -/

/-- A step the block takes as soon as its condition holds. -/
inductive Due where
  | reply (p : Port)
  | notice (p : Port)
  | baud (p : Port)
  | gap (p : Port)
  | assemble (p : Port)
  | slot (p : Port)
  | dispatch
  | openTake
  | resume
  | stall
  | stopLimit
  deriving DecidableEq, Repr

/-- The condition of a due step. -/
def Due.holds (s : State) : Due → Bool
  | .reply p => (s.replyDue p).isSome
  | .notice p => (s.noticeDue p).isSome
  | .baud p => (s.port p).switchDue && (s.port p).pendingDivisor.isSome
  | .gap p => (s.port p).asm.assembling && decide (gapLimit ≤ (s.port p).asm.gap)
  | .assemble p => (s.port p).asm.slot.isNone && !(s.port p).rxFifo.isEmpty
  | .slot p => (s.port p).asm.slot.isSome && s.mayTake p
  | .dispatch =>
    decide (s.fi.st = .idle) && s.fi.runEnable && !s.hj.holds.any
      && s.cq.entries.head?.any fun e => !e.isCut
  | .openTake =>
    s.openReady && s.cq.entries.head?.any fun e =>
      match e.body with
      | .opening g _ _ => ((s.gt.grades[g]?).join).isSome
      | _ => false
  | .resume =>
    decide (s.fi.st = .starved) && s.contourActive && s.cq.primed && !s.hj.holds.any
      && s.cq.entries.head?.any Entry.isCut
  | .stall => s.sd.stallDue
  | .stopLimit =>
    match s.fi.st with
    | .stopping _ => decide (100 ≤ s.sv.stopTimer)
    | _ => false

/-- The effect of a due step. -/
def Due.act (s : State) : Due → State
  | .reply p => s.replyWrite p
  | .notice p => s.noticeBuild p
  | .baud p => s.onPort p PortState.baudSwitch
  | .gap p => s.onPort p PortState.gapExpire
  | .assemble p => s.onPort p PortState.assemblerTake
  | .slot p => s.takeSlot p
  | .dispatch => s.dispatchNow
  | .openTake => s.openTake
  | .resume => s.starvedResume
  | .stall => s.stallTimeout
  | .stopLimit => s.stopLimit

/-- The due steps of one port. -/
def portSteps (p : Port) : List Due :=
  [.reply p, .notice p, .baud p, .gap p, .assemble p, .slot p]

/-- Every step that can be due. -/
def allSteps : List Due :=
  portSteps .job ++ portSteps .blade ++ portSteps .panel
    ++ [.dispatch, .openTake, .resume, .stall, .stopLimit]

/-- The steps due now. -/
def State.dueSteps (s : State) : List Due := allSteps.filter (Due.holds s)

/-- A free choice of order has been made (log 5). -/
def State.chosen (s : State) : State := { s with choices := s.choices + 1 }

/-- The free choice between two orders (log 5). -/
def State.coin (s : State) : Bool := decide (Config.choice s.choices % 2 = 1)

/-- One of the due steps is taken; where several are due, which one is free (log 5). -/
def State.takeDue (s : State) : List Due → State
  | [] => s
  | [d] => Due.act s d
  | d :: rest =>
    Due.act s.chosen ((d :: rest).getD (Config.choice s.choices % (rest.length + 1)) d)

/-! ### The receivers and transmitters (R171, R173 to R175, R181, R182) -/

/-- The level of a port's receive pin. -/
def State.rxLevel (s : State) : Port → Bool
  | .job => s.pins.jrxd
  | .blade => s.pins.brxd
  | .panel => s.pins.prxd

/-- The majority of three samples (R173, R174). -/
def majority (a b c : Bool) : Bool := (a && b) || (a && c) || (b && c)

/-- The run of high samples after one more, held at most at 3 (R173, R175). -/
def highAfter (run : Nat) (level : Bool) : Nat := if level then min 3 (run + 1) else 0

/-- A sample in IDLE: a low one after three high ones is sample 0 of a start bit (R173). -/
def Receiver.sampleIdle (r : Receiver) (level : Bool) : Receiver :=
  if !level && decide (r.highRun = 3) then
    { r with phase := .start, highRun := 0, index := 0, bits := [], votes := [], noise := false }
  else { r with highRun := highAfter r.highRun level }

/-- A sample in START: 3, 5 and 7 are read, and 7 decides (R173). -/
def PortState.sampleStart (q : PortState) (level : Bool) : PortState :=
  let i := q.rx.index + 1
  if i = 7 then q.verifyStart (q.rx.votes.getD 0 true) (q.rx.votes.getD 1 true) level
  else if i = 3 ∨ i = 5 then { q with rx := { q.rx with index := i, votes := q.rx.votes ++ [level] } }
  else { q with rx := { q.rx with index := i } }

/-- The value of eight bits, least significant first (R170). -/
def bitsValue : List Bool → Nat
  | [] => 0
  | b :: rest => (if b then 1 else 0) + 2 * bitsValue rest

/-- A sample in DATA: bit k is the majority of samples 16k + 7, 16k + 8 and 16k + 9, and sample 169
completes the character (R174). -/
def PortState.sampleData (q : PortState) (level : Bool) : PortState :=
  let i := q.rx.index + 1
  if i < 16 then { q with rx := { q.rx with index := i } }
  else if i % 16 = 7 ∨ i % 16 = 8 then
    { q with rx := { q.rx with index := i, votes := q.rx.votes ++ [level] } }
  else if i % 16 = 9 then
    let a := q.rx.votes.getD 0 level
    let b := q.rx.votes.getD 1 level
    let bits := q.rx.bits ++ [majority a b level]
    let noise := q.rx.noise || Bool.xor a b || Bool.xor b level
    if i = 169 then
      q.characterDone (BitVec.ofNat 8 (bitsValue (bits.take 8))) (bits.getD 8 false)
        (bits.getD 9 false) noise
    else { q with rx := { q.rx with index := i, bits := bits, votes := [], noise := noise } }
  else { q with rx := { q.rx with index := i } }

/-- A sample in phase LOW or BREAK, short of the break found: three consecutive high samples end the
phase (R175). -/
def PortState.sampleLow (q : PortState) (level : Bool) : PortState :=
  let run := highAfter q.rx.highRun level
  if run = 3 then
    if q.rx.phase = .low then q.lineReturn else { q with rx := q.rx.toIdle 3 }
  else { q with rx := { q.rx with highRun := run,
                                  breakTest := if q.rx.phase = .low then q.rx.breakTest + 1 else 0 } }

/-- The gap timer advances by one at each sample in ASSEMBLING (R180). -/
def PortState.gapTick (q : PortState) : PortState :=
  if q.asm.assembling then { q with asm := { q.asm with gap := min gapLimit (q.asm.gap + 1) } } else q

/-- One sample of a receiver by its phase. -/
def PortState.sample (q : PortState) (level : Bool) : PortState :=
  match q.rx.phase with
  | .idle => { q with rx := q.rx.sampleIdle level }
  | .start => q.sampleStart level
  | .data => q.sampleData level
  | .low => q.sampleLow level
  | .brk => q.sampleLow level

/-- Samples of the break test (R175). -/
def breakLimit : Nat := 176

/-- One receiver sample of a port: the gap timer, the receiver, and a break where the test count
reaches 176. A break at the very sample at which the gap timer reaches 384 comes before the gap's
expiry, which it takes away with the telegram (R176, R180, log 44). -/
def State.samplePort (s : State) (p : Port) : State :=
  let s1 := s.onPort p fun q => (q.gapTick).sample (s.rxLevel p)
  if decide ((s1.port p).rx.phase = .low) && decide (breakLimit ≤ (s1.port p).rx.breakTest) then
    s1.findBreak p
  else s1

/-- The receiver's part of a CLKIN cycle: a sample every D cycles (R171). -/
def State.rxCycle (s : State) (p : Port) : State :=
  let q := s.port p
  if q.divisor ≤ q.rxClock + 1 then
    (s.onPort p fun q => { q with rxClock := 0 }).samplePort p
  else s.onPort p fun q => { q with rxClock := q.rxClock + 1 }

/-- The end of a bit time at the transmitter (R181, R182). -/
def PortState.txBit (q : PortState) : PortState :=
  match q.tx.phase with
  | .idle => q
  | .guard =>
    if q.tx.guard = 10 then q.guardEnd
    else { q with tx := { q.tx with guard := q.tx.guard + 1 } }
  | .sending =>
    if q.tx.bit = 10 then q.characterSent
    else { q with tx := { q.tx with bit := q.tx.bit + 1 } }

/-- The transmitter's part of a CLKIN cycle: a bit time is 16 × D cycles (R171). -/
def PortState.txCycle (q : PortState) : PortState :=
  if q.tx.phase = .idle then { q with txClock := 0 }
  else if 16 * q.divisor ≤ q.txClock + 1 then ({ q with txClock := 0 } : PortState).txBit
  else { q with txClock := q.txClock + 1 }

/-- The bit a transmitter holds on its line: high outside SENDING (R170, R181). -/
def Transmitter.line (t : Transmitter) : Bool :=
  match t.phase, t.shift with
  | .sending, some c =>
    if t.bit = 0 then false
    else if t.bit ≤ 8 then c.value.getLsbD (t.bit - 1)
    else if t.bit = 9 then c.mark
    else true
  | _, _ => true

/-- One port's part of a CLKIN cycle: the receiver's sample, then the transmitter's bit. Where the bit
makes room for a reply that lets the assembler take from a full FIFO, a character completed in the same
cycle is stored first; R177 lets either be first (log 41). A character completed or a break found in
the cycle in which the SET_BAUD reply's last stop bit leaves comes before the switch (R172, log 44). -/
def State.portCycle (s : State) (p : Port) : State := (s.rxCycle p).onPort p PortState.txCycle

/-! ### The microsecond (R98, R101, R107, R142) -/

/-- One sample of an input filter with filter count `k` (R101): the filter, and whether the sample
brings a filtered edge, whose level the edge's own event takes. -/
def Filter.sample (f : Filter) (level : Bool) (k : Nat) : Filter × Bool :=
  if level = f.filtered then ({ f with raw := level, run := 0 }, false)
  else if k ≤ f.run + 1 then ({ f with raw := level }, true)
  else ({ f with raw := level, run := f.run + 1 }, false)

/-- The counts that advance with the microsecond: the microsecond count, the phase, the index age and
the slot clock; STEP levels fall after their 1 µs (R98, R107, R142). -/
def State.passMicro (s : State) : State :=
  { s with
    tb := { s.tb with us := s.tb.us + 1, phase := if 999 ≤ s.tb.phase then s.tb.phase else s.tb.phase + 1 }
    sd := { s.sd with indexAge := min 1000000 (s.sd.indexAge + 1) }
    ap := { s.ap with slotClock := s.ap.slotClock + 1,
                      x := { s.ap.x with step := false },
                      y := { s.ap.y with step := false },
                      h := { s.ap.h with step := false } } }

/-- A filtered edge of CZ at this sample, where there is one: a rise is an index, a fall is none
(R106). -/
def State.indexSample (s : State) (edge : Bool) : State :=
  if edge then
    if s.pins.cz then s.crankIndex
    else { s with sd := { s.sd with cz := Filter.edge false } }
  else s

/-- The overdue test of this microsecond (R114). -/
def State.overdueTest (s : State) : State := if s.overdue then s.raiseSlow else s

/-- The index and the overdue test of one microsecond. R114 gives no order for a valid index at the
very microsecond where overdue first holds; either may be first (log 5). -/
def State.strokeSample (s : State) (edge : Bool) : State :=
  if edge && s.pins.cz && s.overdue && !s.sd.slow then
    if s.coin then (s.chosen.overdueTest.indexSample edge).overdueTest
    else (s.chosen.indexSample edge).overdueTest
  else (s.indexSample edge).overdueTest

/-- A filtered edge of HOLDN at this sample, where there is one (R121). -/
def State.lineSample (s : State) (edge : Bool) : State :=
  if edge then if s.pins.holdn then s.lineRises else s.lineFalls else s

/-- Whether CA or CB has a filtered edge at this sample (R101). -/
def State.crankMoves (s : State) : Bool :=
  (s.sd.ca.sample s.pins.ca s.gt.settings.filterK).2
    || (s.sd.cb.sample s.pins.cb s.gt.settings.filterK).2

/-- The filtered edges of CA, CB and CZ at this sample act, the quadrature before the index, with the
overdue test (R106, R114). So a REVERSAL, or an INDEX of a missing index, is reported before the INDEX
of a slip and before an overdue that first holds at the same sample (R114, R152, log 44). -/
def State.bladeSample (s : State) (onA onB edge : Bool) : State :=
  (if onA || onB then s.crankEdge onA onB else s).strokeSample edge

/-- The four inputs are sampled and their filtered edges act (R101). A HOLDN edge acts before or after
what the crank inputs and the overdue test do at the same sample, a free order (R119, log 5). -/
def State.sampleInputs (s : State) : State :=
  let k := s.gt.settings.filterK
  let ca := s.sd.ca.sample s.pins.ca k
  let cb := s.sd.cb.sample s.pins.cb k
  let cz := s.sd.cz.sample s.pins.cz k
  let holdn := s.sd.holdn.sample s.pins.holdn k
  let s1 : State := { s with sd := { s.sd with ca := ca.1, cb := cb.1, cz := cz.1, holdn := holdn.1 } }
  if holdn.2 && (ca.2 || cb.2 || cz.2 || s1.overdue) then
    if s1.coin then (s1.chosen.lineSample holdn.2).bladeSample ca.2 cb.2 cz.2
    else (s1.chosen.bladeSample ca.2 cb.2 cz.2).lineSample holdn.2
  else (s1.bladeSample ca.2 cb.2 cz.2).lineSample holdn.2

/-- Where the tick has brought the stop timer to 100, the stop-limit expiry may be taken before FI's
work (R156, log 5). -/
def State.limitFirst (s : State) : State :=
  match s.fi.st with
  | .stopping _ =>
    if s.sv.stopTimer = 100 then if s.coin then s.chosen.stopLimit else s.chosen else s
  | _ => s

/-- Where the tick has brought a STALL, it may be taken before FI's work (R112, log 5, log 23). -/
def State.stallFirst (s : State) : State :=
  if s.sd.stallDue then if s.coin then s.chosen.stallTimeout else s.chosen else s

/-- The millisecond: the tick with FI's work and what is taken before it, and the tick at HJ. A STALL
taken before FI's work is taken before the tick at SV, so that the stop timer counts the tick of FI's
first step of the stop (R156, log 32). -/
def State.millisecond (s : State) : State :=
  s.tickTime.tickDecoder.stallFirst.tickStop.limitFirst.feedWork.tickWindow

/-- An INDEX taken at the sample of the tick that brings the stall timer to the timeout does not undo
the STALL that comes together with it, although its quick stop may have ended the contour: SV counts
both (R110, R152). `before` is the state before the sample. -/
def State.stallMeets (s before : State) : State :=
  if before.stallNears && !before.crankMoves && !s.stallActive then
    { s with sd := { s.sd with stallTimer := 0, stallDue := true } }
  else s

/-- One axis's slot at this microsecond (R142). -/
def AxisOut.slot (a : AxisOut) (t : Nat) (permitted : Bool) : AxisOut :=
  if a.emitted < a.laid ∧ slotOffset a.laid a.emitted = t then a.emit permitted else a

/-- The slots that begin at this microsecond (R142). -/
def State.slots (s : State) : State :=
  { s with ap := { s.ap with x := s.ap.x.slot s.ap.slotClock s.mpermit,
                             y := s.ap.y.slot s.ap.slotClock s.mpermit,
                             h := s.ap.h.slot s.ap.slotClock s.mpermit } }

/-- One microsecond. Where the phase passes 999, the sampled inputs and the expiry come together, and
either may be first (R71, R112, log 5). -/
def State.microsecond (s : State) : State :=
  let s1 := s.passMicro
  let s2 :=
    if 999 ≤ s.tb.phase then
      if s1.coin then (s1.chosen.sampleInputs.stallMeets s1).millisecond
      else s1.chosen.millisecond.sampleInputs
    else s1.sampleInputs
  s2.slots

/-! ### The block's own step -/

/-- A rising edge of CLKIN as the monitor sees it: in WATCHING its period has an edge, and the
missed-period count becomes 0 (R161). The model sets it at the edge, not at the end of the edge's
period, whose place it does not hold (log 30). -/
def State.clockEdge (s : State) : State :=
  match s.sv.monitor with
  | .watching => { s with sv := { s.sv with missed := 0 } }
  | _ => s

/-- One CLKIN cycle: the edge at the monitor, each port, and every sixteenth cycle the microsecond (R98,
R161, R171). Of the events
that come in one cycle those of the ports are always first: so a break on the panel port ends a
running jog before a HOLDN edge, a crank fault or the window tick of the same cycle can, an order
that R135 leaves open (log 43). A request completed in the cycle is taken after the cycle, behind an
expiry's take, flush or release, where R16, R23 and R31 let either be first (log 44). -/
def State.cycle (s : State) : State :=
  let s1 := ((s.clockEdge.portCycle .job).portCycle .blade).portCycle .panel
  if 15 ≤ s.subMicro then ({ s1 with subMicro := 0 } : State).microsecond
  else { s1 with subMicro := s.subMicro + 1 }

/-- One period of the monitor oscillator without a CLKIN edge (R161, log 30). -/
def State.monitorPeriod (s : State) : State :=
  match s.sv.monitor with
  | .watching =>
    if 3 ≤ s.sv.missed then s.clockLost else { s with sv := { s.sv with missed := s.sv.missed + 1 } }
  | _ => s

/-- What the block does when no command waits (log 2): with CLKIN still, a period of the monitor; with
the clock back in LOST, its return before anything else (R162); otherwise a due step, or one CLKIN
cycle. So a step that becomes due in a cycle, a READ_GRADE of the latched copy among them, comes after
all that the cycle does (R31, log 44). -/
def State.idle (s : State) : State :=
  if !s.pins.clkin then s.monitorPeriod
  else if s.sv.monitor = .lost then s.clockReturned
  else
    match s.dueSteps with
    | [] => s.cycle
    | d :: rest => s.takeDue (d :: rest)

end Sys2Proof.Machine
end

