-- ==== Sys2Proof/Safety.lean ====
section
/-! DEFINITION. What a safe state of the UN34C is, in the terms the statements use: the promises the
spec makes of every moment, and what it is for a request to be taken and answered. -/

namespace Sys2Proof.Machine

/-! ### Invariants of the block -/

/-- Successive entries' sequence numbers differ by exactly 1 modulo 65,536, and the next one accepted
follows the last (R1, R2). -/
def numbered : List Entry → Word16 → Prop
  | [], _ => True
  | [e], next => e.seq + 1 = next
  | e :: e' :: rest, next => e.seq + 1 = e'.seq ∧ numbered (e' :: rest) next

/-- The contour queue never holds more than 48 entries, in the order of their numbers (R1). -/
def State.queueSafe (s : State) : Prop :=
  s.cq.entries.length ≤ 48 ∧ numbered s.cq.entries s.cq.seq

/-- The permit state by FI's state (R158), with what keeps it so: the fault record is present exactly
in FAULT (R152), no contour is active in OFFLINE (4.1), and v is 0 where R63 says so. -/
structure State.permitSafe (s : State) : Prop where
  permit : s.sv.permit = true ↔ s.fi.st ≠ .offline ∧ s.fi.st ≠ .stopped
  record : s.sv.record.isSome = s.fi.st.isFault
  offline : s.fi.st = .offline → s.fi.contour = none
  still : s.fi.st.still = true → s.fi.v = 0

/-- While the permit state is LOW nothing is owed on any axis (R145). -/
def State.drivesSafe (s : State) : Prop :=
  s.sv.permit = false →
    s.ap.x.target = s.ap.x.output ∧ s.ap.y.target = s.ap.y.output ∧ s.ap.h.target = s.ap.h.output

/-- FI is in JOG exactly while the jog's phase is RUNNING or ENDING, apart from the quick stop
(R127). -/
def State.jogSafe (s : State) : Prop :=
  (s.fi.st = .jog → s.hj.phase ≠ .none) ∧
    (s.hj.phase ≠ .none → s.fi.st = .jog ∨ ∃ m, s.fi.st = .stopping m)

/-! ### Frames -/

/-- The parts of the state a frame speaks of. `ports` are the serial ports with their requests, but for
what they hold of notices, which is `notices`; `model` is the command queue with the model's own
counts. -/
inductive Block where
  | pins | tb | gt | cq | fi | sd | hj | ap | sv | ports | notices | model
  deriving DecidableEq, Repr

/-- A port without what it holds of notices. -/
def PortState.silent (q : PortState) : PortState :=
  { q with noticePass := 0,
           notices := { state := false, refill := false, contourDone := false, abandoned := false,
                        demand := false, fault := false } }

/-- A block is the same in two states. -/
def Block.same (s t : State) : Block → Prop
  | .pins => t.pins = s.pins
  | .tb => t.tb = s.tb
  | .gt => t.gt = s.gt
  | .cq => t.cq = s.cq
  | .fi => t.fi = s.fi
  | .sd => t.sd = s.sd
  | .hj => t.hj = s.hj
  | .ap => t.ap = s.ap
  | .sv => t.sv = s.sv
  | .ports => ∀ q, (t.port q).silent = (s.port q).silent
  | .notices => ∀ q, (t.port q).notices = (s.port q).notices ∧
      (t.port q).noticePass = (s.port q).noticePass
  | .model => t.pending = s.pending ∧ t.choices = s.choices ∧ t.subMicro = s.subMicro

/-- No pending notice is lost, and a pass of R197 goes on or ends (R196, R197). -/
def noticesKeptPending (s t : State) : Prop :=
  ∀ q, (∀ k, (s.port q).notices.has k = true → (t.port q).notices.has k = true) ∧
    ((t.port q).noticePass = (s.port q).noticePass ∨ (t.port q).noticePass = 0)

/-- Every block outside `touched` is the same, and no pending notice is lost. -/
def keptBut (touched : List Block) (s t : State) : Prop :=
  (∀ b, b ∉ touched → b.same s t) ∧ noticesKeptPending s t

/-- A state as a reset leaves it with the straps and input levels it samples and the arm latch at
`armed` (R25, R40, R97, R102, R118, R138, R151, R168, R171, R185, R199). -/
def atReset (straps : Straps) (lines : Lines) (armed : Bool) (t : State) : Prop :=
  t.tb = State.reset.tb ∧ t.gt = State.reset.gt ∧ t.cq = State.reset.cq ∧ t.fi = State.reset.fi ∧
    t.ap = State.reset.ap ∧
    t.sd = { State.reset.sd with
      ca := { raw := lines.ca, filtered := lines.ca, run := 0 }
      cb := { raw := lines.cb, filtered := lines.cb, run := 0 }
      cz := { raw := lines.cz, filtered := lines.cz, run := 0 }
      holdn := { raw := lines.holdn, filtered := lines.holdn, run := 0 } } ∧
    t.hj = { State.reset.hj with holds := { State.reset.hj.holds with line := !lines.holdn } } ∧
    t.sv = { State.reset.sv with armed := armed,
                                 monitor := if armed then .watching else .disarmed } ∧
    ∀ p, t.port p = PortState.reset
      (match straps.baudsel1, straps.baudsel0 with
        | false, false => 8
        | false, true => 4
        | true, false => 2
        | true, true => 1)

/-! ### FI as the rules give it -/

/-- FI's reaction to the hold-reason set becoming non-empty (R86). -/
def heldFi (f : Interpolator) : Interpolator :=
  match f.st with
  | .traversing => { f with st := .holding .traversing }
  | .cutNormal => { f with st := .holding .cutNormal }
  | .cutCrawl => { f with st := .holding .cutCrawl }
  | .pivotEntry => { f with st := .held .pivotEntry, v := 0 }
  | .pivotCorner => { f with st := .held .pivotCorner, v := 0 }
  | .pivotSettle => { f with st := .held .pivotSettle, v := 0 }
  | _ => f

/-- FI's reaction to the hold-reason set becoming empty (R89): v as it stands out of HOLDING into a
moving state, 0 out of HELD. -/
def resumedFi (f : Interpolator) : Interpolator :=
  match f.st with
  | .holding r => { f with st := r.state, v := if r.state.still then 0 else f.v }
  | .held r => { f with st := r.state, v := 0 }
  | _ => f

/-- FI's reaction to a change of the hold-reason set, which depends only on whether it is empty (R86,
R89). -/
def reactedFi (before after : HoldSet) (f : Interpolator) : Interpolator :=
  if before.any = after.any then f else if after.any then heldFi f else resumedFi f

/-- D as its source gives it: the latched copy, or the OPEN at the head with its table record (R57,
R58). -/
def sourceDemand (grades : List (Option Grade)) (override : Nat) (contour : Option Contour)
    (entries : List Entry) : Nat :=
  match contour, entries with
  | some c, _ => strokeDemand c.grade (c.fTarget * override / 100)
  | none, { body := .opening g target _, .. } :: _ =>
    match grades[g]? with
    | some (some r) => strokeDemand r (target * override / 100)
    | _ => 0
  | none, _ => 0

/-- D from the sources of a state, with a contour and a queue given. -/
def State.demandOf (s : State) (contour : Option Contour) (entries : List Entry) : Nat :=
  sourceDemand s.gt.grades s.hj.override contour entries

/-- The cap C in a state of FI with an entry active (R65); without one there is no motion to cap
(log 20). -/
def State.capFor (s : State) (st : FiState) : Option Entry → Nat
  | none => 0
  | some e =>
    if e.kind = .traverse then
      min (s.gt.settings.traverseFeed * s.hj.override / 100) s.gt.settings.fMax
    else if e.kind = .opening then 0
    else
      match s.fi.contour with
      | none => 0
      | some c =>
        let target := c.fTarget * s.hj.override / 100
        let ceiling := strokeCeiling (biteOf c.grade e) s.sd.period
        let base := min target (min s.gt.settings.fMax ceiling)
        if st = .cutCrawl ∨ st = .holding .cutCrawl then min base c.grade.crawl else base

/-- The speed of the constraint point at the end of entry `i` of a path (R62): 0 at the end of a
TRAVERSE, of the END-marked entry and at the queue tail, by the class at a junction, and no
constraint at a SMOOTH one. A junction without an angle, which no run reaches, is classed PIVOT (log
20). -/
def pointSpeed (g : Grade) (path : List Entry) (i : Nat) : Option Nat :=
  match path[i]?, path[i + 1]? with
  | none, _ => none
  | some _, none => some 0
  | some e, some next =>
    if e.kind = .traverse ∨ e.endMark = true then some 0
    else
      match next.junction with
      | none => some 0
      | some angle =>
        if angle.natAbs ≤ g.smooth then none
        else if angle.natAbs ≤ g.pivot then some g.crawl else some 0

/-- The look-ahead limit with `e` active (R62, R72): the least, over the constraint points ahead, of
the floor of root(v_j² + 2 × a × d). Without a contour the end of the active entry is the only point.
-/
def State.limitSpeed (s : State) (e : Entry) : Nat :=
  let a := s.gt.settings.accel
  let left := e.length - s.fi.done
  match s.fi.contour with
  | none => isqrt (2 * a * left)
  | some c =>
    let path := e :: s.cq.entries
    let limits := (List.range path.length).filterMap fun i =>
      (pointSpeed c.grade path i).map fun v =>
        isqrt (v ^ 2 + 2 * a * (left + ((s.cq.entries.take i).map Entry.length).sum))
    limits.min?.getD 0

/-- FI moves along the path: TRAVERSING, CUTTING, HOLDING, or the quick stop of a path (R66, R93). -/
def State.onPath (s : State) : Prop :=
  s.fi.st = .traversing ∨ s.fi.st = .cutNormal ∨ s.fi.st = .cutCrawl ∨ (∃ r, s.fi.st = .holding r) ∨
    ((∃ m, s.fi.st = .stopping m) ∧ s.hj.phase = .none)

/-- The speed, the remainder and the advance of one expiry along an entry (R60, R66, R67; the target
and the step of R87 in HOLDING and of R93 in the quick stop). A budget of 0 keeps the remainder of an
advance that needs no cut (log 35). -/
def State.motionOn (s : State) (e : Entry) : Advance :=
  let m := s.gt.settings
  let v := match s.fi.st with
    | .stopping _ => moveToward s.fi.v 0 (max 1 (m.quickAccel / 1000))
    | .holding _ => moveToward s.fi.v 0 (max 1 (m.accel / 1000))
    | st => moveToward s.fi.v (min (s.capFor st (some e)) (s.limitSpeed e)) (max 1 (m.accel / 1000))
  let whole := (s.fi.rem + v) / 1000
  let rem := (s.fi.rem + v) % 1000
  if e.isCut = true ∧ s.fi.budget < whole then
    { v := s.fi.budget * 1000, rem := 0, whole := s.fi.budget }
  else if e.isCut = true ∧ s.fi.budget = 0 then { v := 0, rem := rem, whole := 0 }
  else { v := v, rem := rem, whole := whole }

/-- The commanded H of a commit at a path heading (R69, R93): with the path in NORMAL, as it stands
otherwise. -/
def State.commandedH (s : State) (st : FiState) (heading : Nat) : Nat :=
  match s.fi.contour with
  | none => s.fi.h
  | some c =>
    if st = .cutNormal ∨ st = .holding .cutNormal ∨ st = .stopping .cutNormal then
      (heading + c.offset) % 36000
    else s.fi.h

/-- The path heading of an entry at a distance into it (R43, R47). -/
def pathHeading (e : Entry) (d old : Nat) : Nat :=
  match e.body with
  | .traverse heading => heading
  | .line _ heading _ _ => heading
  | .opening _ _ _ => old
  | .arc _ entry _ _ _ shape =>
    let turn := min (roundDiv ((d * 100000000 : Nat) : Int) (shape.radius * 17453)).toNat shape.sweep
    (if shape.ccw then ((entry : Int) + turn) % 36000 else ((entry : Int) - turn) % 36000).toNat

/-- A point lies where R50 puts the point of an arc at a distance into it: the centre plus the start
vector turned through φ(s), clamped into the workspace, each coordinate within 2 µm. The billionth of a
µm on top is room for the fixed point of the model's sines (logs 6, 7, 8). -/
def nearArc (start : Point) (shape : ArcShape) (xLimit yLimit d : Nat) (p : Point) : Prop :=
  let turned : ℝ := (d * 100000000 / (shape.radius * 17453)) * (Real.pi / 18000)
  let angle : ℝ := if shape.ccw then turned else -turned
  let ix : ℝ := (start.x : ℝ) - shape.cx
  let iy : ℝ := (start.y : ℝ) - shape.cy
  let x : ℝ := shape.cx + (ix * Real.cos angle - iy * Real.sin angle)
  let y : ℝ := shape.cy + (ix * Real.sin angle + iy * Real.cos angle)
  |(p.x : ℝ) - max 0 (min x xLimit)| ≤ 2 + 1 / 10 ^ 9 ∧
    |(p.y : ℝ) - max 0 (min y yLimit)| ≤ 2 + 1 / 10 ^ 9

/-- The point of an entry at a distance into it (R44, R50). -/
def State.pathPoint (s : State) (e : Entry) (d : Nat) : Point :=
  match e.body with
  | .arc _ _ _ _ _ shape => arcPoint e.start shape s.gt.settings.xLimit s.gt.settings.yLimit d
  | _ =>
    { x := (e.start.x + roundDiv (((e.stop.x : Int) - e.start.x) * d) e.length).toNat
      y := (e.start.y + roundDiv (((e.stop.y : Int) - e.start.y) * d) e.length).toNat }

/-- The sub-mode, the resume state or the stop mode after a TURN junction (R73, R87, R93). -/
def crawlingState : FiState → FiState
  | .cutNormal => .cutCrawl
  | .holding .cutNormal => .holding .cutCrawl
  | .stopping .cutNormal => .stopping .cutCrawl
  | st => st

/-- What the millisecond tick brings: at TB, SD and SV before FI's work, at HJ after it (log 32). -/
def State.ticked (s : State) : State := s.tick.tickWindow

/-- FI and the queue after a dispatch with a hold-reason set (R15, R77): PRIMING at an OPEN, the take
of a TRAVERSE, otherwise IDLE. -/
def State.dispatched (s : State) (holds : HoldSet) (f : Interpolator) : Interpolator × List Entry :=
  match s.cq.entries with
  | [] => ({ f with st := .idle, v := 0 }, [])
  | e :: rest =>
    if f.runEnable = false ∨ holds.any = true then ({ f with st := .idle, v := 0 }, e :: rest)
    else if e.kind = .opening then ({ f with st := .priming, v := 0 }, e :: rest)
    else if e.kind = .traverse then
      ({ f with st := .traversing, v := 0, active := some e, done := 0
                heading := e.entryHeading.getD f.heading
                demand := s.demandOf f.contour rest }, rest)
    else ({ f with st := .idle, v := 0 }, e :: rest)

/-- An axis after a hand-off of a target count (R141, R143, R145). With MPERMIT high the schedule is
what is owed, at most 500 steps, the rest is a backlog, and DIR turns only for a period with steps;
with it low the output follows and nothing is laid. A STEP still high falls (log 37). -/
def AxisOut.handed (a : AxisOut) (target : Int) (permitted : Bool) : AxisOut :=
  let owed := target - a.output
  if permitted then
    { a with
      target := target
      laid := if owed.natAbs ≤ 500 then owed.natAbs else 500
      emitted := 0
      step := false
      dir := if owed = 0 then a.dir else decide (0 < owed)
      backlog := if owed.natAbs ≤ 500 then a.backlog else min 65535 (a.backlog + 1) }
  else { a with target := target, output := target, laid := 0, emitted := 0, step := false }

/-- AP after an expiry has handed FI's commanded position to it (R69, R139 to R141). -/
def State.handedTo (s : State) (f : Interpolator) : Pulses :=
  let u := s.ap.unwrapped + normalise ((f.h : Int) - s.ap.lastH)
  { x := s.ap.x.handed ((f.x / s.gt.settings.stepX : Nat) : Int) s.mpermit
    y := s.ap.y.handed ((f.y / s.gt.settings.stepY : Nat) : Int) s.mpermit
    h := s.ap.h.handed (u / (s.gt.settings.stepH : Int)) s.mpermit
    unwrapped := u
    lastH := f.h
    slotClock := 0 }

/-- The expiry has handed FI's position to AP and laid the schedule of each axis, and AP has done
nothing else. -/
def handedOff (s t : State) : Prop := t.ap = s.handedTo t.fi

/-- What an axis owes at the fall of MPERMIT is its drop count, and its output follows the target
(R145). -/
def AxisOut.fallen (a : AxisOut) : AxisOut :=
  { a with output := a.target, laid := 0, emitted := 0, drop := a.target - a.output }

/-- AP where MPERMIT is to be low: it falls only where the permit state was HIGH (R145). -/
def Pulses.fallen (p : Pulses) (permit : Bool) : Pulses :=
  if permit then { p with x := p.x.fallen, y := p.y.fallen, h := p.h.fallen } else p

/-- MPERMIT has risen (R146): the counts of X and Y stand, and H is handed with the output following, so
that the next hand-off owes H nothing. That a turn of H not yet handed is taken in here is the model's
choice (log 40). -/
def permitRisen (s t : State) : Prop :=
  let u := s.ap.unwrapped + normalise ((s.fi.h : Int) - s.ap.lastH)
  let count := u / (s.gt.settings.stepH : Int)
  t.ap = { s.ap with h := { s.ap.h with target := count, output := count }, unwrapped := u
                     lastH := s.fi.h } ∧ t.handOff.ap.h.laid = 0

/-- A change of FI's state or resume state has made STATE pending on all ports (R63). -/
def stateNoticed (s t : State) : Prop :=
  t.fi.st.code ≠ s.fi.st.code ∨ t.fi.st.resume ≠ s.fi.st.resume →
    ∀ q, (t.port q).notices.has .state = true

/-- A change of D has made DEMAND pending on the blade port (R59). -/
def demandNoticed (s t : State) : Prop :=
  t.fi.demand ≠ s.fi.demand → (t.port .blade).notices.has .demand = true

/-- A take that brings the level down to the refill level has made REFILL pending on the job port
(R19). -/
def refillNoticed (s t : State) : Prop :=
  t.cq.entries.length < s.cq.entries.length → t.cq.entries.length = s.cq.refill →
    (t.port .job).notices.has .refill = true

/-- A change of the hold-reason set has made STATE pending on all ports (R119). -/
def holdsNoticed (s t : State) : Prop :=
  t.hj.holds ≠ s.hj.holds → ∀ q, (t.port q).notices.has .state = true

/-- The queue after the flush, with FI at `f` (R20, R22). -/
def ContourQueue.flushed (q : ContourQueue) (f : Interpolator) : ContourQueue :=
  { q with
    entries := [], inContour := false, openTag := none, tailKind := none
    abandoned := (f.active.toList ++ q.entries).findSome? Entry.tag
    tail := ⟨f.x, f.y⟩, tailHeading := f.heading }

/-- FI after the flush, in the state its cause gives (R20, R58, R90). -/
def Interpolator.flushed (f : Interpolator) (st : FiState) : Interpolator :=
  { f with st := st, v := 0, rem := 0, active := none, done := 0, contour := none, demand := 0 }

/-- The decoder once FI's contour, where it has one, is released (R64, R116). -/
def Decoder.released (d : Decoder) (f : Interpolator) : Decoder :=
  if f.contour.isSome then { d with slow := false, clearing := 0 } else d

/-- The hold-reason set once FI's contour, where it has one, is released (R84, R122, R123). -/
def HoldSet.released (h : HoldSet) (f : Interpolator) : HoldSet :=
  if f.contour.isSome then { h with slow := false, driveOff := false } else h

/-- `t` is what the end of the quick stop makes of `u`, or FAULT STOPPED taken at once (R20, R64, R94,
R116, R145, R157): FI stopped, the queue flushed, the contour released, the jog's phase NONE, MPERMIT
low with what is owed in the drop counts; STATE and DEMAND are pending where the state, the set or D
has changed (R59, R63, R119). The fault record and the stop timer stay. -/
def stoppedFrom (u t : State) : Prop :=
  t.fi = u.fi.flushed .stopped ∧ t.cq = u.cq.flushed u.fi ∧ t.sd = u.sd.released u.fi ∧
    t.hj = { u.hj with phase := .none, holds := u.hj.holds.released u.fi } ∧
    t.sv = { u.sv with permit := false } ∧ t.ap = u.ap.fallen u.sv.permit ∧
    stateNoticed u t ∧ demandNoticed u t ∧ holdsNoticed u t

/-- The quick stop has ended at an expiry that brought FI to `f` and the queue to `q`, after the tick and
the hand-off (R94, R156). The window's tick comes after it and finds no jog. -/
def stoppedAt (s t : State) (f : Interpolator) (q : ContourQueue) : Prop :=
  stoppedFrom { s.ticked with fi := f, cq := q, hj := s.hj, ap := s.handedTo f } t

/-- The stop mode a fault finds (R93). -/
def modeAt : FiState → StopMode
  | .cutNormal | .holding .cutNormal => .cutNormal
  | .cutCrawl | .holding .cutCrawl => .cutCrawl
  | .traversing | .holding .traversing => .traversing
  | _ => .none

/-- The jog record once a fault is reported to FI: a running jog ends with FAULT (R135). -/
def HoldsJog.faulted (j : HoldsJog) : HoldsJog :=
  match j.phase with
  | .running m => { j with phase := .ending m, endCause := some .fault }
  | _ => j

/-- The record of a first fault (R153, R154). -/
def State.recordOf (s : State) (c : Cause) : FaultRecord :=
  { cause := c, state := s.fi.st, tag := s.fi.contour.map Contour.tag
    seq := s.fi.active.map Entry.seq, x := s.fi.x, y := s.fi.y, h := s.fi.h, ms := s.tb.ms }

/-- The first fault has been recorded from a state, with the decoder at `d` (R93, R94, R135, R152 to
R154): the record holds that state, a running jog has ended, and FI is in the quick stop, or in FAULT
STOPPED where v is 0 already or an H jog stops at the fault. -/
def firstFault (s t : State) (d : Decoder) (c : Cause) : Prop :=
  let turning := s.fi.st = .jog ∧ ∃ m, m.axis = .h ∧
    (s.hj.phase = .running m ∨ s.hj.phase = .ending m)
  let u : State := { s with
    sd := d, hj := s.hj.faulted
    sv := { s.sv with record := some (s.recordOf c), stopTimer := 0 } };
  (∀ q, (t.port q).notices.has .fault = true) ∧ stateNoticed s t ∧
    (s.fi.v ≠ 0 → ¬ turning →
      t.fi = { s.fi with st := .stopping (modeAt s.fi.st) } ∧ t.cq = s.cq ∧ t.sd = u.sd ∧
        t.hj = u.hj ∧ t.ap = s.ap ∧ t.sv = u.sv) ∧
    (s.fi.v = 0 ∨ turning → stoppedFrom u t)

/-- A further fault only advances its count (R155). -/
def furtherFault (s t : State) : Prop :=
  t.sv = { s.sv with further := min 65535 (s.sv.further + 1) } ∧ t.fi = s.fi ∧ t.cq = s.cq ∧
    t.hj = s.hj ∧ t.ap = s.ap

/-! ### Arcs as the rules give them -/

/-- The distance of a point from a centre, rounded (R45): the radius of the start point, the end
radius of the end point. -/
def arcDistance (p : Point) (cx cy : Int) : Nat :=
  rootRound (((p.x : Int) - cx) ^ 2 + ((p.y : Int) - cy) ^ 2).toNat

/-- The angle of a point about a centre (R43, R45). -/
def arcAngle (p : Point) (cx cy : Int) : Nat := vectorHeading ((p.x : Int) - cx) ((p.y : Int) - cy)

/-- The offset of an angle from another in an arc's direction, 0..35,999 (R46, R49). -/
def arcOffset (ccw : Bool) (start angle : Nat) : Nat :=
  (if ccw then ((angle : Int) - start) % 36000 else ((start : Int) - angle) % 36000).toNat

/-- The sweep between two angles: a full circle where they are equal (R46). -/
def sweepOf (ccw : Bool) (start stop : Nat) : Nat :=
  if arcOffset ccw start stop = 0 then 36000 else arcOffset ccw start stop

/-- The tangent of an arc at an angle (R47). -/
def tangentAt (ccw : Bool) (angle : Nat) : Nat :=
  (if ccw then ((angle : Int) + 9000) % 36000 else ((angle : Int) - 9000) % 36000).toNat

/-- A point, with its signed coordinates, lies in the workspace (R11). -/
def Settings.holdsPoint (m : Settings) (x y : Int) : Prop :=
  0 ≤ x ∧ x ≤ m.xLimit ∧ 0 ≤ y ∧ y ≤ m.yLimit

/-- Every axis-extreme point an arc reaches lies in the workspace (R11, R49). -/
def Settings.holdsSweep (m : Settings) (cx cy : Int) (r : Nat) (ccw : Bool) (start sweep : Nat) :
    Prop :=
  (arcOffset ccw start 0 ≤ sweep → m.holdsPoint (cx + r) cy) ∧
    (arcOffset ccw start 9000 ≤ sweep → m.holdsPoint cx (cy + r)) ∧
    (arcOffset ccw start 18000 ≤ sweep → m.holdsPoint (cx - r) cy) ∧
    (arcOffset ccw start 27000 ≤ sweep → m.holdsPoint cx (cy - r))

/-! ### The block's own work -/

/-- A filter after one more sample (R101): the level of K samples in a row is taken, and the sample
of the filtered level ends a run. -/
def Filter.sampled (f : Filter) (level : Bool) (k : Nat) : Filter :=
  if level = f.filtered then { f with raw := level, run := 0 }
  else if f.run + 1 < k then { f with raw := level, run := f.run + 1 }
  else { raw := level, filtered := level, run := 0 }

/-- One CLKIN cycle of a port (R171, R180 to R182): a receiver sample every D cycles, at which the
gap timer advances in ASSEMBLING; a bit time every 16 × D cycles, of which the idle frame has eleven,
counted from 0, and so has a character. -/
def cycledPort (q u : PortState) : Prop :=
  let sample := q.divisor ≤ q.rxClock + 1
  let bitOver := 16 * q.divisor ≤ q.txClock + 1
  let begun (guard : Nat) : Transmitter :=
    { phase := if q.tx.fifo = [] then .idle else .sending, guard := guard,
      shift := q.tx.fifo.head?, bit := 0, fifo := q.tx.fifo.tail };
  u.divisor = q.divisor ∧ u.pendingDivisor = q.pendingDivisor ∧ u.request = q.request ∧
    u.rxClock = (if sample then 0 else q.rxClock + 1) ∧
    u.asm.gap =
      (if sample ∧ q.asm.assembling = true then min 384 (q.asm.gap + 1) else q.asm.gap) ∧
    (¬ sample → u.rx = q.rx ∧ u.rxFifo = q.rxFifo ∧ u.asm = q.asm ∧ u.tallies = q.tallies) ∧
    (q.tx.phase = .idle → u.tx = q.tx ∧ u.txClock = 0) ∧
    (q.tx.phase ≠ .idle → ¬ bitOver → u.tx = q.tx ∧ u.txClock = q.txClock + 1) ∧
    (q.tx.phase = .guard → bitOver → u.txClock = 0 ∧
      u.tx = if q.tx.guard = 10 then begun 0 else { q.tx with guard := q.tx.guard + 1 }) ∧
    (q.tx.phase = .sending → bitOver → u.txClock = 0 ∧
      u.tx = if q.tx.bit = 10 then begun q.tx.guard else { q.tx with bit := q.tx.bit + 1 })

/-- One CLKIN cycle of the block (R98, R101, R107, R161, R171): in WATCHING the edge ends the count of
missed periods (at once: log 30), then each port, and with every sixteenth cycle the microsecond, which
advances the counts and the index age and samples the four inputs. -/
def cycled (s t : State) : Prop :=
  let k := s.gt.settings.filterK
  let missed := if s.sv.monitor = .watching then 0 else s.sv.missed
  (∀ p, cycledPort (s.port p) (t.port p)) ∧ t.pins = s.pins ∧ t.gt = s.gt ∧ t.pending = s.pending ∧
    t.sv.missed = missed ∧ t.sv.monitor = s.sv.monitor ∧
    (s.subMicro < 15 → t.subMicro = s.subMicro + 1 ∧ t.choices = s.choices ∧
      t.sv = { s.sv with missed := missed } ∧ keptBut [.hj, .sv, .ports, .model] s t) ∧
    (15 ≤ s.subMicro → t.subMicro = 0 ∧ t.tb.us = s.tb.us + 1 ∧
      (s.tb.phase < 999 → t.tb.phase = s.tb.phase + 1 ∧ t.tb.ms = s.tb.ms) ∧
      (999 ≤ s.tb.phase → t.tb.phase = 0 ∧ t.tb.ms = s.tb.ms + 1) ∧
      t.sd.ca = s.sd.ca.sampled s.pins.ca k ∧ t.sd.cb = s.sd.cb.sampled s.pins.cb k ∧
      t.sd.cz = s.sd.cz.sampled s.pins.cz k ∧ t.sd.holdn = s.sd.holdn.sampled s.pins.holdn k ∧
      (s.pins.cz = false ∨ (s.sd.cz.sampled s.pins.cz k).filtered = s.sd.cz.filtered →
        t.sd.indexAge = min 1000000 (s.sd.indexAge + 1)))

/-- The command of the table that a step the block takes by itself stands for; the take of a completed
slot is the take of the telegram in it. -/
def Due.command : Due → Option Instr
  | .reply p => some (.replyWrite p)
  | .notice p => some (.noticeBuild p)
  | .baud p => some (.baudSwitch p)
  | .gap p => some (.gapExpiry p)
  | .assemble p => some (.assemblerTake p)
  | .slot _ => none
  | .dispatch => some .dispatch
  | .openTake => some .openTake
  | .resume => some .starvedResume
  | .stall => some .stallTimeout
  | .stopLimit => some .stopLimitExpiry

/-! ### Telegrams as the rules lay them -/

/-- A field of a reply or a notice: its width in characters and its value, absent where there is none
(R190). -/
abbrev Datum := Nat × Option Int

/-- The characters of a field; an absent one keeps its place with its bytes 0 (R190). -/
def Datum.laid : Datum → List Byte
  | (w, some v) => leBytes w v
  | (w, none) => List.replicate w 0

/-- A field that is always present. -/
def datum (w v : Nat) : Datum := (w, some v)

/-- A field that may be absent. -/
def optDatum (w : Nat) (v : Option Nat) : Datum := (w, v.map Int.ofNat)

/-- A flag, a level or a state of two values: 1 or 0. -/
def flagDatum (b : Bool) : Datum := datum 1 (if b then 1 else 0)

/-- A byte of bits: presence bytes, sets, pin levels; bit i is the i-th of the list (R190, R201). -/
def bitsDatum (bits : List Bool) : Datum :=
  datum 1 (bits.foldr (fun b n => (if b then 1 else 0) + 2 * n) 0)

/-- The hold-reason set (R201). -/
def HoldSet.datum (h : HoldSet) : Datum :=
  bitsDatum [h.job, h.blade, h.panel, h.line, h.slow, h.driveOff]

/-- The progress record (R95, R202). -/
def State.progressData (s : State) : List Datum :=
  let st := s.fi.st
  let e := s.fi.active
  let c := s.fi.contour
  [ bitsDatum [st.subMode.isSome, st.resume.isSome, c.isSome, e.isSome, e.isSome, e.isSome, c.isSome],
    datum 1 st.code, optDatum 1 st.subMode, optDatum 1 (st.resume.map Resume.code),
    optDatum 2 (c.map fun c => c.tag.toNat), optDatum 2 (e.map fun e => e.seq.toNat),
    optDatum 3 (e.map fun _ => s.fi.done), optDatum 3 (e.map fun e => e.length - s.fi.done),
    datum 3 s.fi.x, datum 3 s.fi.y, datum 2 s.fi.heading, datum 2 s.fi.h, datum 3 s.fi.v,
    optDatum 3 (c.map fun c => c.fTarget * s.hj.override / 100), datum 4 s.fi.strokes,
    datum 1 s.cq.entries.length, s.hj.holds.datum, datum 4 s.tb.ms.toNat ]

/-- The items of READ_STROKE (R117, R193). -/
def State.strokeData (s : State) : List Datum :=
  let d := s.sd
  let rate (p : Nat) : Nat := min 65535 (60000000 / p)
  [ bitsDatum [d.period.isSome, d.period.isSome],
    bitsDatum [d.ca.raw, d.cb.raw, d.cz.raw, d.holdn.raw],
    bitsDatum [d.ca.filtered, d.cb.filtered, d.cz.filtered, d.holdn.filtered],
    datum 1 s.gt.settings.filterK, datum 1 d.crank.toNat, (2, some d.sinceIndex),
    datum 4 d.strokeTotal.toNat, optDatum 3 d.period, optDatum 2 (d.period.map rate),
    flagDatum d.startPresent, datum 3 d.indexAge, datum 2 d.edgeAge, flagDatum d.running,
    flagDatum d.slow, datum 1 d.clearing, datum 1 d.slipRun, datum 1 d.missingRun, datum 1 d.backRun,
    datum 2 d.slipTally, datum 2 d.missingTally, datum 2 d.quadTally, datum 4 s.tb.us.toNat,
    datum 4 s.tb.ms.toNat ]

/-- The fields of one axis (R150, R194). -/
def AxisOut.data (a : AxisOut) : List Datum :=
  [ (6, some a.target), (6, some a.output), (6, some (a.target - a.output)),
    datum 2 (a.laid - a.emitted), flagDatum a.dir, (6, some a.drop), datum 2 a.backlog ]

/-- The fields of a READ_STATUS section (R194). -/
def State.statusData (s : State) (part : Nat) : List Datum :=
  let f := s.fi
  let q := s.cq
  let h := s.hj
  let m := h.phase.move
  let r := s.sv.record
  let sub := r.bind fun r => r.state.subMode
  let resume := r.bind fun r => r.state.resume
  let tag := r.bind FaultRecord.tag
  let seq := r.bind FaultRecord.seq
  match part with
  | 0 =>
    [ flagDatum f.runEnable, flagDatum f.pauseAfter, datum 2 f.budget, datum 1 f.settle,
      datum 2 f.demand, datum 2 f.contours.toNat, datum 2 f.starves ]
  | 1 =>
    [ bitsDatum [q.openTag.isSome, q.abandoned.isSome], datum 3 q.tail.x, datum 3 q.tail.y,
      datum 2 q.tailHeading, datum 1 (kindCode q.tailKind), flagDatum q.inContour,
      optDatum 2 (q.openTag.map BitVec.toNat), datum 2 q.seq.toNat, datum 1 q.prime, datum 1 q.refill,
      optDatum 2 (q.abandoned.map BitVec.toNat) ]
  | 2 =>
    [ bitsDatum [m.isSome, m.isSome, m.isSome, m.isSome, m.isSome, h.endCause.isSome], h.holds.datum,
      datum 1 h.override, flagDatum h.lock, datum 2 h.earlyTally, datum 1 h.phase.code,
      optDatum 1 (m.map fun m => axisCode m.axis), optDatum 1 (m.map fun m => if m.positive then 0 else 1),
      optDatum 3 (m.map JogMove.speed), optDatum 2 (m.map JogMove.window), optDatum 2 (m.map JogMove.timer),
      optDatum 1 (h.endCause.map EndCause.code) ]
  | 3 => s.ap.x.data
  | 4 => s.ap.y.data
  | 5 => s.ap.h.data ++ [(6, some s.ap.unwrapped), datum 2 s.ap.lastH]
  | _ =>
    [ bitsDatum [r.isSome, sub.isSome, resume.isSome, tag.isSome, seq.isSome],
      optDatum 1 (r.map fun r => r.cause.code), optDatum 1 (r.map fun r => r.state.code), optDatum 1 sub,
      optDatum 1 (resume.map Resume.code), optDatum 2 (tag.map BitVec.toNat),
      optDatum 2 (seq.map BitVec.toNat), optDatum 3 (r.map FaultRecord.x), optDatum 3 (r.map FaultRecord.y),
      optDatum 2 (r.map FaultRecord.h), optDatum 4 (r.map fun r => r.ms.toNat), datum 2 s.sv.further,
      datum 1 s.sv.stopTimer, flagDatum s.sv.permit, flagDatum s.mpermit, flagDatum s.sv.armed,
      datum 1 s.sv.monitor.code, datum 1 s.sv.missed, datum 2 s.sv.clockLosses ]

/-- The seven fields of a grade record, with their bytes 0 where there is none (R195). -/
def recordData (g : Option Grade) : List Datum :=
  [ optDatum 2 (g.map Grade.bite), optDatum 2 (g.map Grade.turn), optDatum 2 (g.map Grade.smooth),
    optDatum 2 (g.map Grade.pivot), optDatum 2 (g.map Grade.crawl), optDatum 2 (g.map Grade.minSpm),
    optDatum 1 (g.map Grade.settle) ]

/-- READ_GRADE's data by its source (R31, R195). -/
def State.readGradeData (s : State) (source argument : Nat) : List Datum :=
  match source with
  | 0 =>
    let g := (s.gt.grades[argument]?).join
    [datum 1 argument, flagDatum g.isSome] ++ recordData g
  | 1 =>
    let c := s.fi.contour
    [bitsDatum [c.isSome], optDatum 1 (c.map Contour.index)] ++ recordData (c.map Contour.grade)
  | 2 => [datum 1 argument, optDatum 4 (s.gt.settings.get argument)]
  | _ => [datum 2 s.gt.offset]

/-- READ_PORT's fields (R184, R195). -/
def State.portData (s : State) (p : Port) : List Datum :=
  let q := s.port p
  let t := q.tallies
  [ bitsDatum [q.pendingDivisor.isSome], datum 1 (portCode p), datum 2 q.divisor,
    optDatum 2 q.pendingDivisor, datum 1 q.rx.phase.code, flagDatum q.asm.assembling,
    datum 1 q.rxFifo.length, flagDatum q.asm.slot.isSome, datum 1 q.tx.fifo.length, datum 2 t.noise,
    datum 2 t.framing, datum 2 t.overrun, datum 2 t.brk, datum 2 t.gap, datum 2 t.check,
    datum 2 t.refused ]

/-- The data of a notice (R198). -/
def State.noticeData (s : State) : Notice → List Datum
  | .state =>
    [ bitsDatum [s.fi.st.subMode.isSome, s.fi.st.resume.isSome], datum 1 s.fi.st.code,
      optDatum 1 s.fi.st.subMode, optDatum 1 (s.fi.st.resume.map Resume.code), s.hj.holds.datum ]
  | .refill => [datum 1 s.cq.entries.length]
  | .contourDone => [datum 2 s.fi.doneTag.toNat, datum 4 s.fi.doneStrokes, datum 2 s.fi.contours.toNat]
  | .abandoned => [bitsDatum [s.cq.abandoned.isSome], optDatum 2 (s.cq.abandoned.map BitVec.toNat)]
  | .demand => [datum 2 s.fi.demand]
  | .fault =>
    [ bitsDatum [s.sv.record.isSome], optDatum 1 (s.sv.record.map fun r => r.cause.code) ]

/-- A telegram of a kind with a payload: kind, length, payload, and the check that makes the sum of all
characters 0 (R186, R202). -/
def framed (kind : Byte) (payload t : List Byte) : Prop :=
  t.length = payload.length + 3 ∧
    t.take (payload.length + 2) = kind :: BitVec.ofNat 8 payload.length :: payload ∧
    (t.map BitVec.toNat).sum % 256 = 0

/-- A reply group (R191): the fields in order in telegrams of the same kind and header, each with its
part byte and a payload of at most 20, each beginning with the first field that no longer fits the
one before. -/
def grouped (kind : Byte) (header : List Byte) (fields : List Datum) (telegrams : List (List Byte)) :
    Prop :=
  ∃ parts : List (List (List Byte)), parts.flatten = fields.map Datum.laid ∧
    telegrams.length = parts.length ∧
    (∀ i part, parts[i]? = some part → part ≠ [] ∧ part.flatten.length + 3 ≤ 20 ∧
      ∃ t, telegrams[i]? = some t ∧
        framed kind (header ++ [BitVec.ofNat 8 (i + 16 * parts.length)] ++ part.flatten) t) ∧
    ∀ i part first rest, parts[i]? = some part → parts[i + 1]? = some (first :: rest) →
      20 < part.flatten.length + first.length + 3

/-! ### Requests -/

/-- A request that arrives on a port now is taken at once: CLKIN runs, nothing waits before it in the
port, no lost character waits to be marked, the handler is FREE and no notice that fits is to be built
first (R177, R179, R188, R197). -/
def State.listens (s : State) (p : Port) : Bool :=
  s.pins.clkin && (s.port p).clear && !(s.port p).rx.loss && s.mayTake p

/-- The request in progress that an answer leaves with the handler (R188). -/
def Reply.request (r : Reply) (kind : Byte) : Request :=
  { kind := kind, result := r.result, flags := r.flags, data := r.data, written := false }

/-- Every request with a port and a payload: its command, its code, the ports that may send it and the
length of its payload (R200). -/
def requestRows (p : Port) (d : List Byte) : List (Instr × Byte × List Port × Nat) :=
  [ (.online p d, 0x01, [.job], 0), (.setMachine p d, 0x02, [.job], 5),
    (.setGrade p d, 0x03, [.job], 14), (.setLevels p d, 0x04, [.job], 2),
    (.setOrigin p d, 0x05, [.job], 6), (.armSupervision p d, 0x06, [.job], 0),
    (.syncTime p d, 0x07, [.job], 0), (.setJogLock p d, 0x08, [.job], 1),
    (.queueTraverse p d, 0x10, [.job], 6), (.queueOpen p d, 0x11, [.job], 12),
    (.queueLine p d, 0x12, [.job], 7), (.queueArc p d, 0x13, [.job], 13),
    (.run p d, 0x14, [.job], 0), (.pauseAfter p d, 0x15, [.job], 0), (.flush p d, 0x16, [.job], 0),
    (.resetCut p d, 0x17, [.job], 0), (.clearFault p d, 0x18, [.job], 0),
    (.hold p d, 0x19, [.job, .blade, .panel], 0), (.release p d, 0x1A, [.job, .blade, .panel], 0),
    (.bladeState p d, 0x1B, [.blade], 1), (.setBladeOffset p d, 0x1C, [.blade], 2),
    (.setOverride p d, 0x1D, [.panel], 2), (.jogStart p d, 0x1E, [.panel], 5),
    (.jogKeep p d, 0x1F, [.panel], 0), (.jogEnd p d, 0x20, [.panel], 0),
    (.readProgress p d, 0x21, [.job, .blade, .panel], 0),
    (.readStatus p d, 0x22, [.job, .blade, .panel], 1),
    (.readStroke p d, 0x23, [.job, .blade, .panel], 0),
    (.readGrade p d, 0x24, [.job, .blade, .panel], 2),
    (.readPort p d, 0x25, [.job, .blade, .panel], 1),
    (.setBaud p d, 0x27, [.job, .blade, .panel], 2) ]

/-- The characters a transmitter has still to send whole, in order: the one in the shift, then the
FIFO (R181). -/
def Transmitter.queued (t : Transmitter) : List TxChar := t.shift.toList ++ t.fifo

/-- A port without its handler's request and notices: the line, its FIFOs, its rate and tallies. -/
def PortState.line (q : PortState) : PortState :=
  { q with request := none, noticePass := 0,
           notices := { state := false, refill := false, contourDone := false, abandoned := false,
                        demand := false, fault := false } }

/-- The answer stands with the handler of `p`, no other handler has a new request, and no port's line
has changed; that a request command leaves the gap timer and the run of high samples as they stood is
the model's choice (log 3). -/
def answered (s t : State) (p : Port) (kind : Byte) (r : Reply) : Prop :=
  (t.port p).request = some (r.request kind) ∧
    (∀ q, q ≠ p → (t.port q).request = (s.port q).request) ∧
    ∀ q, (t.port q).line = (s.port q).line

/-- A kind is pending on every port (R63, R119, R154). -/
def pendingAll (t : State) (k : Notice) : Prop := ∀ q, (t.port q).notices.has k = true

/-- No port's pending-notice set has changed. -/
def noticesKept (s t : State) : Prop := ∀ q, (t.port q).notices = (s.port q).notices

end Sys2Proof.Machine
end

