-- ==== Sys2Proof/Certificates/Slice0/Obligations.lean ====
section
/-! DEFINITION. The statements for the provers. -/

open Sys2Proof Sys2Proof.Machine

/-! ### The step -/

/-- A step takes the command at the front of the queue and runs it on the state with the queue's
rest. -/
def Obligations.StepTakesFront : Prop :=
  ∀ (c : Instr) (rest : List Instr) (s : State), s.pending = c :: rest →
    step s = exec c { s with pending := rest }

/-- Every command answers a next state, in every state, and leaves the queue of commands as it is. On
an empty queue the block takes one step of its own and puts nothing into the queue. With CLKIN still
the monitor, in WATCHING, counts its periods and at the fourth finds the loss, and otherwise nothing
changes (R161, R163); with the clock back in LOST the return comes first (R162). With steps due one
of them is taken, the one that its command of the table stands for; among them are the gap at 384
samples, a STALL that a tick has brought and the stop limit at 100 (R112, R156, R180). With none due
one CLKIN cycle passes: its edge, which sets the missed count to 0 in WATCHING, the ports' bit times,
the gap timer and the count of the idle frame, and each sixteenth time the microsecond, with the phase,
the millisecond at its wrap, the index age and one sample of each input filter (R98, R101, R107, R161,
R171, R180 to R182).
That nothing in the spec stops the part is the model's reading (log 36), and so is that a command
outside its condition is no event and still answers a next state (log 4); the step on an empty queue
is the model's choice (log 2), with one free order among the steps due (log 5), the fields stallDue
(log 23) and subMicro and the counts from 0 (log 10), and a CLKIN that stands still a period a step,
whose count an edge clears at once (log 30). -/
def Obligations.StepsComplete : Prop :=
  (∀ (c : Instr) (s : State), ∃ t, exec c s = .next t ∧ t.pending = s.pending) ∧
    ∀ s : State, s.pending = [] →
      let lost := s.sv.monitor = .lost;
      (∃ t, step s = .next t ∧ t.pending = []) ∧
        (s.pins.clkin = false → s.sv.monitor ≠ .watching → step s = .next s) ∧
        (s.pins.clkin = false → s.sv.monitor = .watching →
          (s.sv.missed < 3 →
            step s = .next { s with sv := { s.sv with missed := s.sv.missed + 1 } }) ∧
          (3 ≤ s.sv.missed → step s = exec .clockLossFound s)) ∧
        (s.pins.clkin = true → lost → step s = exec .clockReturn s) ∧
        (s.pins.clkin = true → ¬ lost → s.dueSteps ≠ [] →
          ∃ d ∈ s.dueSteps, ∃ n, step s = .next (d.act { s with choices := n }) ∧
            ∀ c, d.command = some c → step s = exec c { s with choices := n }) ∧
        (∀ p, Due.gap p ∈ s.dueSteps ↔
          (s.port p).asm.assembling = true ∧ 384 ≤ (s.port p).asm.gap) ∧
        (Due.stall ∈ s.dueSteps ↔ s.sd.stallDue = true) ∧
        (Due.stopLimit ∈ s.dueSteps ↔ (∃ m, s.fi.st = .stopping m) ∧ 100 ≤ s.sv.stopTimer) ∧
        (s.pins.clkin = true → ¬ lost → s.dueSteps = [] → ∃ t, step s = .next t ∧ cycled s t)

/-- While CLKIN stands still, every command of a clocked block leaves the state as it is; the resets,
the finding of the loss and the return of the clock are the others (R100, R163, R166). -/
def Obligations.ClockStill : Prop :=
  ∀ (c : Instr) (s : State), s.pins.clkin = false →
    (∀ straps lines, c ≠ .powerOn straps lines) → (∀ straps lines, c ≠ .resetn straps lines) →
    c ≠ .clockLossFound → c ≠ .clockReturn → exec c s = .next s

/-! ### Resets -/

/-- The reset state holds the values the reset tables give, with every hold reason absent, the latch
and the monitor disarmed, each filter at its level with an empty run, and each port as R171, R182 and
R185 leave it (R25, R40, R97, R102, R118, R138, R151, R168, R171, R182, R185, R199). The straps and
the input levels sampled are the model's choice: all straps low, HOLDN high and the crank inputs low
(log 9); so are the serial counts at 0 (log 10). -/
def Obligations.ResetValues : Prop :=
  let s := State.reset
  (s.cq.entries = [] ∧ s.cq.tail = ⟨0, 0⟩ ∧ s.cq.tailHeading = 0 ∧ s.cq.tailKind = none ∧
    s.cq.inContour = false ∧ s.cq.openTag = none ∧ s.cq.seq = 0 ∧ s.cq.prime = 8 ∧
    s.cq.refill = 16 ∧ s.cq.abandoned = none) ∧
  (s.gt.grades = List.replicate 16 none ∧ s.gt.offset = 0 ∧
    s.gt.settings = { xLimit := 3200000, yLimit := 2200000, accel := 1000000,
                      quickAccel := 8000000, traverseFeed := 300000, fMax := 600000, stepX := 2,
                      stepY := 2, stepH := 1, slewH := 90, stallTimeout := 200, window := 100,
                      filterK := 4, bLeads := false }) ∧
  (s.fi.st = .offline ∧ s.fi.x = 0 ∧ s.fi.y = 0 ∧ s.fi.h = 0 ∧ s.fi.heading = 0 ∧ s.fi.v = 0 ∧
    s.fi.rem = 0 ∧ s.fi.budget = 0 ∧ s.fi.settle = 0 ∧ s.fi.runEnable = false ∧
    s.fi.pauseAfter = false ∧ s.fi.active = none ∧ s.fi.contour = none ∧ s.fi.strokes = 0 ∧
    s.fi.contours = 0 ∧ s.fi.starves = 0 ∧ s.fi.demand = 0 ∧ s.fi.doneTag = 0 ∧
    s.fi.doneStrokes = 0) ∧
  (s.tb = { us := 0, phase := 0, ms := 0 } ∧ s.sd.crank = 0 ∧ s.sd.sinceIndex = 0 ∧
    s.sd.backRun = 0 ∧ s.sd.indexAge = 1000000 ∧ s.sd.startPresent = false ∧ s.sd.period = none ∧
    s.sd.strokeTotal = 0 ∧ s.sd.slipRun = 0 ∧ s.sd.missingRun = 0 ∧ s.sd.slipTally = 0 ∧
    s.sd.missingTally = 0 ∧ s.sd.quadTally = 0 ∧ s.sd.running = false ∧ s.sd.stallTimer = 0 ∧
    s.sd.edgeAge = 65535 ∧ s.sd.slow = false ∧ s.sd.clearing = 0) ∧
  (∀ (f : Filter) (level : Bool), (f, level) ∈ [(s.sd.ca, s.pins.ca), (s.sd.cb, s.pins.cb),
      (s.sd.cz, s.pins.cz), (s.sd.holdn, s.pins.holdn)] →
    f.raw = level ∧ f.filtered = level ∧ f.run = 0) ∧
  (s.hj.holds.job = false ∧ s.hj.holds.blade = false ∧ s.hj.holds.panel = false ∧
    s.hj.holds.slow = false ∧ s.hj.holds.driveOff = false ∧
    s.hj.holds.line = !s.sd.holdn.filtered) ∧
  (s.hj.override = 100 ∧ s.hj.lock = false ∧ s.hj.phase = .none ∧ s.hj.endCause = none ∧
    s.hj.earlyTally = 0) ∧
  (∀ a ∈ [s.ap.x, s.ap.y, s.ap.h],
    a.target = 0 ∧ a.output = 0 ∧ a.laid = 0 ∧ a.dir = false ∧ a.step = false ∧ a.drop = 0 ∧
      a.backlog = 0) ∧
  (s.ap.unwrapped = 0 ∧ s.ap.lastH = 0) ∧
  (s.sv.record = none ∧ s.sv.further = 0 ∧ s.sv.stopTimer = 0 ∧ s.sv.permit = false ∧
    s.sv.armed = s.pins.supv ∧ s.sv.armed = false ∧ s.sv.monitor = .disarmed ∧ s.sv.missed = 0 ∧
    s.sv.clockLosses = 0) ∧
  ∀ p,
    let q := s.port p;
    (s.pins.baudsel1 = false ∧ s.pins.baudsel0 = false ∧ q.divisor = 8 ∧
      q.pendingDivisor = none) ∧
    (q.rx.phase = .idle ∧ q.rx.highRun = 0 ∧ q.rx.loss = false ∧ q.rxFifo = []) ∧
    (q.asm.assembling = false ∧ q.asm.chars = [] ∧ q.asm.slot = none) ∧
    (q.tx.phase = .guard ∧ q.tx.guard = 0 ∧ q.tx.shift = none ∧ q.tx.fifo = []) ∧
    q.tallies = { noise := 0, framing := 0, overrun := 0, brk := 0, gap := 0, check := 0,
                  refused := 0 } ∧
    q.request = none ∧ ∀ k, q.notices.has k = false

/-- POWER_ON and RESETN leave every block at its reset values. Power-on takes the arm latch from
SUPV; RESETN keeps an armed latch and otherwise takes SUPV (R160).
The values of the fields the reset tables do not name are the model's choice: the counts that mean
nothing outside their phase (distance done, slot clock, sample index, bits, guard count, clock counts,
log 10) and the model's own stallTaken and stallDue (log 23); so is RESETN as one pulse (log 31). -/
def Obligations.ResetCommands : Prop :=
  ∀ (straps : Straps) (lines : Lines) (s : State),
    (∃ t, exec (.powerOn straps lines) s = .next t ∧ atReset straps lines straps.supv t) ∧
      ∃ t, exec (.resetn straps lines) s = .next t ∧
        atReset straps lines (s.sv.armed || straps.supv) t

/-! ### Control requests of the job port -/

/-- ONLINE in OFFLINE takes FI to IDLE and raises MPERMIT; in any other state it is refused with
WRONG_STATE and changes nothing (R76, R146). That the rise takes in a turn of H not yet handed is the
model's choice (log 40). -/
def Obligations.Online : Prop :=
  ∀ s : State, s.listens .job = true →
    (s.fi.st = .offline →
      ∃ t, exec (.online .job []) s = .next t ∧ t.fi = { s.fi with st := .idle, v := 0 } ∧
        t.sv = { s.sv with permit := true } ∧ permitRisen s t ∧ pendingAll t .state ∧
        answered s t .job 0x01 (accept []) ∧ keptBut [.fi, .ap, .sv, .ports, .notices] s t) ∧
    (s.fi.st ≠ .offline →
      exec (.online .job []) s = .next (s.busy .job 0x01 (refuse .wrongState)))

/-- RUN sets run-enable and clears the pause-after flag in every state but OFFLINE and FAULT (R77).
PAUSE_AFTER sets the pause-after flag while a contour is active outside FAULT and otherwise clears
both at once, and PRIMING returns to IDLE (R85). -/
def Obligations.RunAndPause : Prop :=
  ∀ s : State, s.listens .job = true →
    (s.fi.st ≠ .offline → s.fi.st.isFault = false →
      exec (.run .job []) s = .next
        (({ s with fi := { s.fi with runEnable := true, pauseAfter := false } } : State).busy .job 0x14
          (accept [1]))) ∧
    (s.fi.st = .offline ∨ s.fi.st.isFault = true →
      exec (.run .job []) s = .next (s.busy .job 0x14 (refuse .wrongState))) ∧
    (s.fi.contour.isSome = true → s.fi.st.isFault = false →
      exec (.pauseAfter .job []) s = .next
        (({ s with fi := { s.fi with pauseAfter := true } } : State).busy .job 0x15
          (accept [if s.fi.runEnable then 3 else 2]))) ∧
    (s.fi.contour = none ∨ s.fi.st.isFault = true → s.fi.st ≠ .priming →
      exec (.pauseAfter .job []) s = .next
        (({ s with fi := { s.fi with runEnable := false, pauseAfter := false } } : State).busy .job 0x15
          (accept [0]))) ∧
    (s.fi.contour = none → s.fi.st = .priming →
      ∃ t, exec (.pauseAfter .job []) s = .next t ∧
        t.fi = { s.fi with st := .idle, v := 0, runEnable := false, pauseAfter := false } ∧
        pendingAll t .state ∧ answered s t .job 0x15 (accept [0]) ∧ keptBut [.fi, .ports, .notices] s t)

/-- FLUSH in IDLE, PRIMING, HELD and STARVED empties the queue, drops the active entry, ends the
contour, sets the tail from the commanded state and puts FI in IDLE; in any other state it is refused.
STATE and DEMAND are pending where the state, the set or D has changed (R20, R21, R59, R63, R90,
R119). -/
def Obligations.FlushRequest : Prop :=
  ∀ s : State, s.listens .job = true →
    (s.fi.st = .idle ∨ s.fi.st = .priming ∨ s.fi.st = .starved ∨ (∃ r, s.fi.st = .held r) →
      ∃ t, exec (.flush .job []) s = .next t ∧
        t.cq = s.cq.flushed s.fi ∧ t.fi = s.fi.flushed .idle ∧ t.sd = s.sd.released s.fi ∧
        t.hj = { s.hj with holds := s.hj.holds.released s.fi } ∧
        stateNoticed s t ∧ demandNoticed s t ∧ holdsNoticed s t ∧
        answered s t .job 0x16 (accept [0]) ∧ keptBut [.cq, .fi, .hj, .sd, .ports, .notices] s t) ∧
    ((s.fi.st ≠ .idle ∧ s.fi.st ≠ .priming ∧ s.fi.st ≠ .starved ∧ ∀ r, s.fi.st ≠ .held r) →
      exec (.flush .job []) s = .next (s.busy .job 0x16 (refuse .wrongState)))

/-- RESET_CUT outside OFFLINE and FAULT flushes, clears run-enable and the pause-after flag, removes
JOB, BLADE and PANEL, ends any jog and puts FI in IDLE with v 0; there it is refused. STATE and
DEMAND are pending where the state, the set or D has changed (R59, R63, R91, R119, R124, R138). -/
def Obligations.ResetCut : Prop :=
  ∀ s : State, s.listens .job = true →
    (s.fi.st ≠ .offline → s.fi.st.isFault = false →
      ∃ t, exec (.resetCut .job []) s = .next t ∧
        t.cq = s.cq.flushed s.fi ∧ t.sd = s.sd.released s.fi ∧
        t.fi = { s.fi.flushed .idle with runEnable := false, pauseAfter := false } ∧
        t.hj = { s.hj with
          holds := { s.hj.holds.released s.fi with job := false, blade := false, panel := false }
          phase := .none
          endCause := match s.hj.phase with
            | .running _ => some EndCause.resetCut
            | _ => s.hj.endCause } ∧
        stateNoticed s t ∧ demandNoticed s t ∧ holdsNoticed s t ∧
        answered s t .job 0x17 (accept []) ∧ keptBut [.cq, .fi, .hj, .sd, .ports, .notices] s t) ∧
    (s.fi.st = .offline ∨ s.fi.st.isFault = true →
      exec (.resetCut .job []) s = .next (s.busy .job 0x17 (refuse .wrongState)))

/-- CLEAR_FAULT is refused outside FAULT STOPPED, and in it while a STALL cause is present: the blade
reported RUNNING and no crank edge within the stall timeout. Otherwise it clears the record, sets the
tail from the commanded position, puts FI in IDLE with run-enable clear and raises MPERMIT (R146,
R164, R165). That the rise takes in a turn of H not yet handed is the model's choice (log 40). -/
def Obligations.ClearFault : Prop :=
  ∀ (s : State) (r : FaultRecord), s.listens .job = true →
    (s.fi.st = .stopped → s.sv.record = some r →
      (r.cause ≠ .stall ∨ s.sd.running = false ∨ s.sd.edgeAge < s.gt.settings.stallTimeout) →
      ∃ t, exec (.clearFault .job []) s = .next t ∧
        t.sv = { s.sv with record := none, further := 0, permit := true } ∧
        t.fi = { s.fi.flushed .idle with runEnable := false, pauseAfter := false } ∧
        t.cq = s.cq.flushed s.fi ∧ t.sd = s.sd.released s.fi ∧
        t.hj = { s.hj with holds := { s.hj.holds with slow := false, driveOff := false } } ∧
        permitRisen s t ∧ pendingAll t .state ∧ demandNoticed s t ∧
        answered s t .job 0x18 (accept []) ∧
        keptBut [.sv, .fi, .cq, .hj, .sd, .ap, .ports, .notices] s t) ∧
    (s.fi.st = .stopped → s.sv.record = some r → r.cause = .stall → s.sd.running = true →
      s.gt.settings.stallTimeout ≤ s.sd.edgeAge →
      exec (.clearFault .job []) s = .next (s.busy .job 0x18 (refuse .causePresent))) ∧
    (s.fi.st ≠ .stopped →
      exec (.clearFault .job []) s = .next (s.busy .job 0x18 (refuse .wrongState)))

/-- ARM_SUPERVISION arms the latch and, from disarmed, puts the monitor in WATCHING (R160); SYNC_TIME
restarts the millisecond count and the phase and answers the count as it stood (R99); SET_JOG_LOCK
takes 0 and 1 and refuses every other value (R130); SET_LEVELS clamps and stores both levels (R17).
None of them changes anything else. The byte of the armed latch in the reply is the model's choice (log
46). -/
def Obligations.ArmSyncLockLevels : Prop :=
  ∀ (s : State) (b prime refill : Byte), s.listens .job = true →
    let prime' := if prime.toNat < 1 then 1 else if 48 < prime.toNat then 48 else prime.toNat
    let refill' := if 47 < refill.toNat then 47 else refill.toNat;
    (s.sv.armed = false →
      exec (.armSupervision .job []) s = .next
        (({ s with sv := { s.sv with armed := true, monitor := .watching, missed := 0 } } :
            State).busy .job 0x06 (accept [1]))) ∧
    (s.sv.armed = true →
      exec (.armSupervision .job []) s = .next (s.busy .job 0x06 (accept [1]))) ∧
    (exec (.syncTime .job []) s = .next
      (({ s with tb := { s.tb with ms := 0, phase := 0 } } : State).busy .job 0x07
        (accept (natBytes 4 s.tb.ms.toNat)))) ∧
    (b.toNat ≤ 1 →
      exec (.setJogLock .job [b]) s = .next
        (({ s with hj := { s.hj with lock := decide (b = 1) } } : State).busy .job 0x08
          (accept [b]))) ∧
    (1 < b.toNat →
      exec (.setJogLock .job [b]) s = .next (s.busy .job 0x08 (refuse .unknownKind))) ∧
    exec (.setLevels .job [prime, refill]) s = .next
      (({ s with cq := { s.cq with prime := prime', refill := refill' } } : State).busy .job 0x04
        (acceptFlags (clampedIf (decide (prime' ≠ prime.toNat ∨ refill' ≠ refill.toNat)))
          (natBytes 1 prime' ++ natBytes 1 refill')))

/-! ### Settings requests -/

/-- SET_ORIGIN in IDLE with an empty queue sets the commanded X and Y and the tail point to the named
point; AP moves the target and output counts by the same amount, so what is owed and the schedule stay.
It is refused elsewhere, and outside the workspace (R24, R147). -/
def Obligations.SetOrigin : Prop :=
  ∀ (s : State) (x y : Nat), s.listens .job = true → x < 2 ^ 24 → y < 2 ^ 24 →
    (s.fi.st = .idle → s.cq.entries = [] → x ≤ s.gt.settings.xLimit → y ≤ s.gt.settings.yLimit →
      ∃ t, exec (.setOrigin .job (natBytes 3 x ++ natBytes 3 y)) s = .next t ∧
        t.fi = { s.fi with x := x, y := y } ∧
        t.cq = { s.cq with tail := ⟨x, y⟩, tailKind := none } ∧
        t.ap.x.target = ((x / s.gt.settings.stepX : Nat) : Int) ∧
        t.ap.y.target = ((y / s.gt.settings.stepY : Nat) : Int) ∧
        (s.mpermit = true →
          t.ap.x = { s.ap.x with target := t.ap.x.target,
                                 output := s.ap.x.output + (t.ap.x.target - s.ap.x.target) } ∧
          t.ap.y = { s.ap.y with target := t.ap.y.target,
                                 output := s.ap.y.output + (t.ap.y.target - s.ap.y.target) }) ∧
        (s.mpermit = false → t.ap.x.output = t.ap.x.target ∧ t.ap.y.output = t.ap.y.target) ∧
        t.ap.h = s.ap.h ∧ t.ap.unwrapped = s.ap.unwrapped ∧
        answered s t .job 0x05 (accept []) ∧ noticesKept s t ∧
        keptBut [.fi, .cq, .ap, .ports, .notices] s t) ∧
    (s.fi.st ≠ .idle ∨ s.cq.entries ≠ [] →
      exec (.setOrigin .job (natBytes 3 x ++ natBytes 3 y)) s = .next
        (s.busy .job 0x05 (refuse .wrongState))) ∧
    (s.fi.st = .idle → s.cq.entries = [] →
      s.gt.settings.xLimit < x ∨ s.gt.settings.yLimit < y →
      exec (.setOrigin .job (natBytes 3 x ++ natBytes 3 y)) s = .next
        (s.busy .job 0x05 (refuse .outsideWorkspace)))

/-- The record SET_GRADE stores: each field in its range, s_g before p_g (R27). D is recomputed where
its source is the record written, and nothing else of FI changes (R30, R58, R59). -/
def Obligations.SetGrade : Prop :=
  ∀ (s : State) (index b h g p v m n : Nat), s.listens .job = true →
    index < 256 → b < 65536 → h < 65536 → g < 65536 → p < 65536 → v < 65536 → m < 65536 → n < 256 →
    let d := natBytes 1 index ++ natBytes 2 b ++ natBytes 2 h ++ natBytes 2 g ++ natBytes 2 p
      ++ natBytes 2 v ++ natBytes 2 m ++ natBytes 1 n
    let stored : Grade :=
      { bite := max 50 (min 4000 b), turn := max 5 (min 1000 h), smooth := min 200 g,
        pivot := max (min 200 g) (min 9000 p), crawl := max 500 (min 20000 v),
        minSpm := max 1200 (min 12000 m), settle := min 15 n }
    (index ≤ 15 →
      ∃ t r, exec (.setGrade .job d) s = .next t ∧
        t.gt = { s.gt with grades := s.gt.grades.set index (some stored) } ∧
        answered s t .job 0x03 r ∧ r.result = .accepted ∧
        (r.flags.clamped = true ↔ stored ≠ { bite := b, turn := h, smooth := g, pivot := p,
                                             crawl := v, minSpm := m, settle := n }) ∧
        (r.flags.inUse = true ↔ ∃ c, s.fi.contour = some c ∧ c.index = index) ∧
        (s.fi.contour.isSome = true → t.fi = s.fi) ∧
        (∀ e rest ft tag, s.fi.contour = none → s.cq.entries = e :: rest →
          e.body = .opening index ft tag → index < s.gt.grades.length →
          t.fi = { s.fi with demand := strokeDemand stored (ft * s.hj.override / 100) }) ∧
        ((∀ e ft tag, s.cq.entries.head? = some e → e.body ≠ .opening index ft tag) →
          t.fi = s.fi) ∧
        demandNoticed s t ∧ keptBut [.gt, .fi, .ports, .notices] s t) ∧
    (15 < index → exec (.setGrade .job d) s = .next (s.busy .job 0x03 (refuse .gradeInvalid)))

/-- SET_MACHINE stores the value clamped into its setting's range, and no other setting changes, but
that a step size lowers the speeds above its new ceiling. Outside IDLE and OFFLINE, or with an
entry queued, it is refused; so are a selector that names nothing and a limit below the position or
the tail (R33 to R36). A step size recounts its axis (R148), and a filter count restarts the filters
(R103). -/
def Obligations.SetMachine : Prop :=
  ∀ (s : State) (selector value : Nat), s.listens .job = true → selector < 256 → value < 2 ^ 32 →
    let d := natBytes 1 selector ++ natBytes 4 value
    let m := s.gt.settings
    let stored := m.clamp selector value
    let stepped (x y : Nat) : Settings :=
      { m with stepX := x, stepY := y, fMax := min m.fMax (500000 * min x y)
               traverseFeed := min m.traverseFeed (500000 * min x y) }
    let settings : Settings := match selector with
      | 0 => { m with xLimit := stored }
      | 1 => { m with yLimit := stored }
      | 2 => { m with accel := stored }
      | 3 => { m with quickAccel := stored }
      | 4 => { m with traverseFeed := stored }
      | 5 => { m with fMax := stored }
      | 6 => stepped stored m.stepY
      | 7 => stepped m.stepX stored
      | 8 => { m with stepH := stored, slewH := min m.slewH (500 * stored) }
      | 9 => { m with slewH := stored }
      | 10 => { m with stallTimeout := stored }
      | 11 => { m with window := stored }
      | 12 => { m with filterK := stored }
      | 13 => { m with bLeads := decide (stored = 1) }
      | _ => m
    let recounted (a : AxisOut) (steps : Int) : AxisOut :=
      { a with target := steps, output := steps, laid := 0, emitted := 0,
               drop := if s.mpermit then a.target - a.output else a.drop }
    (s.fi.st ≠ .idle → s.fi.st ≠ .offline →
      exec (.setMachine .job d) s = .next (s.busy .job 0x02 (refuse .wrongState))) ∧
    (s.cq.entries ≠ [] →
      exec (.setMachine .job d) s = .next (s.busy .job 0x02 (refuse .wrongState))) ∧
    ((s.fi.st = .idle ∨ s.fi.st = .offline) → s.cq.entries = [] →
      (13 < selector →
        exec (.setMachine .job d) s = .next (s.busy .job 0x02 (refuse .unknownKind))) ∧
      (selector = 0 → stored < s.fi.x ∨ stored < s.cq.tail.x →
        exec (.setMachine .job d) s = .next (s.busy .job 0x02 (refuse .outsideWorkspace))) ∧
      (selector = 1 → stored < s.fi.y ∨ stored < s.cq.tail.y →
        exec (.setMachine .job d) s = .next (s.busy .job 0x02 (refuse .outsideWorkspace))) ∧
      (selector ≤ 13 →
        (selector = 0 → s.fi.x ≤ stored ∧ s.cq.tail.x ≤ stored) →
        (selector = 1 → s.fi.y ≤ stored ∧ s.cq.tail.y ≤ stored) →
        ∃ t r, exec (.setMachine .job d) s = .next t ∧
          t.gt = { s.gt with settings := settings } ∧ settings.get selector = some stored ∧
          answered s t .job 0x02 r ∧ r.result = .accepted ∧
          r.data = .fixed (natBytes 1 selector ++ natBytes 4 stored) ∧
          (r.flags.clamped = true ↔ stored ≠ value ∨
            (6 ≤ selector ∧ selector ≤ 8 ∧
              (settings.fMax < m.fMax ∨ settings.traverseFeed < m.traverseFeed ∨
                settings.slewH < m.slewH))) ∧
          (selector = 12 →
            t.sd = { s.sd with ca := { s.sd.ca with run := 0 }, cb := { s.sd.cb with run := 0 },
                               cz := { s.sd.cz with run := 0 },
                               holdn := { s.sd.holdn with run := 0 },
                               startPresent := false, period := none }) ∧
          (selector ≠ 12 → t.sd = s.sd) ∧
          (selector = 6 → m.stepX ≠ stored →
            t.ap = { s.ap with x := recounted s.ap.x ((s.fi.x / stored : Nat) : Int) }) ∧
          (selector = 7 → m.stepY ≠ stored →
            t.ap = { s.ap with y := recounted s.ap.y ((s.fi.y / stored : Nat) : Int) }) ∧
          (selector = 8 → m.stepH ≠ stored →
            t.ap = { s.ap with h := recounted s.ap.h (s.ap.unwrapped / (stored : Int)) }) ∧
          (m.get selector = some stored → t.ap = s.ap) ∧
          (selector < 6 ∨ 8 < selector → t.ap = s.ap) ∧
          noticesKept s t ∧ keptBut [.gt, .sd, .ap, .ports, .notices] s t))

/-- The range clamp of every setting, with the ceilings of the speeds (R32, R34, R35). -/
def Obligations.SettingRanges : Prop :=
  ∀ (m : Settings) (value : Nat),
    let ranged (lo hi : Nat) : Nat := if value < lo then lo else if hi < value then hi else value
    let linear := 500000 * min m.stepX m.stepY
    m.clamp 0 value = ranged 1000 4194303 ∧ m.clamp 1 value = ranged 1000 4194303 ∧
    m.clamp 2 value = ranged 10000 5000000 ∧ m.clamp 3 value = ranged 100000 20000000 ∧
    m.clamp 4 value = min (ranged 1000 1000000) linear ∧
    m.clamp 5 value = min (ranged 1000 800000) linear ∧
    m.clamp 6 value = ranged 1 50 ∧ m.clamp 7 value = ranged 1 50 ∧ m.clamp 8 value = ranged 1 10 ∧
    m.clamp 9 value = min (ranged 1 500) (500 * m.stepH) ∧ m.clamp 10 value = ranged 20 1000 ∧
    m.clamp 11 value = ranged 20 500 ∧ m.clamp 12 value = ranged 2 15 ∧ m.clamp 13 value = ranged 0 1

/-- SET_BLADE_OFFSET in IDLE or OFFLINE stores the offset modulo 36,000 and moves nothing; elsewhere it
is refused (R38). -/
def Obligations.SetBladeOffset : Prop :=
  ∀ (s : State) (offset : Nat), s.listens .blade = true → offset < 65536 →
    (s.fi.st = .idle ∨ s.fi.st = .offline →
      exec (.setBladeOffset .blade (natBytes 2 offset)) s = .next
        (({ s with gt := { s.gt with offset := offset % 36000 } } : State).busy .blade 0x1C
          (acceptFlags (clampedIf (decide (36000 ≤ offset))) (natBytes 2 (offset % 36000))))) ∧
    (s.fi.st ≠ .idle → s.fi.st ≠ .offline →
      exec (.setBladeOffset .blade (natBytes 2 offset)) s = .next
        (s.busy .blade 0x1C (refuse .wrongState)))

/-! ### The contour queue -/

/-- QUEUE_TRAVERSE and QUEUE_OPEN that pass the receipt checks are appended with the next sequence
number, and the tail follows (R4, R7 to R13). An entry that comes to the head of an empty queue makes
D that of its source (R58, R59). -/
def Obligations.QueueTraverseOpen : Prop :=
  ∀ (s : State) (x y g f : Nat) (tag : Word16), s.listens .job = true →
    x < 2 ^ 24 → y < 2 ^ 24 → g < 256 → f < 2 ^ 24 →
    s.fi.st.isFault = false → s.fi.st ≠ .jog → s.cq.entries.length < 48 → s.cq.inContour = false →
    (x ≤ s.gt.settings.xLimit → y ≤ s.gt.settings.yLimit → (⟨x, y⟩ : Point) ≠ s.cq.tail →
      let e : Entry := { seq := s.cq.seq, start := s.cq.tail, stop := ⟨x, y⟩
                         length := lineLength s.cq.tail ⟨x, y⟩
                         body := .traverse (lineHeading s.cq.tail ⟨x, y⟩) }
      ∃ t, exec (.queueTraverse .job (natBytes 3 x ++ natBytes 3 y)) s = .next t ∧
        t.cq = { s.cq with entries := s.cq.entries ++ [e], seq := s.cq.seq + 1, tail := ⟨x, y⟩
                           tailHeading := lineHeading s.cq.tail ⟨x, y⟩
                           tailKind := some .traverse } ∧
        t.fi = { s.fi with demand :=
          if s.cq.entries = [] then s.demandOf s.fi.contour [e] else s.fi.demand } ∧
        demandNoticed s t ∧
        answered s t .job 0x10
          (accept (natBytes 2 s.cq.seq.toNat ++ natBytes 1 (s.cq.entries.length + 1))) ∧
        keptBut [.cq, .fi, .ports, .notices] s t) ∧
    ((⟨x, y⟩ : Point) = s.cq.tail → x ≤ s.gt.settings.xLimit → y ≤ s.gt.settings.yLimit →
      ∀ r, s.gt.grades[g]? = some (some r) →
      let target := if f < 1000 then 1000 else if 800000 < f then 800000 else f
      let e : Entry := { seq := s.cq.seq, start := s.cq.tail, stop := s.cq.tail, length := 0
                         body := .opening g target tag }
      ∃ t, exec (.queueOpen .job (natBytes 3 x ++ natBytes 3 y ++ natBytes 1 g ++ natBytes 3 f
          ++ natBytes 2 tag.toNat)) s = .next t ∧
        t.cq = { s.cq with entries := s.cq.entries ++ [e], seq := s.cq.seq + 1
                           tailKind := some .opening, inContour := true, openTag := some tag } ∧
        (s.cq.entries ≠ [] → t.fi = s.fi) ∧
        (s.cq.entries = [] → s.fi.contour = none →
          t.fi = { s.fi with demand := strokeDemand r (target * s.hj.override / 100) }) ∧
        (s.cq.entries = [] → ∀ c, s.fi.contour = some c →
          t.fi = { s.fi with demand := strokeDemand c.grade (c.fTarget * s.hj.override / 100) }) ∧
        demandNoticed s t ∧
        answered s t .job 0x11
          (acceptFlags (clampedIf (decide (target ≠ f)))
            (natBytes 2 s.cq.seq.toNat ++ natBytes 1 (s.cq.entries.length + 1))) ∧
        keptBut [.cq, .fi, .ports, .notices] s t)

/-- QUEUE_LINE and QUEUE_ARC that pass the receipt checks are appended with the open contour's tag and
the junction angle of R5; the END mark closes the contour at the tail (R4 to R6, R13). An arc's radius,
sweep, headings and length are those of its three points, with the centre anywhere in the signed range
(R6, R45 to R49). -/
def Obligations.QueueLineArc : Prop :=
  ∀ (s : State) (x y : Nat) (cx cy : Int) (options : Byte) (tag : Word16), s.listens .job = true →
    x < 2 ^ 24 → y < 2 ^ 24 → -(2 ^ 23) ≤ cx → cx < 2 ^ 23 → -(2 ^ 23) ≤ cy → cy < 2 ^ 23 →
    s.fi.st.isFault = false → s.fi.st ≠ .jog → s.cq.entries.length < 48 → s.cq.inContour = true →
    s.cq.openTag = some tag → x ≤ s.gt.settings.xLimit → y ≤ s.gt.settings.yLimit →
    let ccw := options.getLsbD 0
    let last := options.getLsbD 1
    let junction (h : Nat) : Option Int :=
      if s.cq.tailKind = some .line ∨ s.cq.tailKind = some .arc then
        some (normalise ((h : Int) - s.cq.tailHeading))
      else none
    let reply := accept (natBytes 2 s.cq.seq.toNat ++ natBytes 1 (s.cq.entries.length + 1))
    let after (t : State) (e : Entry) (heading : Nat) (kind : EntryKind) : Prop :=
      t.cq = { s.cq with entries := s.cq.entries ++ [e], seq := s.cq.seq + 1, tail := ⟨x, y⟩
                         tailHeading := heading, tailKind := some kind, inContour := !last
                         openTag := if last then none else some tag } ∧
        t.fi = { s.fi with demand :=
          if s.cq.entries = [] then s.demandOf s.fi.contour [e] else s.fi.demand } ∧
        demandNoticed s t ∧ keptBut [.cq, .fi, .ports, .notices] s t;
    ((⟨x, y⟩ : Point) ≠ s.cq.tail →
      let heading := lineHeading s.cq.tail ⟨x, y⟩
      ∃ t, exec (.queueLine .job (natBytes 3 x ++ natBytes 3 y ++ [options])) s = .next t ∧
        answered s t .job 0x12 reply ∧
        after t { seq := s.cq.seq, start := s.cq.tail, stop := ⟨x, y⟩
                  length := lineLength s.cq.tail ⟨x, y⟩
                  body := .line tag heading (junction heading) last } heading .line) ∧
    (let radius := arcDistance s.cq.tail cx cy
      let start := arcAngle s.cq.tail cx cy
      let stop := arcAngle ⟨x, y⟩ cx cy
      let sweep := sweepOf ccw start stop
      let length := (roundDiv ((radius * sweep * 17453 : Nat) : Int) 100000000).toNat
      let entry := tangentAt ccw start
      let exit := tangentAt ccw stop
      s.gt.settings.holdsSweep cx cy radius ccw start sweep →
      ((radius : Int) - arcDistance ⟨x, y⟩ cx cy).natAbs ≤ 50 → 1000 ≤ radius → length ≠ 0 →
      ∃ t, exec (.queueArc .job (natBytes 3 x ++ natBytes 3 y ++ leBytes 3 cx ++ leBytes 3 cy
          ++ [options])) s = .next t ∧
        answered s t .job 0x13 reply ∧
        after t { seq := s.cq.seq, start := s.cq.tail, stop := ⟨x, y⟩, length := length
                  body := .arc tag entry exit (junction entry) last
                    { cx := cx, cy := cy, radius := radius, ccw := ccw, sweep := sweep } } exit .arc)

/-- The order of refusal of a queue request: FAULT and JOG, then a full queue, then a kind the tail
does not permit, then an OPEN's start point and grade, then the workspace, then a zero length, then
an arc's radii and length. A refused entry leaves no trace, and its reply carries the level (R8 to
R12). -/
def Obligations.ReceiptOrder : Prop :=
  (∀ (s : State) (c : Instr) (kind : Byte) (cut : Bool) (n : Nat) (d : List Byte),
    s.listens .job = true → d.length = n →
    (c, kind, cut, n) ∈ [(Instr.queueTraverse .job d, (0x10 : Byte), false, 6),
      (.queueOpen .job d, 0x11, false, 12), (.queueLine .job d, 0x12, true, 7),
      (.queueArc .job d, 0x13, true, 13)] →
    let refused (r : Result) : Reply :=
      { result := r, flags := noFlags, data := .fixed (natBytes 1 s.cq.entries.length) };
    (s.fi.st.isFault = true ∨ s.fi.st = .jog →
      exec c s = .next (s.busy .job kind (refused .wrongState))) ∧
    (s.fi.st.isFault = false → s.fi.st ≠ .jog → 48 ≤ s.cq.entries.length →
      exec c s = .next (s.busy .job kind (refused .queueFull))) ∧
    (s.fi.st.isFault = false → s.fi.st ≠ .jog → s.cq.entries.length < 48 → cut = true →
      s.cq.inContour = false → exec c s = .next (s.busy .job kind (refused .noContour))) ∧
    (s.fi.st.isFault = false → s.fi.st ≠ .jog → s.cq.entries.length < 48 → cut = false →
      s.cq.inContour = true → exec c s = .next (s.busy .job kind (refused .contourOpen)))) ∧
  ∀ (s : State) (x y g f : Nat) (cx cy : Int) (options : Byte) (tag : Word16),
    s.listens .job = true → x < 2 ^ 24 → y < 2 ^ 24 → g < 256 → f < 2 ^ 24 →
    -(2 ^ 23) ≤ cx → cx < 2 ^ 23 → -(2 ^ 23) ≤ cy → cy < 2 ^ 23 →
    s.fi.st.isFault = false → s.fi.st ≠ .jog → s.cq.entries.length < 48 →
    let point := natBytes 3 x ++ natBytes 3 y
    let inside := x ≤ s.gt.settings.xLimit ∧ y ≤ s.gt.settings.yLimit
    let refused (c : Instr) (kind : Byte) (r : Result) : Prop :=
      exec c s = .next (s.busy .job kind
        { result := r, flags := noFlags, data := .fixed (natBytes 1 s.cq.entries.length) });
    (s.cq.inContour = false →
      let c := Instr.queueTraverse .job point;
      (¬ inside → refused c 0x10 .outsideWorkspace) ∧
      (inside → (⟨x, y⟩ : Point) = s.cq.tail → refused c 0x10 .zeroLength)) ∧
    (s.cq.inContour = false →
      let c := Instr.queueOpen .job (point ++ natBytes 1 g ++ natBytes 3 f ++ natBytes 2 tag.toNat)
      let valid := ∃ r, s.gt.grades[g]? = some (some r);
      ((⟨x, y⟩ : Point) ≠ s.cq.tail → refused c 0x11 .startMismatch) ∧
      ((⟨x, y⟩ : Point) = s.cq.tail → ¬ valid → refused c 0x11 .gradeInvalid) ∧
      ((⟨x, y⟩ : Point) = s.cq.tail → valid → ¬ inside → refused c 0x11 .outsideWorkspace)) ∧
    (s.cq.inContour = true →
      let c := Instr.queueLine .job (point ++ [options]);
      (¬ inside → refused c 0x12 .outsideWorkspace) ∧
      (inside → (⟨x, y⟩ : Point) = s.cq.tail → refused c 0x12 .zeroLength)) ∧
    (s.cq.inContour = true →
      let c := Instr.queueArc .job (point ++ leBytes 3 cx ++ leBytes 3 cy ++ [options])
      let ccw := options.getLsbD 0
      let radius := arcDistance s.cq.tail cx cy
      let start := arcAngle s.cq.tail cx cy
      let sweep := sweepOf ccw start (arcAngle ⟨x, y⟩ cx cy)
      let swept := inside ∧ s.gt.settings.holdsSweep cx cy radius ccw start sweep
      let apart := ((radius : Int) - arcDistance ⟨x, y⟩ cx cy).natAbs;
      (¬ swept → refused c 0x13 .outsideWorkspace) ∧
      (swept → 50 < apart → refused c 0x13 .arcMismatch) ∧
      (swept → apart ≤ 50 → radius < 1000 → refused c 0x13 .arcTooSmall) ∧
      (swept → apart ≤ 50 → 1000 ≤ radius →
        roundDiv ((radius * sweep * 17453 : Nat) : Int) 100000000 = 0 →
        refused c 0x13 .zeroLength))

/-! ### Holds -/

/-- HOLD adds the reason of its port and RELEASE removes it, in every state; a change that makes the
set non-empty sends a moving FI to HOLDING and a pivoting one to HELD, and one that empties it returns
FI to its resume state; JOB or BLADE ends a running jog (R86, R89, R119, R120, R135). -/
def Obligations.HoldRelease : Prop :=
  ∀ (s : State) (p : Port), s.listens p = true →
    let joined := s.hj.holds.put p true
    let left := s.hj.holds.put p false
    let held : FiState := match s.fi.st with
      | .traversing => .holding .traversing
      | .cutNormal => .holding .cutNormal
      | .cutCrawl => .holding .cutCrawl
      | .pivotEntry => .held .pivotEntry
      | .pivotCorner => .held .pivotCorner
      | .pivotSettle => .held .pivotSettle
      | st => st
    let resumed : FiState := match s.fi.st with
      | .holding r => r.state
      | .held r => r.state
      | st => st;
    (s.hj.holds.has p = true →
      exec (.hold p []) s = .next (s.busy p 0x19 (accept s.hj.holds.bytes))) ∧
    (s.hj.holds.has p = false →
      ∃ t, exec (.hold p []) s = .next t ∧ t.hj.holds = joined ∧ pendingAll t .state ∧
        (s.hj.holds.any = true → t.fi = s.fi) ∧
        (s.hj.holds.any = false → t.fi.st = held ∧
          (held.still = false → t.fi.v = s.fi.v) ∧ (s.fi.st = held → t.fi = s.fi) ∧
          t.fi = { s.fi with st := t.fi.st, v := t.fi.v }) ∧
        t.hj = { s.hj with holds := joined, phase := t.hj.phase, endCause := t.hj.endCause } ∧
        (∀ m, s.hj.phase = .running m → p ≠ .panel →
          t.hj.phase = .ending m ∧ t.hj.endCause = some .hold) ∧
        (p = .panel ∨ s.hj.phase.code ≠ 1 →
          t.hj.phase = s.hj.phase ∧ t.hj.endCause = s.hj.endCause) ∧
        answered s t p 0x19 (accept joined.bytes) ∧ keptBut [.fi, .hj, .ports, .notices] s t) ∧
    (s.hj.holds.has p = false →
      exec (.release p []) s = .next (s.busy p 0x1A
        (acceptFlags { clamped := false, inUse := false, notHeld := true } s.hj.holds.bytes))) ∧
    (s.hj.holds.has p = true →
      ∃ t, exec (.release p []) s = .next t ∧ t.hj = { s.hj with holds := left } ∧
        pendingAll t .state ∧ (left.any = true → t.fi = s.fi) ∧
        (left.any = false → t.fi.st = resumed ∧ t.fi = { s.fi with st := t.fi.st, v := t.fi.v } ∧
          (∀ r, s.fi.st = .holding r → resumed.still = false → t.fi.v = s.fi.v) ∧
          (∀ r, s.fi.st = .held r → t.fi.v = 0) ∧ (s.fi.st = resumed → t.fi = s.fi)) ∧
        answered s t p 0x1A (acceptFlags noFlags left.bytes) ∧ keptBut [.fi, .hj, .ports, .notices] s t)

/-- BLADE_STATE of 0 or 1 sets the blade state; a change re-evaluates DRIVE_OFF, to which FI reacts in
every state as to any reason, and RUNNING restarts the stall timer while a contour is active; any other
value is refused (R86, R89, R111, R112, R119, R123). -/
def Obligations.BladeState : Prop :=
  ∀ (s : State) (b : Byte), s.listens .blade = true →
    (1 < b.toNat →
      exec (.bladeState .blade [b]) s = .next (s.busy .blade 0x1B (refuse .unknownKind))) ∧
    (b.toNat ≤ 1 → s.sd.running = decide (b = 1) →
      exec (.bladeState .blade [b]) s = .next (s.busy .blade 0x1B (accept [b]))) ∧
    (b.toNat ≤ 1 → s.sd.running ≠ decide (b = 1) →
      ∃ t, exec (.bladeState .blade [b]) s = .next t ∧
        t.sd = { s.sd with
          running := decide (b = 1)
          stallTimer := if b = 1 ∧ s.fi.contour.isSome = true then 0 else s.sd.stallTimer } ∧
        t.hj = { s.hj with holds := { s.hj.holds with
          driveOff := if b = 1 then false else s.fi.contour.isSome || s.hj.holds.driveOff } } ∧
        t.fi = reactedFi s.hj.holds t.hj.holds s.fi ∧
        (t.hj.holds ≠ s.hj.holds → pendingAll t .state) ∧
        (t.hj.holds = s.hj.holds → noticesKept s t) ∧
        answered s t .blade 0x1B (accept [b]) ∧ keptBut [.sd, .hj, .fi, .ports, .notices] s t)

/-- SET_OVERRIDE stores at most 150; a change lowers v to the new cap in TRAVERSING, CUTTING and
HOLDING and recomputes the demand from its source, and an equal value changes nothing (R58, R59, R65,
R125, R126). That FI stays in HOLDING where v so becomes 0 is the model's choice (log 42, with R87). -/
def Obligations.SetOverride : Prop :=
  ∀ (s : State) (value : Nat), s.listens .panel = true → value < 65536 →
    let stored := min 150 value
    let reply := acceptFlags (clampedIf (decide (150 < value))) (natBytes 1 stored);
    (stored = s.hj.override →
      exec (.setOverride .panel (natBytes 2 value)) s = .next (s.busy .panel 0x1D reply)) ∧
    (stored ≠ s.hj.override →
      ∃ t, exec (.setOverride .panel (natBytes 2 value)) s = .next t ∧
        t.hj = { s.hj with override := stored } ∧
        t.fi = { s.fi with
          v := if s.fi.st.capped then min s.fi.v (t.capFor s.fi.st s.fi.active) else s.fi.v
          demand := sourceDemand s.gt.grades stored s.fi.contour s.cq.entries } ∧
        demandNoticed s t ∧
        answered s t .panel 0x1D reply ∧ keptBut [.hj, .fi, .ports, .notices] s t)

/-- The edges of HOLDN: a filtered fall adds LINE and ends a running jog, a filtered rise removes LINE,
and FI reacts in every state as to any reason; an edge to the level the filter holds already is none
(R86, R89, R119, R121, R135).
That the command sets the pin's filter is the model's choice (log 26), and so is that the edge to the
level already held changes nothing (log 4). -/
def Obligations.HoldnEdges : Prop :=
  ∀ s : State, s.pins.clkin = true →
    (s.sd.holdn.filtered = true →
      ∃ t, exec .holdnFall s = .next t ∧ t.hj.holds = { s.hj.holds with line := true } ∧
        t.sd = { s.sd with holdn := { raw := false, filtered := false, run := 0 } } ∧
        t.pins = { s.pins with holdn := false } ∧
        t.fi = reactedFi s.hj.holds t.hj.holds s.fi ∧
        (s.hj.holds.line = false → pendingAll t .state) ∧
        (∀ m, s.hj.holds.line = false → s.hj.phase = .running m →
          t.hj.phase = .ending m ∧ t.hj.endCause = some .hold) ∧
        (s.hj.holds.line = true ∨ s.hj.phase.code ≠ 1 → t.hj.phase = s.hj.phase ∧
          t.hj.endCause = s.hj.endCause) ∧
        t.hj.override = s.hj.override ∧ t.hj.lock = s.hj.lock ∧
        t.hj.earlyTally = s.hj.earlyTally ∧ keptBut [.pins, .sd, .fi, .hj, .notices] s t) ∧
    (s.sd.holdn.filtered = false →
      ∃ t, exec .holdnRise s = .next t ∧
        t.hj = { s.hj with holds := { s.hj.holds with line := false } } ∧
        t.sd = { s.sd with holdn := { raw := true, filtered := true, run := 0 } } ∧
        t.pins = { s.pins with holdn := true } ∧
        t.fi = reactedFi s.hj.holds t.hj.holds s.fi ∧
        (s.hj.holds.line = true → pendingAll t .state) ∧
        keptBut [.pins, .sd, .fi, .hj, .notices] s t) ∧
    (s.sd.holdn.filtered = false → exec .holdnFall s = .next s) ∧
    (s.sd.holdn.filtered = true → exec .holdnRise s = .next s)

/-! ### Jog -/

/-- JOG_START in its order of tests: a code that names nothing, the state, the holds of others, the
lock; accepted, it abandons held work and starts the jog record with the clamped speed and the window
of the settings. DEMAND is pending where D has changed (R59, R128, R129). The order of the held
work's flush is the model's choice (log 33). -/
def Obligations.JogStart : Prop :=
  (∀ (s : State) (axis direction : Byte) (speed : Nat), s.listens .panel = true → speed < 2 ^ 24 →
    2 < axis.toNat ∨ 1 < direction.toNat →
    exec (.jogStart .panel ([axis, direction] ++ natBytes 3 speed)) s =
      .next (s.busy .panel 0x1E (refuse .unknownKind))) ∧
  ∀ (s : State) (axis : Axis) (positive : Bool) (speed : Nat), s.listens .panel = true →
    speed < 2 ^ 24 →
    let d := natBytes 1 (axisCode axis) ++ natBytes 1 (if positive then 0 else 1) ++ natBytes 3 speed
    let lowered := min 1000000 speed
    let stored := match axis with
      | .h => min s.gt.settings.slewH (max 1 lowered)
      | _ => min s.gt.settings.traverseFeed (max 100 lowered)
    let held := ∃ r, s.fi.st = .held r
    let free := s.hj.holds.job = false ∧ s.hj.holds.blade = false ∧ s.hj.holds.line = false;
    ((s.fi.st = .idle ∧ s.cq.entries = [] ∨ held ∧ s.hj.lock = false) → free →
      ∃ t, exec (.jogStart .panel d) s = .next t ∧
        t.hj = { s.hj with
          holds := if s.fi.st = .idle then s.hj.holds else s.hj.holds.released s.fi
          phase := .running { axis := axis, positive := positive, speed := stored
                              window := s.gt.settings.window, timer := 0 }
          endCause := none } ∧ pendingAll t .state ∧ demandNoticed s t ∧
        (s.fi.st = .idle → t.cq = s.cq ∧ t.sd = s.sd ∧
          t.fi = { s.fi with st := .jog, v := 0, rem := 0 }) ∧
        (held → t.cq = s.cq.flushed s.fi ∧ t.sd = s.sd.released s.fi ∧ t.fi = s.fi.flushed .jog ∧
          (t.port .job).notices.has .abandoned = true) ∧
        answered s t .panel 0x1E
          (acceptFlags (clampedIf (decide (stored ≠ speed)))
            (natBytes 1 (axisCode axis) ++ natBytes 1 (if positive then 0 else 1)
              ++ natBytes 3 stored)) ∧
        keptBut [.fi, .cq, .sd, .hj, .ports, .notices] s t) ∧
    ((s.fi.st ≠ .idle ∧ (∀ r, s.fi.st ≠ .held r)) ∨ (s.fi.st = .idle ∧ s.cq.entries ≠ []) →
      exec (.jogStart .panel d) s = .next (s.busy .panel 0x1E (refuse .wrongState))) ∧
    ((s.fi.st = .idle ∧ s.cq.entries = [] ∨ held) → ¬ free →
      exec (.jogStart .panel d) s = .next (s.busy .panel 0x1E (refuse .heldByOther))) ∧
    (held → free → s.hj.lock = true →
      exec (.jogStart .panel d) s = .next (s.busy .panel 0x1E (refuse .locked)))

/-- JOG_KEEP in RUNNING ends the jog with EARLY before a quarter of the window, and otherwise
restarts the window timer; JOG_END ends a running jog; both are refused in any other phase; a window
that expires ends it with EXPIRED (R134, R135). At each expiry a linear jog moves its axis toward the
jog speed or toward 0, stops at the bound and takes the tail point with it, a jog of H turns H by its
rate, and an ended jog whose speed is 0 flushes and leaves FI in IDLE; in the quick stop a linear jog
falls by the quick step to FAULT STOPPED (R92 to R94, R131 to R133, R136). Behind the jog's motion
the tick of the expiry raises the window timer, and at W ends the jog (ExpiryStill gives its values).
Each expiry hands the position to AP, whose schedule it lays, and the end of the quick stop discards it
into the drop counts (R141, R143, R145).
That WINDOW_EXPIRY brings the timer to the window is the model's choice (log 1), and so are that v
holds the H rate (log 16) and that the window's tick follows FI's work (log 32). -/
def Obligations.JogKeepEnd : Prop :=
  ∀ (s : State) (m : JogMove),
    (s.listens .panel = true → s.hj.phase = .running m →
      (m.timer < m.window / 4 →
        exec (.jogKeep .panel []) s = .next
          (({ s with hj := { s.hj with phase := .ending m, endCause := some .early,
                                       earlyTally := min 65535 (s.hj.earlyTally + 1) } } :
              State).busy .panel 0x1F (accept [1, 2, 1]))) ∧
      (m.window / 4 ≤ m.timer → s.hj.endCause = none →
        exec (.jogKeep .panel []) s = .next
          (({ s with hj := { s.hj with phase := .running { m with timer := 0 } } } : State).busy
            .panel 0x1F (accept [0, 1, 0]))) ∧
      exec (.jogEnd .panel []) s = .next
        (({ s with hj := { s.hj with phase := .ending m, endCause := some .ended } } : State).busy
          .panel 0x20 (accept [2]))) ∧
    (s.listens .panel = true → s.hj.phase = .none ∨ s.hj.phase = .ending m →
      exec (.jogKeep .panel []) s = .next (s.busy .panel 0x1F (refuse .wrongState)) ∧
      exec (.jogEnd .panel []) s = .next (s.busy .panel 0x20 (refuse .wrongState))) ∧
    (s.pins.clkin = true → s.hj.phase = .running m →
      exec .windowExpiry s = .next
        { s with hj := { s.hj with phase := .ending { m with timer := m.window },
                                   endCause := some .expired } }) ∧
    (s.pins.clkin = true → s.fi.st = .jog ∨ (∃ k, s.fi.st = .stopping k) →
      s.hj.phase = .running m ∨ s.hj.phase = .ending m →
      let settings := s.gt.settings
      let room := match m.axis, m.positive with
        | .x, true => settings.xLimit - s.fi.x
        | .x, false => s.fi.x
        | .y, true => settings.yLimit - s.fi.y
        | .y, false => s.fi.y
        | .h, _ => 0
      let running := s.fi.st = .jog ∧ s.hj.phase = .running m
      let step := if s.fi.st = .jog then max 1 (settings.accel / 1000)
        else max 1 (settings.quickAccel / 1000)
      let v := moveToward s.fi.v
        (if running then min m.speed (isqrt (2 * settings.accel * room)) else 0) step
      let whole := (s.fi.rem + v) / 1000
      let go (c : Nat) : Nat := if m.positive then c + min whole room else c - min whole room
      let rate := moveToward s.fi.v (if running then m.speed else 0) settings.slewH
      let turned := if m.positive then (s.fi.h : Int) + rate else (s.fi.h : Int) - rate
      let moved : Interpolator := match m.axis with
        | .h =>
          if s.fi.st = .jog then { s.fi with v := rate, h := (turned % 36000).toNat }
          else { s.fi with v := 0 }
        | axis => { s.fi with
          v := if room ≤ whole then 0 else v
          rem := if room ≤ whole then 0 else (s.fi.rem + v) % 1000
          x := if axis = .x then go s.fi.x else s.fi.x
          y := if axis = .y then go s.fi.y else s.fi.y };
      ∃ t, exec .feedPeriodExpiry s = .next t ∧
        (running ∨ moved.v ≠ 0 → t.fi = moved ∧ handedOff s t ∧
          t.cq = { s.cq with tail := ⟨moved.x, moved.y⟩ } ∧
          keptBut [.fi, .cq, .ap] s.ticked t) ∧
        (s.fi.st = .jog → s.hj.phase = .ending m → moved.v = 0 →
          t.fi = moved.flushed .idle ∧ handedOff s t ∧ t.cq = s.cq.flushed moved ∧
          t.sd = s.ticked.sd.released s.fi ∧
          t.hj = { s.hj with phase := .none, holds := s.hj.holds.released s.fi } ∧
          pendingAll t .state ∧ demandNoticed s t ∧
          keptBut [.fi, .cq, .sd, .hj, .ap, .notices] s.ticked t) ∧
        (s.fi.st ≠ .jog → moved.v = 0 → stoppedAt s t moved s.cq ∧
          keptBut [.fi, .cq, .sd, .hj, .ap, .sv, .notices] s.ticked t))

/-! ### Telegrams -/

/-- The third and fourth checks of a request, on every port and for every request: NOT_PERMITTED on a
port that may not send it, then BAD_LENGTH. A telegram with a wrong sum only advances the check tally,
and an unknown kind is answered with its code; a handler that may not take a whole telegram leaves it
in the completed slot. The first character of a telegram takes the loss flag with it, so that with
nothing waiting a telegram behind a lost character has the effect it has without one (R177, R179, R187,
R188).
That a request which cannot be taken waits in the slot, that a request leaves the gap timer and the
run of high samples as they stood, and that a queue request the handler refuses carries the level, are
the model's choices (logs 3 and 19). -/
def Obligations.TelegramChecks : Prop :=
  ∀ (s : State) (p : Port) (d : List Byte), d.length ≤ 20 →
    let heard : State := s.setPort p { s.port p with rx := { (s.port p).rx with loss := false } }
    let nothingWaits := (s.port p).asm.slot = none ∧ (s.port p).rxFifo = [] ∧
      (s.port p).asm.assembling = false;
    (∀ c kind roles n, (c, kind, roles, n) ∈ requestRows p d →
      let refused (r : Result) : Reply :=
        { result := r, flags := noFlags,
          data := .fixed (if 0x10 ≤ kind.toNat ∧ kind.toNat ≤ 0x13 then natBytes 1 s.cq.entries.length
                          else []) };
      (s.listens p = true → p ∉ roles → exec c s = .next (s.busy p kind (refused .notPermitted))) ∧
      (s.listens p = true → p ∈ roles → d.length ≠ n →
        exec c s = .next (s.busy p kind (refused .badLength))) ∧
      (nothingWaits → exec c s = if s.pins.clkin then exec c heard else .next s) ∧
      (s.pins.clkin = true → nothingWaits → s.mayTake p = false →
        exec c s = .next (heard.setPort p { heard.port p with
          asm := { (s.port p).asm with slot := some (telegram kind d) } }))) ∧
    (∀ chars, s.listens p = true → delimited chars = true → charSum chars ≠ 0 →
      exec (.checkDiscard p chars) s = .next (s.setPort p { s.port p with
        tallies := { (s.port p).tallies with check := min 65535 ((s.port p).tallies.check + 1) } })) ∧
    (∀ kind : Byte, s.listens p = true → kind.toNat ∉ requestCodes →
      exec (.unknownKindTelegram p kind d) s = .next
        (s.busy p 0x00 { result := .unknownKind, flags := noFlags, data := .fixed [kind] }))

/-- The reads answer without changing anything but their handler, and leave their data to be taken
when the reply is written; what names nothing is refused (R31, R184, R188, R193 to R195).
That READ_GRADE's IN_USE, which R195 puts in the flags byte and R31 counts among the reply data, is
fixed at the take is the model's reading (log 18). -/
def Obligations.Reads : Prop :=
  ∀ (s : State) (p : Port) (a b : Byte), s.listens p = true →
    let read (kind : Byte) (data : ReplyData) : Host.Outcome State Fault Refusal :=
      .next (s.busy p kind { result := .accepted, flags := noFlags, data := data })
    exec (.readProgress p []) s = read 0x21 .progress ∧
    exec (.readStroke p []) s = read 0x23 .stroke ∧
    (a.toNat ≤ 6 → exec (.readStatus p [a]) s = read 0x22 (.status a.toNat)) ∧
    (6 < a.toNat → exec (.readStatus p [a]) s = .next (s.busy p 0x22 (refuse .unknownKind))) ∧
    (b.toNat ≤ 15 → exec (.readGrade p [0, b]) s = .next (s.busy p 0x24
      { result := .accepted, data := .grade 0 b.toNat,
        flags := { clamped := false, notHeld := false,
                   inUse := s.fi.contour.any fun c => decide (c.index = b.toNat) } })) ∧
    (15 < b.toNat →
      exec (.readGrade p [0, b]) s = .next (s.busy p 0x24 (refuse .gradeInvalid))) ∧
    exec (.readGrade p [1, b]) s = read 0x24 (.grade 1 b.toNat) ∧
    (b.toNat ≤ 13 → exec (.readGrade p [2, b]) s = read 0x24 (.grade 2 b.toNat)) ∧
    (13 < b.toNat → exec (.readGrade p [2, b]) s = .next (s.busy p 0x24 (refuse .unknownKind))) ∧
    exec (.readGrade p [3, b]) s = read 0x24 (.grade 3 b.toNat) ∧
    (3 < a.toNat → exec (.readGrade p [a, b]) s = .next (s.busy p 0x24 (refuse .unknownKind))) ∧
    exec (.readPort p [0]) s = read 0x25 (.port false) ∧
    exec (.readPort p [1]) s = read 0x25 (.port true) ∧
    (1 < a.toNat → exec (.readPort p [a]) s = .next (s.busy p 0x25 (refuse .unknownKind)))

/-- SET_BAUD holds the clamped divisor as pending and answers it. When its reply has left the line the
port switches: the new divisor, the transmitter in GUARD, the receiver in IDLE with count 0, the
request done. Until then BAUD_SWITCH has no effect (R172).
The clock counts at 0 are the model's choice (log 10). -/
def Obligations.SetBaudSwitch : Prop :=
  ∀ (s : State) (p : Port),
    (∀ value : Nat, s.listens p = true → value < 65536 →
      let divisor := if value < 1 then 1 else if 4095 < value then 4095 else value
      exec (.setBaud p (natBytes 2 value)) s = .next
        ((s.setPort p { s.port p with pendingDivisor := some divisor }).busy p 0x27
          (acceptFlags (clampedIf (decide (divisor ≠ value))) (natBytes 2 divisor)))) ∧
    (∀ divisor r, s.pins.clkin = true → (s.port p).pendingDivisor = some divisor →
      (s.port p).request = some r → r.written = true → (s.port p).tx.phase = .idle →
      (s.port p).tx.fifo = [] →
      exec (.baudSwitch p) s = .next (s.setPort p { s.port p with
        divisor := divisor, pendingDivisor := none, rxClock := 0, txClock := 0
        rx := { phase := .idle, highRun := 0, index := 0, bits := [], votes := [], noise := false,
                breakTest := 0, loss := (s.port p).rx.loss }
        tx := { phase := .guard, guard := 0, shift := none, bit := 0, fifo := [] }
        request := none, noticePass := 0 })) ∧
    ((s.port p).pendingDivisor = none ∨ (∀ r, (s.port p).request = some r → r.written = false) ∨
        (s.port p).tx.phase ≠ .idle ∨ (s.port p).tx.fifo ≠ [] →
      exec (.baudSwitch p) s = .next s)

/-- REPLY_WRITE writes the whole reply behind what waits when it fits, advances the refused tally for
a refusal, clears the tallies for a READ_PORT with option 1, and frees the handler, except after an
accepted SET_BAUD. NOTICE_BUILD in FREE writes the lowest pending kind left in the pass, or the
lowest of a new pass where none is left, and clears its flag; the pass goes on to a higher kind that
is pending and fits, and ends otherwise. A kind made pending joins the pass, which ends where the
lowest kind then left in it does not fit (R172, R181, R183, R184, R188, R196, R197).
That a pass is held as a place in the order of kinds is the model's choice (log 29), and so is that
REPLY_WRITE without a reply that fits, and NOTICE_BUILD while BUSY or with nothing pending, change
nothing (log 4). -/
def Obligations.ReplyAndNotice : Prop :=
  ∀ (s : State) (p : Port), s.pins.clkin = true →
    ((s.port p).tx.phase = .idle → (s.port p).tx.shift = none) →
    let q := s.port p
    let rank (k : Notice) : Nat := k.code.toNat - 0x60;
    (∀ r, q.request = some r → r.written = false →
      (s.replyTelegrams p r).flatten.length ≤ 64 - q.tx.fifo.length →
      ∃ t, exec (.replyWrite p) s = .next t ∧
        (t.port p).tx.queued = q.tx.queued ++ ((s.replyTelegrams p r).map markChars).flatten ∧
        (t.port p).tx.phase = (if q.tx.phase = .idle then .sending else q.tx.phase) ∧
        (t.port p).request =
          (if r.kind = 0x27 ∧ r.result = .accepted then some { r with written := true } else none) ∧
        (r.data = .port true → (t.port p).tallies =
          { noise := 0, framing := 0, overrun := 0, brk := 0, gap := 0, check := 0, refused := 0 }) ∧
        (r.data ≠ .port true → r.result = .accepted → (t.port p).tallies = q.tallies) ∧
        (r.data ≠ .port true → r.result ≠ .accepted →
          (t.port p).tallies = { q.tallies with refused := min 65535 (q.tallies.refused + 1) }) ∧
        t = s.setPort p { q with
          request := (t.port p).request, tallies := (t.port p).tallies, tx := (t.port p).tx
          txClock := (t.port p).txClock, noticePass := 0 }) ∧
    ((q.request = none ∨ ∃ r, q.request = some r ∧ (r.written = true ∨
        64 - q.tx.fifo.length < (s.replyTelegrams p r).flatten.length)) →
      exec (.replyWrite p) s = .next s) ∧
    (∀ k, q.request = none → q.notices.has k = true →
      (q.noticePass ≤ rank k ∧
          ∀ j, rank j < rank k → q.noticePass ≤ rank j → q.notices.has j = false) ∨
        (∀ j, rank j < rank k ∨ q.noticePass ≤ rank j → q.notices.has j = false) →
      ((s.noticeTelegram k).length ≤ 64 - q.tx.fifo.length →
        ∃ t, exec (.noticeBuild p) s = .next t ∧
          (t.port p).tx.queued = q.tx.queued ++ markChars (s.noticeTelegram k) ∧
          ((∀ j, rank k < rank j → q.notices.has j = false) → (t.port p).noticePass = 0) ∧
          (∀ j, rank k < rank j → q.notices.has j = true →
            (∀ i, rank k < rank i → rank i < rank j → q.notices.has i = false) →
            (t.port p).noticePass =
              if (s.noticeTelegram j).length ≤ 64 - (t.port p).tx.fifo.length then rank k + 1
              else 0) ∧
          t = s.setPort p { q with
            notices := q.notices.put k false, noticePass := (t.port p).noticePass
            tx := (t.port p).tx, txClock := (t.port p).txClock }) ∧
      (64 - q.tx.fifo.length < (s.noticeTelegram k).length →
        exec (.noticeBuild p) s = .next s)) ∧
    (q.request ≠ none ∨ (∀ k, q.notices.has k = false) → exec (.noticeBuild p) s = .next s) ∧
    (∀ k,
      let kinds := q.notices.put k true
      let u := (s.raise p k).port p;
      s.raise p k = s.setPort p { q with notices := kinds, noticePass := u.noticePass } ∧
      (∀ j, kinds.has j = true → q.noticePass ≤ rank j →
        (∀ i, q.noticePass ≤ rank i → rank i < rank j → kinds.has i = false) →
        u.noticePass =
          if (s.noticeTelegram j).length ≤ 64 - q.tx.fifo.length then q.noticePass else 0) ∧
      ((∀ j, q.noticePass ≤ rank j → kinds.has j = false) → u.noticePass = 0) ∧
      ∀ j, kinds.has j = (decide (j = k) || q.notices.has j))

/-- Every telegram a port writes has 3 to 23 characters, its length character counts its payload, and
the sum of its characters is 0; a reply is at most three telegrams, and fits an empty FIFO. A notice
and a reply carry the fields of the spec's lists in their order, at their widths, with presence bytes
and the codes of the spec; a reply begins with its result and flags, and a group lays its fields in
telegrams of at most 20 characters of payload (R186, R188, R190, R191, R193 to R195, R198, R201,
R202). The codes of the arm latch, of levels and of flags in a byte of their own, and the two bytes of
the further-fault count, are the model's choice (log 46). -/
def Obligations.TelegramForm : Prop :=
  let formed (t : List Byte) : Prop :=
    3 ≤ t.length ∧ t.length ≤ 23 ∧ (t.getD 1 0).toNat + 3 = t.length ∧ charSum t = 0
  (∀ s : State,
    (∀ k, formed (s.noticeTelegram k)) ∧
    ∀ (p : Port) (r : Request), (∀ bytes, r.data = .fixed bytes → bytes.length ≤ 18) →
      (∀ t ∈ s.replyTelegrams p r, formed t) ∧ (s.replyTelegrams p r).length ≤ 3 ∧
        (s.replyTelegrams p r).flatten.length ≤ 60) ∧
  -- the numbers and the codes
  (∀ (w : Nat) (v : Int), (leBytes w v).length = w ∧ (256 : Int) ^ w ∣ v - leValue (leBytes w v)) ∧
  (∀ (b : Byte) (rest : List Byte), leValue (b :: rest) = b.toNat + 256 * leValue rest) ∧
  (∀ w v : Nat, natBytes w v = leBytes w v) ∧
  ([Result.accepted, .queueFull, .noContour, .contourOpen, .startMismatch, .gradeInvalid,
      .outsideWorkspace, .zeroLength, .arcMismatch, .arcTooSmall, .wrongState, .notPermitted, .locked,
      .heldByOther, .causePresent, .badLength, .unknownKind].map (BitVec.toNat ∘ Result.code) =
    List.range 17 ∧
    ([FiState.offline, .idle, .priming, .traversing, .cutNormal, .cutCrawl, .pivotEntry, .pivotCorner,
        .pivotSettle, .starved, .jog, .stopped].map fun st => (st.code, st.subMode)) =
      [(0, none), (1, none), (2, none), (3, none), (4, some 0), (4, some 1), (5, some 2), (5, some 3),
        (5, some 4), (6, none), (9, none), (10, some 6)] ∧
    (∀ r, (FiState.holding r).code = 7 ∧ (FiState.holding r).subMode = none ∧
      (FiState.holding r).resume = some r ∧ (FiState.held r).code = 8 ∧
      (FiState.held r).subMode = none ∧ (FiState.held r).resume = some r) ∧
    (∀ m, (FiState.stopping m).code = 10 ∧ (FiState.stopping m).subMode = some 5) ∧
    (∀ st : FiState, st.resume ≠ none → ∃ r, st = .holding r ∨ st = .held r) ∧
    [Resume.traversing, .cutNormal, .cutCrawl, .pivotEntry, .pivotCorner, .pivotSettle].map
      Resume.code = List.range 6 ∧
    [none, some EntryKind.traverse, some .opening, some .line, some .arc].map kindCode =
      List.range 5 ∧
    (∀ m, [JogPhase.none, .running m, .ending m].map (fun j => (j.code, j.move)) =
      [(0, none), (1, some m), (2, some m)]) ∧
    [EndCause.ended, .early, .expired, .brk, .hold, .resetCut, .fault].map EndCause.code =
      List.range 7 ∧
    [Cause.stall, .reversal, .index, .clockLoss].map Cause.code = [1, 2, 3, 4] ∧
    [Monitor.disarmed, .watching, .lost].map Monitor.code = [0, 1, 2] ∧
    [Axis.x, .y, .h].map axisCode = [0, 1, 2] ∧ [Port.job, .blade, .panel].map portCode = [0, 1, 2] ∧
    [RxPhase.idle, .start, .data, .low, .brk].map RxPhase.code = [0, 1, 2, 3, 4] ∧
    [Notice.state, .refill, .contourDone, .abandoned, .demand, .fault].map (BitVec.toNat ∘ Notice.code)
      = [0x60, 0x61, 0x62, 0x63, 0x64, 0x65]) ∧
  -- the notices and the replies
  ∀ s : State,
    (∀ k, framed k.code ((s.noticeData k).flatMap Datum.laid) (s.noticeTelegram k)) ∧
    ∀ (p : Port) (r : Request),
      let bit (b : Bool) : Nat := if b then 1 else 0
      let header := [r.result.code, BitVec.ofNat 8
        (bit r.flags.clamped + 2 * bit r.flags.inUse + 4 * bit r.flags.notHeld)]
      let reply := s.replyTelegrams p r
      let one (bytes : List Byte) : Prop :=
        ∃ t, reply = [t] ∧ framed (r.kind + 0x80) (header ++ bytes) t
      let group (fields : List Datum) : Prop := grouped (r.kind + 0x80) header fields reply;
      (∀ bytes, r.data = .fixed bytes → one bytes) ∧
      (∀ source argument, r.data = .grade source argument →
        one ((s.readGradeData source argument).flatMap Datum.laid)) ∧
      (r.data = .progress → group s.progressData) ∧ (r.data = .stroke → group s.strokeData) ∧
      (∀ part, part ≤ 6 → r.data = .status part → group (s.statusData part)) ∧
      ∀ clear, r.data = .port clear → group (s.portData p)

/-! ### Serial ports -/

/-- At the end of a character and at the end of the idle frame the transmitter begins the oldest
character of its FIFO, and otherwise rests with the line high (R181, R182).
The clock and bit counts at 0 are the model's choice (log 10), and so is that CHARACTER_SENT outside
SENDING and GUARD_END outside GUARD change nothing (log 4). -/
def Obligations.Transmitters : Prop :=
  ∀ (s : State) (p : Port), s.pins.clkin = true →
    let q := s.port p
    let begun (guard : Nat) : Transmitter :=
      { phase := if q.tx.fifo = [] then .idle else .sending, guard := guard,
        shift := q.tx.fifo.head?, bit := 0, fifo := q.tx.fifo.tail };
    (q.tx.phase = .sending →
      exec (.characterSent p) s = .next (s.setPort p { q with tx := begun q.tx.guard, txClock := 0 })) ∧
    (q.tx.phase ≠ .sending → exec (.characterSent p) s = .next s) ∧
    (q.tx.phase = .guard →
      exec (.guardEnd p) s = .next (s.setPort p { q with tx := begun 0, txClock := 0 })) ∧
    (q.tx.phase ≠ .guard → exec (.guardEnd p) s = .next s)

/-- The receiver: the verification of a start bit, which in phase IDLE needs the line high for three
samples before it, the complete character with its tags, the character of zeros that waits in phase
LOW, an overrun of a full FIFO (R173, R174, R177).
That the verification is also met in phase IDLE is the model's choice (log 27), and so are the counts
at 0 (log 10) and that START_BIT_VERIFY and RX_CHARACTER in any other phase change nothing (log 4).
-/
def Obligations.Receivers : Prop :=
  ∀ (s : State) (p : Port) (value : Byte) (mark noise : Bool), s.pins.clkin = true →
    let q := s.port p
    let rested (run : Nat) (loss : Bool) : Receiver :=
      { phase := .idle, highRun := run, index := 0, bits := [], votes := [], noise := false,
        breakTest := 0, loss := loss }
    let noisy := q.rx.noise || noise
    let stored (framing : Bool) (run : Nat) : PortState :=
      { q with
        rxFifo := q.rxFifo ++ [{ value := value, mark := mark, noise := noisy, framing := framing,
                                 loss := q.rx.loss }]
        rx := rested run false
        tallies := { q.tallies with
          noise := if noisy then min 65535 (q.tallies.noise + 1) else q.tallies.noise
          framing := if framing then min 65535 (q.tallies.framing + 1) else q.tallies.framing } }
    let lost (run : Nat) : PortState :=
      { q with rx := rested run true,
               tallies := { q.tallies with overrun := min 65535 (q.tallies.overrun + 1) } };
    (∀ s3 s5 s7, q.rx.phase = .idle ∧ q.rx.highRun = 3 ∨ q.rx.phase = .start →
      (2 ≤ [s3, s5, s7].count true →
        exec (.startBitVerify p s3 s5 s7) s = .next (s.setPort p { q with
          rx := rested 0 q.rx.loss
          tallies := { q.tallies with noise := min 65535 (q.tallies.noise + 1) } })) ∧
      ([s3, s5, s7].count true < 2 →
        exec (.startBitVerify p s3 s5 s7) s = .next (s.setPort p { q with
          rx := { q.rx with phase := .data, highRun := 0, index := 7, bits := [], votes := [],
                            noise := decide ([s3, s5, s7].count true = 1) } }))) ∧
    (∀ s3 s5 s7, q.rx.phase = .idle ∧ q.rx.highRun ≠ 3 ∨ (q.rx.phase ≠ .idle ∧ q.rx.phase ≠ .start) →
      exec (.startBitVerify p s3 s5 s7) s = .next s) ∧
    (q.rx.phase = .data →
      (q.rxFifo.length < 32 →
        exec (.rxCharacter p value mark true noise) s = .next (s.setPort p (stored false 3))) ∧
      (q.rxFifo.length < 32 → value ≠ 0 ∨ mark = true →
        exec (.rxCharacter p value mark false noise) s = .next (s.setPort p (stored true 0))) ∧
      (32 ≤ q.rxFifo.length →
        exec (.rxCharacter p value mark true noise) s = .next (s.setPort p (lost 3))) ∧
      (32 ≤ q.rxFifo.length → value ≠ 0 ∨ mark = true →
        exec (.rxCharacter p value mark false noise) s = .next (s.setPort p (lost 0))) ∧
      exec (.rxCharacter p 0 false false noise) s = .next (s.setPort p { q with
        rx := { phase := .low, highRun := 0, index := 0, bits := [], votes := [], noise := noisy,
                breakTest := 0, loss := q.rx.loss } })) ∧
    (q.rx.phase ≠ .data → ∀ stop, exec (.rxCharacter p value mark stop noise) s = .next s)

/-- The break test: the line back in phase LOW stores the character of zeros tagged FRAMING, or loses
it at a full FIFO; a break empties the receive side, keeping the completed slot, advances its tally,
and on the panel port ends a running jog; the end of the break returns the receiver to IDLE (R135,
R175 to R177). The receiver's counts at 0 are the model's choice (log 10), the high-run count at the
break too (log 30), and so is that LOW_PHASE_RETURN and BREAK outside LOW and BREAK_PHASE_END outside
BREAK change nothing (log 4). -/
def Obligations.BreakTest : Prop :=
  ∀ (s : State) (p : Port), s.pins.clkin = true →
    let q := s.port p
    let rested : Receiver :=
      { phase := .idle, highRun := 3, index := 0, bits := [], votes := [], noise := false,
        breakTest := 0, loss := false };
    (q.rx.phase = .low → q.rxFifo.length < 32 →
      exec (.lowPhaseReturn p) s = .next (s.setPort p { q with
        rxFifo := q.rxFifo ++ [{ value := 0, mark := false, noise := q.rx.noise, framing := true,
                                 loss := q.rx.loss }]
        rx := rested
        tallies := { q.tallies with
          noise := if q.rx.noise then min 65535 (q.tallies.noise + 1) else q.tallies.noise
          framing := min 65535 (q.tallies.framing + 1) } })) ∧
    (q.rx.phase = .low → 32 ≤ q.rxFifo.length →
      exec (.lowPhaseReturn p) s = .next (s.setPort p { q with
        rx := { rested with loss := true }
        tallies := { q.tallies with overrun := min 65535 (q.tallies.overrun + 1) } })) ∧
    (q.rx.phase = .low →
      ∃ t, exec (.breakFound p) s = .next t ∧
        t.port p = { q with
          rx := { rested with phase := .brk, highRun := 0 }, rxFifo := []
          asm := { q.asm with assembling := false, chars := [], damaged := false }
          tallies := { q.tallies with brk := min 65535 (q.tallies.brk + 1) } } ∧
        (∀ o, o ≠ p → t.port o = s.port o) ∧
        (∀ m, p = .panel → s.hj.phase = .running m →
          t.hj = { s.hj with phase := .ending m, endCause := some .brk }) ∧
        (p ≠ .panel ∨ s.hj.phase.code ≠ 1 → t.hj = s.hj) ∧ keptBut [.hj, .ports] s t) ∧
    (q.rx.phase ≠ .low →
      exec (.lowPhaseReturn p) s = .next s ∧ exec (.breakFound p) s = .next s) ∧
    (q.rx.phase = .brk →
      exec (.breakPhaseEnd p) s = .next (s.setPort p { q with
        rx := { rested with loss := q.rx.loss } })) ∧
    (q.rx.phase ≠ .brk → exec (.breakPhaseEnd p) s = .next s)

/-- The assembler: what it does with each character it takes, and the telegram abandoned after a gap
(R178, R180).
That GAP_EXPIRY sets the gap timer to 384 from whatever it stood at is the model's choice (log 1),
and so are the damaged mark and the gap timer at rest (log 10) and that ASSEMBLER_TAKE with a full
slot or an empty FIFO and GAP_EXPIRY in HUNTING change nothing (log 4). -/
def Obligations.Assemblers : Prop :=
  ∀ (s : State) (p : Port), s.pins.clkin = true →
    let q := s.port p
    let hunting : Assembler :=
      { assembling := false, chars := [], damaged := false, gap := 0, slot := none };
    (∀ c rest, q.asm.slot = none → q.rxFifo = c :: rest →
      let taken (asm : Assembler) : PortState := { q with rxFifo := rest, asm := asm }
      let chars := q.asm.chars ++ [c.value]
      let n := (chars.getD 1 0).toNat
      let inside := c.framing = false ∧ c.mark = false ∧ q.asm.assembling = true ∧ 2 ≤ chars.length;
      (c.framing = true →
        exec (.assemblerTake p) s = .next (s.setPort p (taken hunting))) ∧
      (c.framing = false → c.mark = true →
        exec (.assemblerTake p) s = .next (s.setPort p { q with
          rxFifo := rest
          asm := { hunting with assembling := true, chars := [c.value] }
          tallies := { q.tallies with
            gap := if q.asm.assembling then min 65535 (q.tallies.gap + 1) else q.tallies.gap } })) ∧
      (c.framing = false → c.mark = false → q.asm.assembling = false →
        exec (.assemblerTake p) s = .next (s.setPort p (taken { q.asm with gap := 0 }))) ∧
      (inside → chars.length = 2 → 20 < n →
        exec (.assemblerTake p) s = .next (s.setPort p { q with
          rxFifo := rest, asm := hunting
          tallies := { q.tallies with check := min 65535 (q.tallies.check + 1) } })) ∧
      (inside → n ≤ 20 → chars.length = n + 3 →
        exec (.assemblerTake p) s = .next (s.setPort p (taken { hunting with
          slot := if q.asm.damaged || c.loss then none else some chars }))) ∧
      (inside → n ≤ 20 → chars.length ≠ n + 3 →
        exec (.assemblerTake p) s = .next (s.setPort p (taken { q.asm with
          chars := chars, damaged := q.asm.damaged || c.loss, gap := 0 })))) ∧
    (q.asm.slot ≠ none ∨ q.rxFifo = [] → exec (.assemblerTake p) s = .next s) ∧
    (q.asm.assembling = true →
      exec (.gapExpiry p) s = .next (s.setPort p { q with
        asm := { q.asm with assembling := false, chars := [], damaged := false, gap := 384 }
        tallies := { q.tallies with gap := min 65535 (q.tallies.gap + 1) } })) ∧
    (q.asm.assembling = false → exec (.gapExpiry p) s = .next s)


/-! ### The feed period expiry -/

/-- What the millisecond tick brings in every state: the count and the phase of TB, the edge age and
the stall timer of SD, the stop timer in FAULT STOPPING, and in RUNNING the window timer, which ends
the jog with EXPIRED when it reaches W. FEED_PERIOD_EXPIRY in the states without motion is the tick
and, in every one of them but OFFLINE and FAULT STOPPED, the hand-off of the position as it stands,
which lays the schedule of each axis (R69, R98, R112, R113, R134, R135, R141, R143, R145, R156).
That a stall timer or stop timer brought to its limit leaves the step that follows due, with the
fields stallDue and stallTaken, is the model's choice (log 23), and so are the place of the window's
tick behind FI's work (log 32), slotClock's start (log 10) and that FAULT STOPPED makes no hand-off
(log 39). -/
def Obligations.ExpiryStill : Prop :=
  (∀ s : State,
    let counting := s.fi.contour.isSome && s.sd.running && !s.sd.stallTaken
    let reached := counting && decide (s.gt.settings.stallTimeout ≤ s.sd.stallTimer + 1);
    s.ticked.tb = { s.tb with ms := s.tb.ms + 1, phase := 0 } ∧
    s.ticked.sd = { s.sd with
      edgeAge := if s.sd.stallTaken then s.sd.edgeAge else min 65535 (s.sd.edgeAge + 1)
      stallTaken := false
      stallTimer := if reached then 0 else if counting then s.sd.stallTimer + 1 else s.sd.stallTimer
      stallDue := s.sd.stallDue || reached } ∧
    (∀ m, s.hj.phase = .running m → m.timer + 1 < m.window →
      s.ticked.hj = { s.hj with phase := .running { m with timer := m.timer + 1 } }) ∧
    (∀ m, s.hj.phase = .running m → m.window ≤ m.timer + 1 →
      s.ticked.hj = { s.hj with phase := .ending { m with timer := m.window }
                                endCause := some .expired }) ∧
    (s.hj.phase.code ≠ 1 → s.ticked.hj = s.hj) ∧
    (∀ m, s.fi.st = .stopping m →
      s.ticked.sv = { s.sv with stopTimer := min 100 (s.sv.stopTimer + 1) }) ∧
    ((∀ m, s.fi.st ≠ .stopping m) → s.ticked.sv = s.sv) ∧
    s.ticked.ap = { s.ap with slotClock := 0 } ∧ keptBut [.tb, .sd, .hj, .ap, .sv] s s.ticked) ∧
  ∀ s : State, s.pins.clkin = true →
    (s.fi.st = .offline ∨ s.fi.st = .stopped → exec .feedPeriodExpiry s = .next s.ticked) ∧
    (s.fi.st = .idle ∨ s.fi.st = .priming ∨ s.fi.st = .starved ∨ s.fi.st = .pivotCorner ∨
        s.fi.st = .pivotSettle ∨ (∃ r, s.fi.st = .held r) →
      ∃ t, exec .feedPeriodExpiry s = .next t ∧ t.fi = s.fi ∧ handedOff s t ∧
        keptBut [.ap] s.ticked t)

/-- One expiry inside an entry, in every state that moves along the path: the speed steps toward the
lesser of the cap and the look-ahead limit, the least over the constraint points ahead, toward 0 in
HOLDING and by the quick step in the quick stop; the advance follows with the remainder carried; the
budget cuts the advance of a cut entry and is spent by it, and with a budget of 0 v is 0; the
position and the path heading are committed, on an arc by its own mapping, from the start point
within 2 µm of the exact point and clamped, and H follows in NORMAL only. HOLDING at v 0 becomes
HELD, and the quick stop at v 0 ends in FAULT STOPPED after the hand-off, which lays the schedule of
each axis (R44, R47, R50, R60, R62, R65 to R67, R69, R72, R81, R87, R93, R94, R141, R143, R145). The
remainder at a budget of 0 is the model's reading (log
35), and the point of an arc has a free error within 2 µm (log 6), said with a billionth of a µm of
room (logs 7 and 8). -/
def Obligations.ExpiryCuts : Prop :=
  ∀ (s : State) (e : Entry), s.pins.clkin = true → s.onPath → s.fi.active = some e →
    e.kind ≠ .opening →
    let a := s.motionOn e
    let d := s.fi.done + a.whole
    let heading := pathHeading e d s.fi.heading
    let moved : Interpolator := { s.fi with
      v := a.v
      rem := a.rem
      budget := if e.isCut then s.fi.budget - a.whole else s.fi.budget
      done := d
      x := (s.pathPoint e d).x
      y := (s.pathPoint e d).y
      heading := heading
      h := s.commandedH s.fi.st heading };
    d < e.length →
    (∀ tag entry exit junction last shape, e.body = .arc tag entry exit junction last shape →
      (d = 0 → s.pathPoint e d = e.start) ∧
      (0 < d → 0 < shape.radius → ((e.start.x : Int) - shape.cx).natAbs ≤ 2 ^ 24 →
        ((e.start.y : Int) - shape.cy).natAbs ≤ 2 ^ 24 →
        nearArc e.start shape s.gt.settings.xLimit s.gt.settings.yLimit d (s.pathPoint e d))) ∧
    ∃ t, exec .feedPeriodExpiry s = .next t ∧
      ((∀ m, s.fi.st = .stopping m → a.v ≠ 0) → handedOff s t) ∧
      ((∀ r, s.fi.st ≠ .holding r) → (∀ m, s.fi.st ≠ .stopping m) →
        t.fi = moved ∧ keptBut [.fi, .ap] s.ticked t) ∧
      (∀ r, s.fi.st = .holding r →
        t.fi = { moved with st := if a.v = 0 then .held r else .holding r } ∧ stateNoticed s t ∧
          keptBut [.fi, .ap, .notices] s.ticked t) ∧
      (∀ m, s.fi.st = .stopping m →
        (a.v ≠ 0 → t.fi = moved ∧ keptBut [.fi, .ap] s.ticked t) ∧
        (a.v = 0 → stoppedAt s t moved s.cq ∧
          keptBut [.cq, .fi, .sd, .hj, .ap, .sv, .notices] s.ticked t))

/-- The end of an entry, in every state that moves along the path. A stop end sets the position exactly
to the end point with v 0: in the quick stop it ends the stop there; a TRAVERSE dispatches (R81); the
END mark ends the contour, in the order of R84; without it FI starves on an empty queue (R82), and at a
PIVOT junction takes the next entry for PIVOTING CORNER, held in HOLDING (R74, R87). A carry end at a
SMOOTH or TURN junction takes the next entry, limits the budget to its bite, enters CRAWL at a TURN,
lowers v to the new cap outside the quick stop, and carries the excess as far as the budget allows; an
excess that reaches the end of the new entry too meets the same rule again (R68, R73, R87, R93). The
expiry ends with the hand-off, which lays the schedule of each axis, and a stop end's fall of MPERMIT
discards it (R69, R141, R145).
That the budget gets back the advance a stop end or a carry end does not use is the model's reading
(log 11), and so are the cap on a cut excess (log 12), the new entry's path heading from its take
(log 13), the end point's commit with the old exit heading before a PIVOT take (log 14), the hold set
at the dispatch of a contour end (log 17), the advance at a budget of 0 (log 35) and the budget kept at
a PIVOT take (log 38). -/
def Obligations.EntryEnds : Prop :=
  ∀ (s : State) (e : Entry), s.pins.clkin = true → s.onPath → s.fi.active = some e →
    e.kind ≠ .opening → s.fi.done < e.length →
    let a := s.motionOn e
    let d := s.fi.done + a.whole
    let exit := e.exitHeading.getD s.fi.heading
    let dropped : Interpolator := { s.fi with
      x := e.stop.x, y := e.stop.y, heading := exit, h := s.commandedH s.fi.st exit, v := 0, rem := 0
      budget := if e.isCut then s.fi.budget - (e.length - s.fi.done) else s.fi.budget
      active := none, done := 0 }
    let freed : HoldSet := { s.hj.holds with slow := false, driveOff := false }
    let running := ∀ m, s.fi.st ≠ .stopping m;
    e.length ≤ d →
    -- the stop ends
    (∀ m, s.fi.st = .stopping m →
      e.kind = .traverse ∨ e.endMark = true ∨ s.cq.entries = [] ∨ s.fi.contour = none ∨
        (∃ c next rest angle, s.fi.contour = some c ∧ s.cq.entries = next :: rest ∧
          next.junction = some angle ∧ c.grade.smooth < angle.natAbs ∧
          c.grade.pivot < angle.natAbs) →
      ∃ t, exec .feedPeriodExpiry s = .next t ∧
        stoppedAt s t { dropped with active := some e } s.cq ∧
        keptBut [.cq, .fi, .sd, .hj, .ap, .sv, .notices] s.ticked t) ∧
    (running → e.kind = .traverse →
      ∃ t, exec .feedPeriodExpiry s = .next t ∧ handedOff s t ∧
        t.fi = (s.dispatched s.hj.holds dropped).1 ∧
        t.cq = { s.cq with entries := (s.dispatched s.hj.holds dropped).2 } ∧ stateNoticed s t ∧
        demandNoticed s t ∧ refillNoticed s t ∧ keptBut [.cq, .fi, .ap, .notices] s.ticked t) ∧
    (∀ c, running → e.endMark = true → s.fi.contour = some c →
      let closed : Interpolator := { dropped with
        contour := none, contours := s.fi.contours + 1, doneTag := c.tag
        doneStrokes := s.fi.strokes, demand := s.demandOf none s.cq.entries }
      let next := if s.fi.pauseAfter then
          ({ closed with st := .idle, runEnable := false, pauseAfter := false }, s.cq.entries)
        else s.dispatched freed closed
      ∃ t, exec .feedPeriodExpiry s = .next t ∧ handedOff s t ∧ t.fi = next.1 ∧
        t.cq = { s.cq with entries := next.2 } ∧
        (t.port .job).notices.has .contourDone = true ∧
        (t.port .panel).notices.has .contourDone = true ∧ stateNoticed s t ∧
        demandNoticed s t ∧ refillNoticed s t ∧ t.hj = { s.ticked.hj with holds := freed } ∧
        t.sd = { s.ticked.sd with slow := false, clearing := 0 } ∧
        keptBut [.cq, .fi, .sd, .hj, .ap, .notices] s.ticked t) ∧
    (running → e.isCut = true → e.endMark = false → s.cq.entries = [] →
      ∃ t, exec .feedPeriodExpiry s = .next t ∧ handedOff s t ∧
        t.fi = { dropped with st := .starved, starves := min 65535 (s.fi.starves + 1) } ∧
        stateNoticed s t ∧ keptBut [.fi, .ap, .notices] s.ticked t) ∧
    (∀ c next rest angle, running → e.isCut = true → e.endMark = false → s.fi.contour = some c →
      s.cq.entries = next :: rest → next.junction = some angle →
      c.grade.smooth < angle.natAbs → c.grade.pivot < angle.natAbs →
      ∃ t, exec .feedPeriodExpiry s = .next t ∧ handedOff s t ∧
        t.fi = { dropped with
          st := match s.fi.st with
            | .holding _ => .held .pivotCorner
            | _ => .pivotCorner
          active := some next, heading := next.entryHeading.getD exit
          demand := s.demandOf s.fi.contour rest } ∧
        t.cq = { s.cq with entries := rest } ∧ stateNoticed s t ∧ demandNoticed s t ∧
        refillNoticed s t ∧ keptBut [.cq, .fi, .ap, .notices] s.ticked t) ∧
    -- the carry ends
    (∀ c next rest angle, e.isCut = true → e.endMark = false → s.fi.contour = some c →
      s.cq.entries = next :: rest → next.junction = some angle →
      angle.natAbs ≤ c.grade.smooth ∨ angle.natAbs ≤ c.grade.pivot →
      let st := if angle.natAbs ≤ c.grade.smooth then s.fi.st else crawlingState s.fi.st
      let lowered (v : Nat) : Nat := if s.fi.st.isFault then v else min v (s.capFor st (some next))
      let excess := d - e.length
      let granted := min (s.fi.budget - a.whole + excess) (biteOf c.grade next)
      let carried := min excess granted
      let whole := a.whole - (excess - carried)
      let taken : Interpolator := { s.fi with
        st := st
        v := if carried < excess then lowered (whole * 1000) else lowered a.v
        rem := if carried < excess then 0 else a.rem
        budget := granted - carried
        active := some next
        done := carried
        heading := next.entryHeading.getD s.fi.heading
        demand := s.demandOf s.fi.contour rest }
      let heading := pathHeading next carried s.fi.heading
      let moved : Interpolator := { taken with
        x := (s.pathPoint next carried).x, y := (s.pathPoint next carried).y, heading := heading
        h := s.commandedH st heading };
      (carried < next.length →
        ∃ t, exec .feedPeriodExpiry s = .next t ∧
          ((∀ m, s.fi.st = .stopping m → moved.v ≠ 0) → handedOff s t) ∧
          (rest.length = s.cq.refill → (t.port .job).notices.has .refill = true) ∧
          (moved.v ≠ 0 ∨ s.fi.st = .cutNormal ∨ s.fi.st = .cutCrawl ∨ s.fi.st = .traversing →
            t.fi = moved ∧ t.cq = { s.cq with entries := rest } ∧ stateNoticed s t ∧
              demandNoticed s t ∧ keptBut [.cq, .fi, .ap, .notices] s.ticked t) ∧
          (∀ r, moved.v = 0 → st = .holding r →
            t.fi = { moved with st := .held r } ∧ t.cq = { s.cq with entries := rest } ∧
              stateNoticed s t ∧ keptBut [.cq, .fi, .ap, .notices] s.ticked t) ∧
          (∀ m, moved.v = 0 → s.fi.st = .stopping m →
            stoppedAt s t moved { s.cq with entries := rest } ∧ demandNoticed s t ∧
              keptBut [.cq, .fi, .sd, .hj, .ap, .sv, .notices] s.ticked t)) ∧
      (next.length ≤ carried →
        ∃ u, s.tick.move = u.runEnds (rest.length + 1) whole ∧ u.fi = taken ∧
          u.cq = { s.cq with entries := rest } ∧ keptBut [.cq, .fi, .notices] s.tick u ∧
          ∃ t, exec .feedPeriodExpiry s = .next t ∧
            t.ap = if t.fi.st = .stopped then (s.handedTo t.fi).fallen s.sv.permit
              else s.handedTo t.fi))

/-- PIVOTING ENTRY turns H by at most the free slew rate at each expiry; the step that brings it onto
the target takes the head entry and starts cutting with the lesser of the budget and its bite, and the
hand-off lays the schedule of each axis (R52, R80, R141, R143, R145).
That the path heading is the entry's own from its take is the model's reading of the progress record
(log 13, R95). -/
def Obligations.EntrySlew : Prop :=
  ∀ (s : State) (c : Contour), s.pins.clkin = true → s.fi.st = .pivotEntry →
    s.fi.contour = some c →
    (∀ e rest heading, s.cq.entries = e :: rest → e.isCut = true → e.entryHeading = some heading →
      let target := (heading + c.offset) % 36000
      let turned := turnStep target s.fi.h s.gt.settings.slewH;
      (turned ≠ target →
        ∃ t, exec .feedPeriodExpiry s = .next t ∧ t.fi = { s.fi with h := turned } ∧
          handedOff s t ∧ keptBut [.fi, .ap] s.ticked t) ∧
      (turned = target →
        ∃ t, exec .feedPeriodExpiry s = .next t ∧
          t.fi = { s.fi with st := .cutNormal, h := target, active := some e, done := 0
                             heading := heading, budget := min s.fi.budget (biteOf c.grade e)
                             demand := s.demandOf s.fi.contour rest } ∧
          t.cq = { s.cq with entries := rest } ∧ pendingAll t .state ∧ demandNoticed s t ∧
          refillNoticed s t ∧
          handedOff s t ∧ keptBut [.cq, .fi, .ap, .notices] s.ticked t)) ∧
    (s.cq.entries = [] →
      ∃ t, exec .feedPeriodExpiry s = .next t ∧ t.fi = s.fi ∧ handedOff s t ∧
        keptBut [.ap] s.ticked t)

/-! ### Dispatch, OPEN, STARVED -/

/-- FI leaves IDLE with run-enable set, an empty hold-reason set and an entry queued: to PRIMING at
an OPEN, taking a TRAVERSE to TRAVERSING; otherwise nothing happens (R15, R77).
That the path heading is the TRAVERSE's from its take is the model's reading (log 13, with R81 and
R95); that DISPATCH in another state is no event is its choice (log 4). -/
def Obligations.Dispatch : Prop :=
  ∀ s : State, s.pins.clkin = true →
    (s.fi.st ≠ .idle ∨ (s.fi.v = 0 ∧
        (s.fi.runEnable = false ∨ s.hj.holds.any = true ∨ s.cq.entries = [])) →
      exec .dispatch s = .next s) ∧
    (∀ e rest, s.fi.st = .idle → s.fi.runEnable = true → s.hj.holds.any = false →
      s.cq.entries = e :: rest →
      (e.kind = .opening →
        ∃ t, exec .dispatch s = .next t ∧ t.fi = { s.fi with st := .priming, v := 0 } ∧
          pendingAll t .state ∧ keptBut [.fi, .notices] s t) ∧
      (e.kind = .traverse →
        ∃ t, exec .dispatch s = .next t ∧
          t.fi = { s.fi with st := .traversing, v := 0, active := some e, done := 0
                             heading := e.entryHeading.getD s.fi.heading
                             demand := s.demandOf s.fi.contour rest } ∧
          t.cq = { s.cq with entries := rest } ∧ pendingAll t .state ∧ demandNoticed s t ∧
          refillNoticed s t ∧
          keptBut [.cq, .fi, .notices] s t))

/-- FI takes the OPEN from PRIMING when the prime condition holds, the blade runs with a usable
period, no hold reason is present and run-enable is set; it latches the grade record with the target,
the offset and the tag, and enters PIVOTING ENTRY. A blade already overdue raises SLOW, and FI is
HELD. With any condition missing nothing happens (R18, R19, R59, R78, R79, R112, R114, R116). -/
def Obligations.OpenTake : Prop :=
  ∀ (s : State) (e : Entry) (rest : List Entry) (g target : Nat) (tag : Word16) (r : Grade),
    s.pins.clkin = true → s.cq.entries = e :: rest → e.body = .opening g target tag →
    s.gt.grades[g]? = some (some r) →
    let primed := s.cq.prime ≤ s.cq.entries.length ∨ ∃ q ∈ s.cq.entries, q.endMark = true
    let usable := ∃ p, s.sd.period = some p ∧ p ≤ 50000
    let taken : Interpolator := { s.fi with
      v := 0, active := some e, done := 0, strokes := 0
      contour := some { index := g, grade := r, fTarget := target, offset := s.gt.offset, tag := tag }
      demand := strokeDemand r (target * s.hj.override / 100) };
    (s.fi.st = .priming → primed → s.sd.running = true → usable → s.hj.holds.any = false →
      s.fi.runEnable = true →
      (s.sd.indexAge * r.minSpm ≤ 60000000 →
        ∃ t, exec .openTake s = .next t ∧ t.fi = { taken with st := .pivotEntry } ∧
          t.sd = { s.sd with stallTimer := 0, slow := false, clearing := 0 } ∧ t.hj = s.hj ∧
          t.cq = { s.cq with entries := rest } ∧ pendingAll t .state ∧ demandNoticed s t ∧
          refillNoticed s t ∧
          keptBut [.cq, .fi, .sd, .notices] s t) ∧
      (60000000 < s.sd.indexAge * r.minSpm →
        ∃ t, exec .openTake s = .next t ∧ t.fi = { taken with st := .held .pivotEntry } ∧
          t.sd = { s.sd with stallTimer := 0, slow := true, clearing := 0 } ∧
          t.hj = { s.hj with holds := { s.hj.holds with slow := true } } ∧
          t.cq = { s.cq with entries := rest } ∧ pendingAll t .state ∧ demandNoticed s t ∧
          refillNoticed s t ∧
          keptBut [.cq, .fi, .sd, .hj, .notices] s t)) ∧
    (s.fi.st ≠ .priming ∨ ¬ primed ∨ s.sd.running = false ∨ ¬ usable ∨ s.hj.holds.any = true ∨
        s.fi.runEnable = false →
      exec .openTake s = .next s)

/-- FI leaves STARVED when the prime condition holds and no hold reason is present: the head entry
becomes active with the lesser of the budget and its bite, and its junction class decides where FI goes
on; otherwise nothing happens (R83).
That SMOOTH compares H with the path heading at which FI starved is the model's choice (log 13). -/
def Obligations.StarvedResume : Prop :=
  ∀ (s : State) (c : Contour) (e : Entry) (rest : List Entry) (heading : Nat),
    s.pins.clkin = true → s.fi.contour = some c → s.cq.entries = e :: rest → e.isCut = true →
    e.entryHeading = some heading → s.fi.v = 0 →
    let primed := s.cq.prime ≤ s.cq.entries.length ∨ ∃ q ∈ s.cq.entries, q.endMark = true;
    (s.fi.st = .starved → primed → s.hj.holds.any = false →
      ∃ t, exec .starvedResume s = .next t ∧
        t.fi = { s.fi with st := t.fi.st, active := some e, done := 0, heading := heading
                           budget := min s.fi.budget (biteOf c.grade e)
                           demand := s.demandOf s.fi.contour rest } ∧
        (classify c.grade e.junction = .pivot → t.fi.st = .pivotCorner) ∧
        (classify c.grade e.junction = .turn → t.fi.st = .cutCrawl) ∧
        (classify c.grade e.junction = .smooth → t.fi.st =
          if s.fi.h = (s.fi.heading + c.offset) % 36000 then .cutNormal else .cutCrawl) ∧
        t.cq = { s.cq with entries := rest } ∧ pendingAll t .state ∧ demandNoticed s t ∧
        refillNoticed s t ∧
        keptBut [.cq, .fi, .notices] s t) ∧
    (s.fi.st ≠ .starved ∨ ¬ primed ∨ s.hj.holds.any = true →
      exec .starvedResume s = .next s)

/-! ### The crank -/

/-- One quadrature edge. Which way it counts follows the setting and the line that moved; a count
moves the crank and since-index counts and the back run, and restarts the edge age and the stall
timer. A second missing index reports INDEX and eight back counts report REVERSAL outside OFFLINE, as
the first fault or as a further one; both lines moving together is only a quadrature error (R104,
R105, R109, R112, R113, R152, R155).
That the command sets the pin's filter is the model's choice (log 26), and so is that a STALL a tick
has brought stays due (log 23). -/
def Obligations.CrankEdges : Prop :=
  ∀ (s : State) (onA : Bool), s.pins.clkin = true →
    let a := if onA then !s.sd.ca.filtered else s.sd.ca.filtered
    let b := if onA then s.sd.cb.filtered else !s.sd.cb.filtered
    let aLeadsForward := if onA then decide (a ≠ b) else decide (a = b)
    let forward := if s.gt.settings.bLeads then !aLeadsForward else aLeadsForward
    let sampled : Decoder := { s.sd with
      ca := if onA then { raw := a, filtered := a, run := 0 } else s.sd.ca
      cb := if onA then s.sd.cb else { raw := b, filtered := b, run := 0 }
      edgeAge := 0, stallTimer := 0 }
    let missing : Decoder := { sampled with
      crank := s.sd.crank + 1, sinceIndex := 3, backRun := 0, startPresent := false, clearing := 0
      missingTally := min 65535 (s.sd.missingTally + 1) }
    let back : Decoder := { sampled with
      crank := s.sd.crank - 1
      sinceIndex := if s.sd.sinceIndex = -32768 then -32768 else s.sd.sinceIndex - 1 }
    let reports (t : State) (d : Decoder) (c : Cause) : Prop :=
      (s.fi.st = .offline → t.sd = d ∧ keptBut [.pins, .sd] s t) ∧
        (s.fi.st ≠ .offline → s.sv.record.isSome = true →
          t.sd = d ∧ furtherFault s t ∧ keptBut [.pins, .sd, .sv] s t) ∧
        (s.fi.st ≠ .offline → s.sv.record = none →
          firstFault s t d c ∧ keptBut [.pins, .cq, .fi, .sd, .hj, .ap, .sv, .notices] s t);
    (forward = true → s.sd.sinceIndex ≠ 258 →
      ∃ t, exec (.crankEdge onA !onA) s = .next t ∧
        t.sd = { sampled with crank := s.sd.crank + 1, sinceIndex := s.sd.sinceIndex + 1
                              backRun := 0 } ∧ keptBut [.pins, .sd] s t) ∧
    (forward = true → s.sd.sinceIndex = 258 → s.sd.missingRun ≠ 1 →
      ∃ t, exec (.crankEdge onA !onA) s = .next t ∧
        t.sd = { missing with missingRun := s.sd.missingRun + 1 } ∧ keptBut [.pins, .sd] s t) ∧
    (forward = true → s.sd.sinceIndex = 258 → s.sd.missingRun = 1 →
      ∃ t, exec (.crankEdge onA !onA) s = .next t ∧
        reports t { missing with missingRun := 0 } .index) ∧
    (forward = false → s.sd.backRun ≠ 7 →
      ∃ t, exec (.crankEdge onA !onA) s = .next t ∧
        t.sd = { back with backRun := s.sd.backRun + 1 } ∧ keptBut [.pins, .sd] s t) ∧
    (forward = false → s.sd.backRun = 7 →
      ∃ t, exec (.crankEdge onA !onA) s = .next t ∧ reports t { back with backRun := 0 } .reversal) ∧
    (∃ t, exec (.crankEdge true true) s = .next t ∧
      t.sd = { s.sd with
        ca := { raw := !s.sd.ca.filtered, filtered := !s.sd.ca.filtered, run := 0 }
        cb := { raw := !s.sd.cb.filtered, filtered := !s.sd.cb.filtered, run := 0 }
        quadTally := min 65535 (s.sd.quadTally + 1), edgeAge := 0, stallTimer := 0 } ∧
      keptBut [.pins, .sd] s t)

/-- A valid index in every state: the decoder's counts and the period where one is measured. Outside
a contour FI only takes the new cap, and SLOW stays. In a contour the stroke is counted; with a
period the budget is refreshed to the bite of the active cut entry, or of the cut entry at the head
in PIVOTING ENTRY, held or not, and in STARVED; v takes the new cap; H turns in CRAWL, whichever
state it stands in, in CORNER and in STARVED, and SETTLE counts. A rate below the grade's minimum
raises SLOW, a second qualifying index in a row clears it, and FI reacts as to any hold reason (R52,
R65, R70, R71, R73 to R75, R82, R86, R88, R89, R93, R106, R107, R114, R115, R119, R122).
That CRANK_INDEX is a rise of CZ whose filter the command sets is the model's choice (log 26), and so
are a period of at least 1 µs (log 21), the heading of a turn in STARVED (log 13), a resume state
that turns NORMAL (log 15), and FI's stay in HOLDING where the new period brings the cap and v to 0
(log 42, with R87 and section 8.8). -/
def Obligations.ValidIndex : Prop :=
  ∀ s : State, s.pins.clkin = true → s.sd.crank.toNat ≤ 2 ∨ 254 ≤ s.sd.crank.toNat →
    (s.fi.st.still = true → s.fi.v = 0) →
    let measured := if s.sd.startPresent then some (max 1 s.sd.indexAge) else none
    let counted : Decoder := { s.sd with
      cz := { raw := true, filtered := true, run := 0 }
      crank := 0, sinceIndex := 0, strokeTotal := s.sd.strokeTotal + 1
      period := measured.orElse fun _ => s.sd.period
      indexAge := 0, startPresent := true, slipRun := 0, missingRun := 0 }
    let capped : Nat :=
      if s.fi.st.capped then
        min s.fi.v (({ s with sd := counted } : State).capFor s.fi.st s.fi.active)
      else s.fi.v
    ∃ t, exec .crankIndex s = .next t ∧ t.pins = { s.pins with cz := true } ∧
      (s.fi.contour = none →
        t.sd = counted ∧ t.fi = { s.fi with v := capped } ∧ keptBut [.pins, .fi, .sd] s t) ∧
      (∀ c, s.fi.contour = some c →
        let headEntry := s.fi.st = .pivotEntry ∨ s.fi.st = .held .pivotEntry ∨ s.fi.st = .starved
        let biteEntry := if s.fi.active.any Entry.isCut then s.fi.active
          else if headEntry then s.cq.entries.head?.filter Entry.isCut else none
        let struck : Interpolator := { s.fi with
          strokes := s.fi.strokes + 1
          v := capped
          budget := match measured, biteEntry with
            | some _, some e => biteOf c.grade e
            | _, _ => s.fi.budget }
        let target (heading : Nat) : Nat := (heading + c.offset) % 36000
        let toward (heading : Nat) : Nat := turnStep (target heading) s.fi.h c.grade.turn
        let crawled (normal : FiState) : Interpolator := { struck with
          h := toward s.fi.heading
          st := if toward s.fi.heading = target s.fi.heading then normal else s.fi.st }
        let turned : Interpolator := match s.fi.st with
          | .cutCrawl => crawled .cutNormal
          | .holding .cutCrawl => crawled (.holding .cutNormal)
          | .stopping .cutCrawl => crawled (.stopping .cutNormal)
          | .starved => { struck with h := toward s.fi.heading }
          | .pivotCorner =>
            match s.fi.active.bind Entry.entryHeading with
            | none => struck
            | some heading =>
              if toward heading ≠ target heading then { struck with h := toward heading }
              else if c.grade.settle = 0 then
                { struck with h := target heading, st := .cutNormal }
              else { struck with h := target heading, st := .pivotSettle, settle := 0 }
          | .pivotSettle => { struck with
              settle := s.fi.settle + 1
              st := if c.grade.settle ≤ s.fi.settle + 1 then .cutNormal else .pivotSettle }
          | _ => struck
        let evaluated : Bool × Nat := match measured with
          | none => (s.sd.slow, 0)
          | some p =>
            if min 65535 (60000000 / p) < c.grade.minSpm then (true, 0)
            else if s.sd.slow = true ∧ 1 ≤ s.sd.clearing then (false, 0)
            else (s.sd.slow, min 2 (s.sd.clearing + 1))
        let holds : HoldSet :=
          if evaluated.1 = s.sd.slow then s.hj.holds else { s.hj.holds with slow := evaluated.1 }
        t.sd = { counted with slow := evaluated.1, clearing := evaluated.2 } ∧
          t.hj = { s.hj with holds := holds } ∧ t.fi = reactedFi s.hj.holds holds turned ∧
          (holds ≠ s.hj.holds → pendingAll t .state) ∧ stateNoticed s t ∧
          keptBut [.pins, .fi, .sd, .hj, .notices] s t)

/-- A slip counts no stroke and keeps FI as it is; the third one in a row reports INDEX outside
OFFLINE, as the first fault or as a further one (R70, R108, R152, R155).
That CRANK_INDEX is a rise of CZ whose filter the command sets is the model's choice (log 26). -/
def Obligations.SlipIndex : Prop :=
  ∀ s : State, s.pins.clkin = true → 3 ≤ s.sd.crank.toNat → s.sd.crank.toNat ≤ 253 →
    let slipped : Decoder := { s.sd with
      cz := { raw := true, filtered := true, run := 0 }
      crank := 0, sinceIndex := 0, slipTally := min 65535 (s.sd.slipTally + 1)
      startPresent := false, clearing := 0 };
    (s.sd.slipRun ≠ 2 →
      ∃ t, exec .crankIndex s = .next t ∧ t.sd = { slipped with slipRun := s.sd.slipRun + 1 } ∧
        keptBut [.pins, .sd] s t) ∧
    (s.sd.slipRun = 2 → s.fi.st = .offline →
      ∃ t, exec .crankIndex s = .next t ∧ t.sd = { slipped with slipRun := 0 } ∧
        keptBut [.pins, .sd] s t) ∧
    (s.sd.slipRun = 2 → s.fi.st ≠ .offline → s.sv.record.isSome = true →
      ∃ t, exec .crankIndex s = .next t ∧ t.sd = { slipped with slipRun := 0 } ∧
        furtherFault s t ∧ keptBut [.pins, .sd, .sv] s t) ∧
    (s.sd.slipRun = 2 → s.fi.st ≠ .offline → s.sv.record = none →
      ∃ t, exec .crankIndex s = .next t ∧
        firstFault s t { slipped with slipRun := 0 } .index ∧
        keptBut [.pins, .cq, .fi, .sd, .hj, .ap, .sv, .notices] s t)

/-! ### Blade monitors and supervision -/

/-- SLOW_OVERDUE raises SLOW for an active contour: HJ adds the reason, and FI reacts as to any; with
SLOW already raised only the clearing run restarts, and without a contour nothing happens (R86, R114,
R119, R122). STALL_TIMEOUT reports the STALL a tick has brought, or, with the monitor active, the one
its own tick brings: the first fault fills the record from the state as it stands and starts the
quick stop, and a further one only advances its count; with neither, nothing happens (R93, R94, R112,
R113, R152 to R155).
That the commands bring the index age, the stall timer and the edge age to their thresholds is the
model's choice (log 1), and so are that a STALL a tick has brought is reported whatever has happened
since and that the command is the tick where none has (log 23). -/
def Obligations.BladeMonitors : Prop :=
  ∀ s : State, s.pins.clkin = true →
    let active := s.fi.contour.isSome = true ∧ s.sd.running = true
    let taken : Decoder := if s.sd.stallDue then { s.sd with stallDue := false }
      else { s.sd with
        stallTimer := 0, stallTaken := true
        edgeAge := max (min 65535 (s.sd.edgeAge + 1)) s.gt.settings.stallTimeout };
    (s.fi.contour = none → exec .slowOverdue s = .next s) ∧
    (∀ c, s.fi.contour = some c → s.sd.slow = true →
      ∃ t, exec .slowOverdue s = .next t ∧
        t.sd = { s.sd with clearing := 0, indexAge := t.sd.indexAge } ∧
        s.sd.indexAge ≤ t.sd.indexAge ∧ keptBut [.sd] s t) ∧
    (∀ c, s.fi.contour = some c → s.sd.slow = false →
      ∃ t, exec .slowOverdue s = .next t ∧
        t.sd = { s.sd with slow := true, clearing := 0, indexAge := t.sd.indexAge } ∧
        s.sd.indexAge ≤ t.sd.indexAge ∧
        (0 < c.grade.minSpm → 60000000 < t.sd.indexAge * c.grade.minSpm) ∧
        t.hj = { s.hj with holds := { s.hj.holds with slow := true } } ∧
        t.fi = reactedFi s.hj.holds t.hj.holds s.fi ∧
        (s.hj.holds.slow = false → pendingAll t .state) ∧ keptBut [.fi, .sd, .hj, .notices] s t) ∧
    (s.sd.stallDue = false → ¬ active → exec .stallTimeout s = .next s) ∧
    (s.sd.stallDue = true ∨ active → s.sv.record.isSome = true →
      ∃ t, exec .stallTimeout s = .next t ∧ t.sd = taken ∧ furtherFault s t ∧
        keptBut [.sd, .sv] s t) ∧
    (s.sd.stallDue = true ∨ active → s.sv.record = none →
      ∃ t, exec .stallTimeout s = .next t ∧
        firstFault s t taken .stall ∧ keptBut [.cq, .fi, .sd, .hj, .ap, .sv, .notices] s t)

/-- The stop limit ends the quick stop where the last commit left it: FAULT STOPPED with v 0, MPERMIT
low with what is owed discarded, the queue flushed and the contour released; outside STOPPING nothing
happens. DEMAND is pending where D has changed (R20, R59, R94, R119, R145, R156, R157).
That the command brings the stop timer to 100 is the model's choice (log 1). -/
def Obligations.StopLimit : Prop :=
  ∀ s : State, s.pins.clkin = true →
    ((∀ m, s.fi.st ≠ .stopping m) → exec .stopLimitExpiry s = .next s) ∧
    (∀ m, s.fi.st = .stopping m →
      ∃ t, exec .stopLimitExpiry s = .next t ∧
        stoppedFrom { s with sv := { s.sv with stopTimer := 100 } } t ∧
        keptBut [.fi, .cq, .sd, .hj, .ap, .sv, .notices] s t)

/-- The monitor in WATCHING finds the loss of CLKIN: LOST, MPERMIT and every STEP line low, the tally
advanced, the commanded state untouched. At the return SV goes back to WATCHING; outside OFFLINE and
FAULT it records CLOCK_LOSS, a running jog has ended with FAULT, and FI is in FAULT STOPPED at once; in
FAULT it counts a further fault, and a quick stop ends at once; with the monitor not LOST the part just
goes on (R94, R135, R145, R149, R155, R161 to R163).
That the finding brings the missed count to 4 is the model's choice (log 1), and so are that the edge of
a return in WATCHING clears that count at once (log 30), that a pulse is un-counted only while the
permit is HIGH (log 24), after a step size write too (log 45), and that CLOCK_LOSS_FOUND outside
WATCHING, LOST included, changes nothing (log 4). -/
def Obligations.ClockLossAndReturn : Prop :=
  ∀ s : State,
    (s.sv.monitor ≠ .watching → exec .clockLossFound s = .next s) ∧
    (s.sv.monitor = .watching →
      ∃ t, exec .clockLossFound s = .next t ∧ t.pins = { s.pins with clkin := false } ∧
        t.sv = { s.sv with monitor := .lost, missed := 4,
                           clockLosses := min 65535 (s.sv.clockLosses + 1) } ∧
        t.mpermit = false ∧ (∀ axis, (t.ap.axis axis).step = false ∧
          (t.ap.axis axis).target = (s.ap.axis axis).target ∧
          (t.ap.axis axis).dir = (s.ap.axis axis).dir ∧
          ((s.ap.axis axis).step = false → t.ap.axis axis = s.ap.axis axis) ∧
          ((s.ap.axis axis).step = true → s.sv.permit = true → (t.ap.axis axis).output =
            (s.ap.axis axis).output + if (s.ap.axis axis).dir then -1 else 1)) ∧
        keptBut [.pins, .ap, .sv] s t) ∧
    (s.sv.monitor ≠ .lost → exec .clockReturn s = .next
      { s with pins := { s.pins with clkin := true }, sv := { s.sv with missed := 0 } }) ∧
    (s.sv.monitor = .lost → s.fi.st = .offline → s.sv.permit = false →
      exec .clockReturn s = .next { s with
        pins := { s.pins with clkin := true }
        sv := { s.sv with missed := 0, monitor := .watching } }) ∧
    (s.sv.monitor = .lost → s.fi.st ≠ .offline → s.fi.st.isFault = false → s.sv.record = none →
      ∃ t, exec .clockReturn s = .next t ∧
        stoppedFrom { s with
          hj := s.hj.faulted
          sv := { s.sv with record := some (s.recordOf .clockLoss), monitor := .watching, missed := 0
                            stopTimer := 0 } } t ∧ pendingAll t .fault ∧
        t.pins = { s.pins with clkin := true } ∧
        keptBut [.pins, .cq, .fi, .sd, .hj, .ap, .sv, .notices] s t) ∧
    (∀ m, s.sv.monitor = .lost → s.fi.st = .stopping m →
      ∃ t, exec .clockReturn s = .next t ∧
        stoppedFrom { s with
          hj := s.hj.faulted
          sv := { s.sv with monitor := .watching, missed := 0
                            further := min 65535 (s.sv.further + 1) } } t ∧
        t.pins = { s.pins with clkin := true } ∧
        keptBut [.pins, .cq, .fi, .sd, .hj, .ap, .sv, .notices] s t) ∧
    (s.sv.monitor = .lost → s.fi.st = .stopped → s.sv.permit = false →
      exec .clockReturn s = .next { s with
        pins := { s.pins with clkin := true }
        sv := { s.sv with missed := 0, monitor := .watching,
                          further := min 65535 (s.sv.further + 1) } })

/-! ### Axis outputs -/

/-- STEP_SLOT raises the axis's STEP for the next step laid and moves its output count by one in the
period's direction; with MPERMIT low, or nothing left, nothing happens (R142, R143, R145). -/
def Obligations.StepSlot : Prop :=
  ∀ (s : State) (axis : Axis), s.pins.clkin = true →
    let a := s.ap.axis axis;
    (s.mpermit = false ∨ a.laid ≤ a.emitted → exec (.stepSlot axis) s = .next s) ∧
    (s.mpermit = true → a.emitted < a.laid →
      ∃ t, exec (.stepSlot axis) s = .next t ∧
        t.ap.axis axis = { a with step := true, emitted := a.emitted + 1
                                  output := a.output + if a.dir then 1 else -1 } ∧
        (∀ b, b ≠ axis → t.ap.axis b = s.ap.axis b) ∧ t.ap.unwrapped = s.ap.unwrapped ∧
        t.ap.lastH = s.ap.lastH ∧ t.ap.slotClock = s.ap.slotClock ∧ keptBut [.ap] s t)

/-- A hand-off with MPERMIT high owes the difference of target and output, lays at most 500 steps of it
and turns DIR only when it lays one; emitting the schedule brings the output to the target, or 500
steps nearer. Its slots rise at distinct odd microseconds up to 999. With MPERMIT low nothing is owed
(R141 to R143, R145). -/
def Obligations.HandOff : Prop :=
  ∀ (a : AxisOut) (target : Int),
    let b := a.handOff target true
    let run : AxisOut := Nat.repeat (fun o => o.emit true) b.laid b
    let owed := target - a.output
    let low := a.handOff target false;
    (b.target = target ∧ b.output = a.output ∧ b.laid = min owed.natAbs 500 ∧ b.emitted = 0 ∧
      b.drop = a.drop ∧ (owed = 0 → b.dir = a.dir) ∧ (0 < owed → b.dir = true) ∧
      (owed < 0 → b.dir = false) ∧ (owed.natAbs ≤ 500 → b.backlog = a.backlog) ∧
      (500 < owed.natAbs → b.backlog = min 65535 (a.backlog + 1))) ∧
    (owed.natAbs ≤ 500 → run.output = target) ∧ (500 < owed → run.output = a.output + 500) ∧
    (owed < -500 → run.output = a.output - 500) ∧
    (∀ i, i < b.laid → slotOffset b.laid i % 2 = 1 ∧ slotOffset b.laid i ≤ 999 ∧
      ∀ j, j < i → slotOffset b.laid j + 2 ≤ slotOffset b.laid i) ∧
    (low.target = target ∧ low.output = target ∧ low.laid = 0 ∧ low.dir = a.dir ∧
      low.drop = a.drop ∧ low.step = false)

/-! ### Path arithmetic -/

/-- A turn step toward a target turns the short way by at most `m` and leaves exactly the rest of the
turn, with its sign; a half turn goes counter-clockwise (R42, R52). -/
def Obligations.TurnSteps : Prop :=
  ∀ (target h m : Nat), target < 36000 → h < 36000 →
    let before := normalise ((target : Int) - h)
    let after := normalise ((target : Int) - turnStep target h m);
    turnStep target h m < 36000 ∧
    (before.natAbs ≤ m → turnStep target h m = target) ∧
    (m < before.natAbs → 0 < before → after = before - m) ∧
    (m < before.natAbs → before < 0 → after = before + m) ∧
    ((target + 36000 - h) % 36000 = 18000 → m < 18000 → turnStep target h m = (h + m) % 36000)

/-- A heading is reduced modulo 36,000 into 0..35,999, and a difference is normalised into
−17,999..+18,000, a half-turn always to +18,000 (R42). -/
def Obligations.HeadingReductions : Prop :=
  ∀ d : Int,
    (reduceHeading d < 36000 ∧ (36000 : Int) ∣ d - reduceHeading d) ∧
    (-17999 ≤ normalise d ∧ normalise d ≤ 18000 ∧ (36000 : Int) ∣ d - normalise d) ∧
    ((36000 : Int) ∣ d → reduceHeading d = 0) ∧
    ((36000 : Int) ∣ d - 18000 → normalise d = 18000) ∧ (normalise d).natAbs ≤ 18000

/-- The three statements of R61 are equivalent: the speed is at most the floor of the root, its square
is at most what is under the root, and the braking distance is at most the distance. -/
def Obligations.BrakingDistance : Prop :=
  ∀ (a v vj d : Nat), 0 < a → vj ≤ v →
    (v ≤ constraintSpeed a vj d ↔ v ^ 2 ≤ vj ^ 2 + 2 * a * d) ∧
    (v ^ 2 ≤ vj ^ 2 + 2 * a * d ↔ ((v : ℚ) ^ 2 - (vj : ℚ) ^ 2) / (2 * a) ≤ d)

/-- The roots and roundings of R41: the floor of a root, the rounded root, and the nearest whole
number of a quotient with an exact half up. The heading of a vector is reduced, exact along the axes,
0 for a vector of no length, and otherwise within half a hundredth of a degree of the vector's angle;
the length and the heading of a line are those of its vector (R43 to R45).
The billionth of a hundredth beside the half is room for the fixed point of the model's sines; that
it still rounds correctly there is the model's reading (log 8). -/
def Obligations.Roundings : Prop :=
  (∀ n, isqrt n ^ 2 ≤ n ∧ n < (isqrt n + 1) ^ 2) ∧
  (∀ n, 0 < n → ((rootRound n : ℚ) - 1 / 2) ^ 2 ≤ n ∧ (n : ℚ) < ((rootRound n : ℚ) + 1 / 2) ^ 2) ∧
  rootRound 0 = 0 ∧
  (∀ (num : Int) (den : Nat), 0 < den →
    (roundDiv num den : ℚ) - 1 / 2 ≤ (num : ℚ) / den ∧
      (num : ℚ) / den < (roundDiv num den : ℚ) + 1 / 2) ∧
  (∀ num den : Nat, 0 < den →
    (num : ℚ) / den ≤ (ceilDiv num den : ℚ) ∧ (ceilDiv num den : ℚ) < (num : ℚ) / den + 1) ∧
  (∀ dx dy : Int, dx.natAbs < 2 ^ 24 → dy.natAbs < 2 ^ 24 →
    let h := vectorHeading dx dy
    let hundredth : ℝ := Real.pi / 18000;
    h < 36000 ∧ (dy = 0 → 0 < dx → h = 0) ∧ (dx = 0 → 0 < dy → h = 9000) ∧
    (dy = 0 → dx < 0 → h = 18000) ∧ (dx = 0 → dy < 0 → h = 27000) ∧ (dx = 0 → dy = 0 → h = 0) ∧
    Real.sqrt ((dx : ℝ) ^ 2 + (dy : ℝ) ^ 2) * Real.cos ((1 / 2 + 1 / 10 ^ 9) * hundredth) ≤
      dx * Real.cos (h * hundredth) + dy * Real.sin (h * hundredth)) ∧
  (∀ p q : Point, lineHeading p q = vectorHeading ((q.x : Int) - p.x) ((q.y : Int) - p.y) ∧
    lineLength p q = rootRound (((q.x : Int) - p.x) ^ 2 + ((q.y : Int) - p.y) ^ 2).toNat)

/-- The speed step, the move of v toward a target, the distance accumulator and the budget's cut of an
advance (R60). -/
def Obligations.SpeedAndDistance : Prop :=
  (∀ a, speedStep a = max 1 (a / 1000) ∧ (10000 ≤ a → a ≤ 5000000 → 10 ≤ speedStep a ∧
    speedStep a ≤ 5000) ∧ (100000 ≤ a → a ≤ 20000000 → 100 ≤ speedStep a ∧ speedStep a ≤ 20000)) ∧
  (∀ v target n : Nat, (((v : Int) - target).natAbs ≤ n → moveToward v target n = target) ∧
    (n < ((v : Int) - target).natAbs → v < target → moveToward v target n = v + n) ∧
    (n < ((v : Int) - target).natAbs → target < v → moveToward v target n = v - n)) ∧
  (∀ v rem, (accumulate v rem).v = v ∧
    rem + v = 1000 * (accumulate v rem).whole + (accumulate v rem).rem ∧
    (accumulate v rem).rem < 1000) ∧
  (∀ v rem budget, budget < (accumulate v rem).whole → (accumulate v rem).cutBy budget =
    { v := budget * 1000, rem := 0, whole := budget })

/-- The stroke quantities: the bite of a line and of an arc, the feed target with override, the stroke
ceiling, the measured rate and the demand, at which a line can be cut at the feed target (R53 to
R57). -/
def Obligations.StrokeQuantities : Prop :=
  ∀ (g : Grade) (e : Entry) (feed override p : Nat), 0 < g.bite →
    (e.kind = .line → biteOf g e = g.bite) ∧
    (∀ tag h1 h2 j m shape, e.body = .arc tag h1 h2 j m shape → biteOf g e =
      min g.bite (max 1 (shape.radius * g.turn * 17453 / 100000000))) ∧
    (e.kind = .traverse ∨ e.kind = .opening → biteOf g e = 0) ∧
    withOverride feed override = feed * override / 100 ∧
    strokeCeiling g.bite none = 0 ∧
    (p < 5000 → strokeCeiling g.bite (some p) = g.bite * 200) ∧
    (5000 ≤ p → p ≤ 50000 → strokeCeiling g.bite (some p) = g.bite * 1000000 / p) ∧
    (50000 < p → strokeCeiling g.bite (some p) = 0) ∧
    (0 < p → (strokeRate p = 65535 ↔ p ≤ 915)) ∧
    (916 ≤ p → strokeRate p = 60000000 / p) ∧
    (g.minSpm ≤ strokeDemand g feed ∨ strokeDemand g feed = 12000) ∧ strokeDemand g feed ≤ 12000 ∧
    (strokeDemand g feed < 12000 → feed ≤ g.bite * strokeDemand g feed / 60) ∧
    (g.minSpm < strokeDemand g feed → strokeDemand g feed ≤ 12000 →
      g.bite * (strokeDemand g feed - 1) < feed * 60)

/-! ### Invariants -/

/-- The invariants hold right after reset (R1, R63, R127, R145, R152, R158). -/
def Obligations.InvariantsAtReset : Prop :=
  State.reset.queueSafe ∧ State.reset.permitSafe ∧ State.reset.drivesSafe ∧ State.reset.jogSafe

/-- Every step keeps the contour queue at no more than 48 entries with successive sequence numbers
(R1, R2). -/
def Obligations.QueueKept : Prop :=
  ∀ s t : State, s.queueSafe → step s = .next t → t.queueSafe

/-- Every step keeps the permit state as R158 ties it to FI's state, the fault record present exactly
in FAULT, no contour in OFFLINE, and v 0 in the states of R63. -/
def Obligations.PermitKept : Prop :=
  ∀ s t : State, s.permitSafe → step s = .next t → t.permitSafe

/-- Every step keeps the drives of R145: while the permit state is LOW, no axis owes a step. -/
def Obligations.DrivesKept : Prop :=
  ∀ s t : State, s.drivesSafe → step s = .next t → t.drivesSafe

/-- Every step keeps FI in JOG exactly while the jog's phase is RUNNING or ENDING, apart from the quick
stop (R127). -/
def Obligations.JogKept : Prop :=
  ∀ s t : State, s.jogSafe → step s = .next t → t.jogSafe
end

