-- ==== Sys2Proof/Laws/Bytes.lean ====
section
/-! SUPPORT. Fields and telegrams: what reading a field of written bytes gives, the length and the sum of
a telegram (R186, R190). -/

namespace Sys2Proof.Machine

@[simp] theorem leBytes_length (w : Nat) (v : Int) : (leBytes w v).length = w := by
  induction w generalizing v with
  | zero => rfl
  | succ w ih => simp [leBytes, ih]

@[simp] theorem natBytes_length (w v : Nat) : (natBytes w v).length = w := leBytes_length w v

@[simp] theorem optBytes_length (w : Nat) (v : Option Nat) : (optBytes w v).length = w := by
  cases v <;> simp [optBytes]

@[simp] theorem boolByte_length (b : Bool) : (boolByte b).length = 1 := rfl

@[simp] theorem bitsByte_length (bs : List Bool) : (bitsByte bs).length = 1 := rfl

/-- The bytes of a natural number, one byte at a time. -/
theorem natBytes_succ (w v : Nat) :
    natBytes (w + 1) v = BitVec.ofNat 8 v :: natBytes w (v / 256) := by
  simp only [natBytes, leBytes, BitVec.ofInt_natCast]
  rfl

/-- A number written in `w` bytes reads back modulo 256 ^ w. -/
@[simp] theorem leValue_natBytes (w v : Nat) : leValue (natBytes w v) = v % 256 ^ w := by
  induction w generalizing v with
  | zero => simp [natBytes, leBytes, leValue, Nat.mod_one]
  | succ w ih =>
    rw [natBytes_succ]
    show (BitVec.ofNat 8 v).toNat + 256 * leValue (natBytes w (v / 256)) = _
    rw [ih, pow_succ', Nat.mod_mul, BitVec.toNat_ofNat]

/-- A field behind a prefix is the field of the rest. -/
theorem field_append (a b : List Byte) (k w : Nat) (h : a.length ≤ k) :
    field (a ++ b) k w = field b (k - a.length) w := by
  simp [field, List.drop_append, List.drop_eq_nil_of_le h]

/-- A field that a prefix holds whole does not see the rest. -/
theorem field_prefix (a b : List Byte) (k w : Nat) (h : k + w ≤ a.length) :
    field (a ++ b) k w = field a k w := by
  have h1 : k ≤ a.length := by omega
  simp only [field]
  rw [List.drop_append_of_le_length h1, List.take_append_of_le_length]
  simp; omega

/-- The first field of written bytes reads back. -/
@[simp] theorem field_natBytes (w v : Nat) : field (natBytes w v) 0 w = v % 256 ^ w := by
  simp only [field, List.drop_zero]
  rw [List.take_of_length_le (by simp), leValue_natBytes]

/-- The first field reads back before other bytes. -/
@[simp] theorem field_natBytes_append (w v : Nat) (rest : List Byte) :
    field (natBytes w v ++ rest) 0 w = v % 256 ^ w := by
  rw [field_prefix _ _ _ _ (by simp), field_natBytes]

/-- One byte as a field. -/
@[simp] theorem field_byte (b : Byte) (rest : List Byte) : field (b :: rest) 0 1 = b.toNat := by
  simp [field, leValue]

/-- A field behind a first byte. -/
theorem field_cons (b : Byte) (rest : List Byte) (k w : Nat) :
    field (b :: rest) (k + 1) w = field rest k w := by
  simp [field]

@[simp] theorem telegram_length (kind : Byte) (d : List Byte) :
    (telegram kind d).length = d.length + 3 := by
  simp [telegram]

/-- The whole telegram of each notice kind has its fixed length (R198). -/
@[simp] theorem State.noticeTelegram_length (s : State) (k : Notice) :
    (s.noticeTelegram k).length = k.length := by
  cases k <;> simp [State.noticeTelegram, Notice.length, HoldSet.bytes]

/-- A sum is the start plus the sum from 0. -/
theorem sum_from (cs : List Byte) (a : Byte) : cs.foldl (· + ·) a = a + cs.foldl (· + ·) 0 := by
  induction cs generalizing a with
  | nil => simp
  | cons c cs ih =>
    simp only [List.foldl_cons]
    rw [ih (a + c), ih (0 + c)]
    simp [BitVec.add_assoc]

/-- The characters of every telegram sum to 0 (R186). -/
@[simp] theorem charSum_telegram (kind : Byte) (d : List Byte) : charSum (telegram kind d) = 0 := by
  simp only [charSum, telegram, List.foldl_append, checkValue]
  simp only [List.foldl_cons, List.foldl_nil]
  exact BitVec.add_right_neg _

@[simp] theorem markChars_length (cs : List Byte) : (markChars cs).length = cs.length := by
  cases cs <;> simp [markChars]

end Sys2Proof.Machine
end

