-- ==== Sys2Proof/Laws/State.lean ====
section
/-! SUPPORT. One lemma per field per update: what each shared operation leaves unchanged. -/

namespace Sys2Proof.Machine

/-! `State.setPort` -/

@[simp] theorem State.setPort_pins (s : State) (p : Port) (v : PortState) : (s.setPort p v).pins = s.pins := by cases p <;> rfl
@[simp] theorem State.setPort_subMicro (s : State) (p : Port) (v : PortState) : (s.setPort p v).subMicro = s.subMicro := by cases p <;> rfl
@[simp] theorem State.setPort_tb (s : State) (p : Port) (v : PortState) : (s.setPort p v).tb = s.tb := by cases p <;> rfl
@[simp] theorem State.setPort_gt (s : State) (p : Port) (v : PortState) : (s.setPort p v).gt = s.gt := by cases p <;> rfl
@[simp] theorem State.setPort_cq (s : State) (p : Port) (v : PortState) : (s.setPort p v).cq = s.cq := by cases p <;> rfl
@[simp] theorem State.setPort_fi (s : State) (p : Port) (v : PortState) : (s.setPort p v).fi = s.fi := by cases p <;> rfl
@[simp] theorem State.setPort_sd (s : State) (p : Port) (v : PortState) : (s.setPort p v).sd = s.sd := by cases p <;> rfl
@[simp] theorem State.setPort_hj (s : State) (p : Port) (v : PortState) : (s.setPort p v).hj = s.hj := by cases p <;> rfl
@[simp] theorem State.setPort_ap (s : State) (p : Port) (v : PortState) : (s.setPort p v).ap = s.ap := by cases p <;> rfl
@[simp] theorem State.setPort_sv (s : State) (p : Port) (v : PortState) : (s.setPort p v).sv = s.sv := by cases p <;> rfl
@[simp] theorem State.setPort_pending (s : State) (p : Port) (v : PortState) : (s.setPort p v).pending = s.pending := by cases p <;> rfl
@[simp] theorem State.setPort_choices (s : State) (p : Port) (v : PortState) : (s.setPort p v).choices = s.choices := by cases p <;> rfl

@[simp] theorem State.setPort_port (s : State) (p : Port) (v : PortState) : (s.setPort p v).port p = v := by
  cases p <;> rfl
theorem State.setPort_port_ne (s : State) {p q : Port} (v : PortState) (h : q ≠ p) :
    (s.setPort p v).port q = s.port q := by
  cases p <;> cases q <;> first | rfl | exact absurd rfl h
@[simp] theorem State.setPort_self (s : State) (p : Port) : s.setPort p (s.port p) = s := by
  cases p <;> rfl

/-! `State.onPort` -/

@[simp] theorem State.onPort_pins (s : State) (p : Port) (f : PortState → PortState) : (s.onPort p f).pins = s.pins := by simp [State.onPort]
@[simp] theorem State.onPort_subMicro (s : State) (p : Port) (f : PortState → PortState) : (s.onPort p f).subMicro = s.subMicro := by simp [State.onPort]
@[simp] theorem State.onPort_tb (s : State) (p : Port) (f : PortState → PortState) : (s.onPort p f).tb = s.tb := by simp [State.onPort]
@[simp] theorem State.onPort_gt (s : State) (p : Port) (f : PortState → PortState) : (s.onPort p f).gt = s.gt := by simp [State.onPort]
@[simp] theorem State.onPort_cq (s : State) (p : Port) (f : PortState → PortState) : (s.onPort p f).cq = s.cq := by simp [State.onPort]
@[simp] theorem State.onPort_fi (s : State) (p : Port) (f : PortState → PortState) : (s.onPort p f).fi = s.fi := by simp [State.onPort]
@[simp] theorem State.onPort_sd (s : State) (p : Port) (f : PortState → PortState) : (s.onPort p f).sd = s.sd := by simp [State.onPort]
@[simp] theorem State.onPort_hj (s : State) (p : Port) (f : PortState → PortState) : (s.onPort p f).hj = s.hj := by simp [State.onPort]
@[simp] theorem State.onPort_ap (s : State) (p : Port) (f : PortState → PortState) : (s.onPort p f).ap = s.ap := by simp [State.onPort]
@[simp] theorem State.onPort_sv (s : State) (p : Port) (f : PortState → PortState) : (s.onPort p f).sv = s.sv := by simp [State.onPort]
@[simp] theorem State.onPort_pending (s : State) (p : Port) (f : PortState → PortState) : (s.onPort p f).pending = s.pending := by simp [State.onPort]
@[simp] theorem State.onPort_choices (s : State) (p : Port) (f : PortState → PortState) : (s.onPort p f).choices = s.choices := by simp [State.onPort]

/-! `State.raise` -/

@[simp] theorem State.raise_pins (s : State) (p : Port) (k : Notice) : (s.raise p k).pins = s.pins := by simp [State.raise]
@[simp] theorem State.raise_subMicro (s : State) (p : Port) (k : Notice) : (s.raise p k).subMicro = s.subMicro := by simp [State.raise]
@[simp] theorem State.raise_tb (s : State) (p : Port) (k : Notice) : (s.raise p k).tb = s.tb := by simp [State.raise]
@[simp] theorem State.raise_gt (s : State) (p : Port) (k : Notice) : (s.raise p k).gt = s.gt := by simp [State.raise]
@[simp] theorem State.raise_cq (s : State) (p : Port) (k : Notice) : (s.raise p k).cq = s.cq := by simp [State.raise]
@[simp] theorem State.raise_fi (s : State) (p : Port) (k : Notice) : (s.raise p k).fi = s.fi := by simp [State.raise]
@[simp] theorem State.raise_sd (s : State) (p : Port) (k : Notice) : (s.raise p k).sd = s.sd := by simp [State.raise]
@[simp] theorem State.raise_hj (s : State) (p : Port) (k : Notice) : (s.raise p k).hj = s.hj := by simp [State.raise]
@[simp] theorem State.raise_ap (s : State) (p : Port) (k : Notice) : (s.raise p k).ap = s.ap := by simp [State.raise]
@[simp] theorem State.raise_sv (s : State) (p : Port) (k : Notice) : (s.raise p k).sv = s.sv := by simp [State.raise]
@[simp] theorem State.raise_pending (s : State) (p : Port) (k : Notice) : (s.raise p k).pending = s.pending := by simp [State.raise]
@[simp] theorem State.raise_choices (s : State) (p : Port) (k : Notice) : (s.raise p k).choices = s.choices := by simp [State.raise]

/-! `State.raiseAll` -/

@[simp] theorem State.raiseAll_pins (s : State) (k : Notice) : (s.raiseAll k).pins = s.pins := by simp [State.raiseAll]
@[simp] theorem State.raiseAll_subMicro (s : State) (k : Notice) : (s.raiseAll k).subMicro = s.subMicro := by simp [State.raiseAll]
@[simp] theorem State.raiseAll_tb (s : State) (k : Notice) : (s.raiseAll k).tb = s.tb := by simp [State.raiseAll]
@[simp] theorem State.raiseAll_gt (s : State) (k : Notice) : (s.raiseAll k).gt = s.gt := by simp [State.raiseAll]
@[simp] theorem State.raiseAll_cq (s : State) (k : Notice) : (s.raiseAll k).cq = s.cq := by simp [State.raiseAll]
@[simp] theorem State.raiseAll_fi (s : State) (k : Notice) : (s.raiseAll k).fi = s.fi := by simp [State.raiseAll]
@[simp] theorem State.raiseAll_sd (s : State) (k : Notice) : (s.raiseAll k).sd = s.sd := by simp [State.raiseAll]
@[simp] theorem State.raiseAll_hj (s : State) (k : Notice) : (s.raiseAll k).hj = s.hj := by simp [State.raiseAll]
@[simp] theorem State.raiseAll_ap (s : State) (k : Notice) : (s.raiseAll k).ap = s.ap := by simp [State.raiseAll]
@[simp] theorem State.raiseAll_sv (s : State) (k : Notice) : (s.raiseAll k).sv = s.sv := by simp [State.raiseAll]
@[simp] theorem State.raiseAll_pending (s : State) (k : Notice) : (s.raiseAll k).pending = s.pending := by simp [State.raiseAll]
@[simp] theorem State.raiseAll_choices (s : State) (k : Notice) : (s.raiseAll k).choices = s.choices := by simp [State.raiseAll]

/-! `State.enter` -/

@[simp] theorem State.enter_pins (s : State) (st : FiState) : (s.enter st).pins = s.pins := by unfold State.enter; (repeat' split) <;> simp
@[simp] theorem State.enter_subMicro (s : State) (st : FiState) : (s.enter st).subMicro = s.subMicro := by unfold State.enter; (repeat' split) <;> simp
@[simp] theorem State.enter_tb (s : State) (st : FiState) : (s.enter st).tb = s.tb := by unfold State.enter; (repeat' split) <;> simp
@[simp] theorem State.enter_gt (s : State) (st : FiState) : (s.enter st).gt = s.gt := by unfold State.enter; (repeat' split) <;> simp
@[simp] theorem State.enter_cq (s : State) (st : FiState) : (s.enter st).cq = s.cq := by unfold State.enter; (repeat' split) <;> simp
@[simp] theorem State.enter_sd (s : State) (st : FiState) : (s.enter st).sd = s.sd := by unfold State.enter; (repeat' split) <;> simp
@[simp] theorem State.enter_hj (s : State) (st : FiState) : (s.enter st).hj = s.hj := by unfold State.enter; (repeat' split) <;> simp
@[simp] theorem State.enter_ap (s : State) (st : FiState) : (s.enter st).ap = s.ap := by unfold State.enter; (repeat' split) <;> simp
@[simp] theorem State.enter_sv (s : State) (st : FiState) : (s.enter st).sv = s.sv := by unfold State.enter; (repeat' split) <;> simp
@[simp] theorem State.enter_pending (s : State) (st : FiState) : (s.enter st).pending = s.pending := by unfold State.enter; (repeat' split) <;> simp
@[simp] theorem State.enter_choices (s : State) (st : FiState) : (s.enter st).choices = s.choices := by unfold State.enter; (repeat' split) <;> simp

/-! `State.holdFeed` -/

@[simp] theorem State.holdFeed_pins (s : State) : (s.holdFeed).pins = s.pins := by unfold State.holdFeed; (repeat' split) <;> simp
@[simp] theorem State.holdFeed_subMicro (s : State) : (s.holdFeed).subMicro = s.subMicro := by unfold State.holdFeed; (repeat' split) <;> simp
@[simp] theorem State.holdFeed_tb (s : State) : (s.holdFeed).tb = s.tb := by unfold State.holdFeed; (repeat' split) <;> simp
@[simp] theorem State.holdFeed_gt (s : State) : (s.holdFeed).gt = s.gt := by unfold State.holdFeed; (repeat' split) <;> simp
@[simp] theorem State.holdFeed_cq (s : State) : (s.holdFeed).cq = s.cq := by unfold State.holdFeed; (repeat' split) <;> simp
@[simp] theorem State.holdFeed_sd (s : State) : (s.holdFeed).sd = s.sd := by unfold State.holdFeed; (repeat' split) <;> simp
@[simp] theorem State.holdFeed_hj (s : State) : (s.holdFeed).hj = s.hj := by unfold State.holdFeed; (repeat' split) <;> simp
@[simp] theorem State.holdFeed_ap (s : State) : (s.holdFeed).ap = s.ap := by unfold State.holdFeed; (repeat' split) <;> simp
@[simp] theorem State.holdFeed_sv (s : State) : (s.holdFeed).sv = s.sv := by unfold State.holdFeed; (repeat' split) <;> simp
@[simp] theorem State.holdFeed_pending (s : State) : (s.holdFeed).pending = s.pending := by unfold State.holdFeed; (repeat' split) <;> simp
@[simp] theorem State.holdFeed_choices (s : State) : (s.holdFeed).choices = s.choices := by unfold State.holdFeed; (repeat' split) <;> simp

/-! `State.resumeFeed` -/

@[simp] theorem State.resumeFeed_pins (s : State) : (s.resumeFeed).pins = s.pins := by unfold State.resumeFeed; (repeat' split) <;> simp
@[simp] theorem State.resumeFeed_subMicro (s : State) : (s.resumeFeed).subMicro = s.subMicro := by unfold State.resumeFeed; (repeat' split) <;> simp
@[simp] theorem State.resumeFeed_tb (s : State) : (s.resumeFeed).tb = s.tb := by unfold State.resumeFeed; (repeat' split) <;> simp
@[simp] theorem State.resumeFeed_gt (s : State) : (s.resumeFeed).gt = s.gt := by unfold State.resumeFeed; (repeat' split) <;> simp
@[simp] theorem State.resumeFeed_cq (s : State) : (s.resumeFeed).cq = s.cq := by unfold State.resumeFeed; (repeat' split) <;> simp
@[simp] theorem State.resumeFeed_sd (s : State) : (s.resumeFeed).sd = s.sd := by unfold State.resumeFeed; (repeat' split) <;> simp
@[simp] theorem State.resumeFeed_hj (s : State) : (s.resumeFeed).hj = s.hj := by unfold State.resumeFeed; (repeat' split) <;> simp
@[simp] theorem State.resumeFeed_ap (s : State) : (s.resumeFeed).ap = s.ap := by unfold State.resumeFeed; (repeat' split) <;> simp
@[simp] theorem State.resumeFeed_sv (s : State) : (s.resumeFeed).sv = s.sv := by unfold State.resumeFeed; (repeat' split) <;> simp
@[simp] theorem State.resumeFeed_pending (s : State) : (s.resumeFeed).pending = s.pending := by unfold State.resumeFeed; (repeat' split) <;> simp
@[simp] theorem State.resumeFeed_choices (s : State) : (s.resumeFeed).choices = s.choices := by unfold State.resumeFeed; (repeat' split) <;> simp

/-! `State.endJog` -/

@[simp] theorem State.endJog_pins (s : State) (c : EndCause) : (s.endJog c).pins = s.pins := by unfold State.endJog; (repeat' split) <;> simp
@[simp] theorem State.endJog_subMicro (s : State) (c : EndCause) : (s.endJog c).subMicro = s.subMicro := by unfold State.endJog; (repeat' split) <;> simp
@[simp] theorem State.endJog_tb (s : State) (c : EndCause) : (s.endJog c).tb = s.tb := by unfold State.endJog; (repeat' split) <;> simp
@[simp] theorem State.endJog_gt (s : State) (c : EndCause) : (s.endJog c).gt = s.gt := by unfold State.endJog; (repeat' split) <;> simp
@[simp] theorem State.endJog_cq (s : State) (c : EndCause) : (s.endJog c).cq = s.cq := by unfold State.endJog; (repeat' split) <;> simp
@[simp] theorem State.endJog_fi (s : State) (c : EndCause) : (s.endJog c).fi = s.fi := by unfold State.endJog; (repeat' split) <;> simp
@[simp] theorem State.endJog_sd (s : State) (c : EndCause) : (s.endJog c).sd = s.sd := by unfold State.endJog; (repeat' split) <;> simp
@[simp] theorem State.endJog_ap (s : State) (c : EndCause) : (s.endJog c).ap = s.ap := by unfold State.endJog; (repeat' split) <;> simp
@[simp] theorem State.endJog_sv (s : State) (c : EndCause) : (s.endJog c).sv = s.sv := by unfold State.endJog; (repeat' split) <;> simp
@[simp] theorem State.endJog_job (s : State) (c : EndCause) : (s.endJog c).job = s.job := by unfold State.endJog; (repeat' split) <;> simp
@[simp] theorem State.endJog_blade (s : State) (c : EndCause) : (s.endJog c).blade = s.blade := by unfold State.endJog; (repeat' split) <;> simp
@[simp] theorem State.endJog_panel (s : State) (c : EndCause) : (s.endJog c).panel = s.panel := by unfold State.endJog; (repeat' split) <;> simp
@[simp] theorem State.endJog_pending (s : State) (c : EndCause) : (s.endJog c).pending = s.pending := by unfold State.endJog; (repeat' split) <;> simp
@[simp] theorem State.endJog_choices (s : State) (c : EndCause) : (s.endJog c).choices = s.choices := by unfold State.endJog; (repeat' split) <;> simp

/-! `State.putHolds` -/

@[simp] theorem State.putHolds_pins (s : State) (h : HoldSet) : (s.putHolds h).pins = s.pins := by unfold State.putHolds; (repeat' split) <;> simp
@[simp] theorem State.putHolds_subMicro (s : State) (h : HoldSet) : (s.putHolds h).subMicro = s.subMicro := by unfold State.putHolds; (repeat' split) <;> simp
@[simp] theorem State.putHolds_tb (s : State) (h : HoldSet) : (s.putHolds h).tb = s.tb := by unfold State.putHolds; (repeat' split) <;> simp
@[simp] theorem State.putHolds_gt (s : State) (h : HoldSet) : (s.putHolds h).gt = s.gt := by unfold State.putHolds; (repeat' split) <;> simp
@[simp] theorem State.putHolds_cq (s : State) (h : HoldSet) : (s.putHolds h).cq = s.cq := by unfold State.putHolds; (repeat' split) <;> simp
@[simp] theorem State.putHolds_fi (s : State) (h : HoldSet) : (s.putHolds h).fi = s.fi := by unfold State.putHolds; (repeat' split) <;> simp
@[simp] theorem State.putHolds_sd (s : State) (h : HoldSet) : (s.putHolds h).sd = s.sd := by unfold State.putHolds; (repeat' split) <;> simp
@[simp] theorem State.putHolds_ap (s : State) (h : HoldSet) : (s.putHolds h).ap = s.ap := by unfold State.putHolds; (repeat' split) <;> simp
@[simp] theorem State.putHolds_sv (s : State) (h : HoldSet) : (s.putHolds h).sv = s.sv := by unfold State.putHolds; (repeat' split) <;> simp
@[simp] theorem State.putHolds_pending (s : State) (h : HoldSet) : (s.putHolds h).pending = s.pending := by unfold State.putHolds; (repeat' split) <;> simp
@[simp] theorem State.putHolds_choices (s : State) (h : HoldSet) : (s.putHolds h).choices = s.choices := by unfold State.putHolds; (repeat' split) <;> simp

/-! `State.changeHolds` -/

@[simp] theorem State.changeHolds_pins (s : State) (h : HoldSet) : (s.changeHolds h).pins = s.pins := by simp only [State.changeHolds]; (repeat' split) <;> simp
@[simp] theorem State.changeHolds_subMicro (s : State) (h : HoldSet) : (s.changeHolds h).subMicro = s.subMicro := by simp only [State.changeHolds]; (repeat' split) <;> simp
@[simp] theorem State.changeHolds_tb (s : State) (h : HoldSet) : (s.changeHolds h).tb = s.tb := by simp only [State.changeHolds]; (repeat' split) <;> simp
@[simp] theorem State.changeHolds_gt (s : State) (h : HoldSet) : (s.changeHolds h).gt = s.gt := by simp only [State.changeHolds]; (repeat' split) <;> simp
@[simp] theorem State.changeHolds_cq (s : State) (h : HoldSet) : (s.changeHolds h).cq = s.cq := by simp only [State.changeHolds]; (repeat' split) <;> simp
@[simp] theorem State.changeHolds_sd (s : State) (h : HoldSet) : (s.changeHolds h).sd = s.sd := by simp only [State.changeHolds]; (repeat' split) <;> simp
@[simp] theorem State.changeHolds_ap (s : State) (h : HoldSet) : (s.changeHolds h).ap = s.ap := by simp only [State.changeHolds]; (repeat' split) <;> simp
@[simp] theorem State.changeHolds_sv (s : State) (h : HoldSet) : (s.changeHolds h).sv = s.sv := by simp only [State.changeHolds]; (repeat' split) <;> simp
@[simp] theorem State.changeHolds_pending (s : State) (h : HoldSet) : (s.changeHolds h).pending = s.pending := by simp only [State.changeHolds]; (repeat' split) <;> simp
@[simp] theorem State.changeHolds_choices (s : State) (h : HoldSet) : (s.changeHolds h).choices = s.choices := by simp only [State.changeHolds]; (repeat' split) <;> simp

/-! `State.joinHold` -/

@[simp] theorem State.joinHold_pins (s : State) (present : Bool) (h : HoldSet) : (s.joinHold present h).pins = s.pins := by unfold State.joinHold; (repeat' split) <;> simp
@[simp] theorem State.joinHold_subMicro (s : State) (present : Bool) (h : HoldSet) : (s.joinHold present h).subMicro = s.subMicro := by unfold State.joinHold; (repeat' split) <;> simp
@[simp] theorem State.joinHold_tb (s : State) (present : Bool) (h : HoldSet) : (s.joinHold present h).tb = s.tb := by unfold State.joinHold; (repeat' split) <;> simp
@[simp] theorem State.joinHold_gt (s : State) (present : Bool) (h : HoldSet) : (s.joinHold present h).gt = s.gt := by unfold State.joinHold; (repeat' split) <;> simp
@[simp] theorem State.joinHold_cq (s : State) (present : Bool) (h : HoldSet) : (s.joinHold present h).cq = s.cq := by unfold State.joinHold; (repeat' split) <;> simp
@[simp] theorem State.joinHold_sd (s : State) (present : Bool) (h : HoldSet) : (s.joinHold present h).sd = s.sd := by unfold State.joinHold; (repeat' split) <;> simp
@[simp] theorem State.joinHold_ap (s : State) (present : Bool) (h : HoldSet) : (s.joinHold present h).ap = s.ap := by unfold State.joinHold; (repeat' split) <;> simp
@[simp] theorem State.joinHold_sv (s : State) (present : Bool) (h : HoldSet) : (s.joinHold present h).sv = s.sv := by unfold State.joinHold; (repeat' split) <;> simp
@[simp] theorem State.joinHold_pending (s : State) (present : Bool) (h : HoldSet) : (s.joinHold present h).pending = s.pending := by unfold State.joinHold; (repeat' split) <;> simp
@[simp] theorem State.joinHold_choices (s : State) (present : Bool) (h : HoldSet) : (s.joinHold present h).choices = s.choices := by unfold State.joinHold; (repeat' split) <;> simp

/-! `State.recomputeDemand` -/

@[simp] theorem State.recomputeDemand_pins (s : State) : (s.recomputeDemand).pins = s.pins := by unfold State.recomputeDemand; (repeat' split) <;> simp
@[simp] theorem State.recomputeDemand_subMicro (s : State) : (s.recomputeDemand).subMicro = s.subMicro := by unfold State.recomputeDemand; (repeat' split) <;> simp
@[simp] theorem State.recomputeDemand_tb (s : State) : (s.recomputeDemand).tb = s.tb := by unfold State.recomputeDemand; (repeat' split) <;> simp
@[simp] theorem State.recomputeDemand_gt (s : State) : (s.recomputeDemand).gt = s.gt := by unfold State.recomputeDemand; (repeat' split) <;> simp
@[simp] theorem State.recomputeDemand_cq (s : State) : (s.recomputeDemand).cq = s.cq := by unfold State.recomputeDemand; (repeat' split) <;> simp
@[simp] theorem State.recomputeDemand_sd (s : State) : (s.recomputeDemand).sd = s.sd := by unfold State.recomputeDemand; (repeat' split) <;> simp
@[simp] theorem State.recomputeDemand_hj (s : State) : (s.recomputeDemand).hj = s.hj := by unfold State.recomputeDemand; (repeat' split) <;> simp
@[simp] theorem State.recomputeDemand_ap (s : State) : (s.recomputeDemand).ap = s.ap := by unfold State.recomputeDemand; (repeat' split) <;> simp
@[simp] theorem State.recomputeDemand_sv (s : State) : (s.recomputeDemand).sv = s.sv := by unfold State.recomputeDemand; (repeat' split) <;> simp
@[simp] theorem State.recomputeDemand_pending (s : State) : (s.recomputeDemand).pending = s.pending := by unfold State.recomputeDemand; (repeat' split) <;> simp
@[simp] theorem State.recomputeDemand_choices (s : State) : (s.recomputeDemand).choices = s.choices := by unfold State.recomputeDemand; (repeat' split) <;> simp

/-! `State.applyCap` -/

@[simp] theorem State.applyCap_pins (s : State) : (s.applyCap).pins = s.pins := by unfold State.applyCap; (repeat' split) <;> simp
@[simp] theorem State.applyCap_subMicro (s : State) : (s.applyCap).subMicro = s.subMicro := by unfold State.applyCap; (repeat' split) <;> simp
@[simp] theorem State.applyCap_tb (s : State) : (s.applyCap).tb = s.tb := by unfold State.applyCap; (repeat' split) <;> simp
@[simp] theorem State.applyCap_gt (s : State) : (s.applyCap).gt = s.gt := by unfold State.applyCap; (repeat' split) <;> simp
@[simp] theorem State.applyCap_cq (s : State) : (s.applyCap).cq = s.cq := by unfold State.applyCap; (repeat' split) <;> simp
@[simp] theorem State.applyCap_sd (s : State) : (s.applyCap).sd = s.sd := by unfold State.applyCap; (repeat' split) <;> simp
@[simp] theorem State.applyCap_hj (s : State) : (s.applyCap).hj = s.hj := by unfold State.applyCap; (repeat' split) <;> simp
@[simp] theorem State.applyCap_ap (s : State) : (s.applyCap).ap = s.ap := by unfold State.applyCap; (repeat' split) <;> simp
@[simp] theorem State.applyCap_sv (s : State) : (s.applyCap).sv = s.sv := by unfold State.applyCap; (repeat' split) <;> simp
@[simp] theorem State.applyCap_job (s : State) : (s.applyCap).job = s.job := by unfold State.applyCap; (repeat' split) <;> simp
@[simp] theorem State.applyCap_blade (s : State) : (s.applyCap).blade = s.blade := by unfold State.applyCap; (repeat' split) <;> simp
@[simp] theorem State.applyCap_panel (s : State) : (s.applyCap).panel = s.panel := by unfold State.applyCap; (repeat' split) <;> simp
@[simp] theorem State.applyCap_pending (s : State) : (s.applyCap).pending = s.pending := by unfold State.applyCap; (repeat' split) <;> simp
@[simp] theorem State.applyCap_choices (s : State) : (s.applyCap).choices = s.choices := by unfold State.applyCap; (repeat' split) <;> simp

/-! `State.dropHead` -/

@[simp] theorem State.dropHead_pins (s : State) : (s.dropHead).pins = s.pins := by simp only [State.dropHead]; (repeat' split) <;> simp
@[simp] theorem State.dropHead_subMicro (s : State) : (s.dropHead).subMicro = s.subMicro := by simp only [State.dropHead]; (repeat' split) <;> simp
@[simp] theorem State.dropHead_tb (s : State) : (s.dropHead).tb = s.tb := by simp only [State.dropHead]; (repeat' split) <;> simp
@[simp] theorem State.dropHead_gt (s : State) : (s.dropHead).gt = s.gt := by simp only [State.dropHead]; (repeat' split) <;> simp
@[simp] theorem State.dropHead_fi (s : State) : (s.dropHead).fi = s.fi := by simp only [State.dropHead]; (repeat' split) <;> simp
@[simp] theorem State.dropHead_sd (s : State) : (s.dropHead).sd = s.sd := by simp only [State.dropHead]; (repeat' split) <;> simp
@[simp] theorem State.dropHead_hj (s : State) : (s.dropHead).hj = s.hj := by simp only [State.dropHead]; (repeat' split) <;> simp
@[simp] theorem State.dropHead_ap (s : State) : (s.dropHead).ap = s.ap := by simp only [State.dropHead]; (repeat' split) <;> simp
@[simp] theorem State.dropHead_sv (s : State) : (s.dropHead).sv = s.sv := by simp only [State.dropHead]; (repeat' split) <;> simp
@[simp] theorem State.dropHead_pending (s : State) : (s.dropHead).pending = s.pending := by simp only [State.dropHead]; (repeat' split) <;> simp
@[simp] theorem State.dropHead_choices (s : State) : (s.dropHead).choices = s.choices := by simp only [State.dropHead]; (repeat' split) <;> simp

/-! `State.makeActive` -/

@[simp] theorem State.makeActive_pins (s : State) (e : Entry) : (s.makeActive e).pins = s.pins := rfl
@[simp] theorem State.makeActive_subMicro (s : State) (e : Entry) : (s.makeActive e).subMicro = s.subMicro := rfl
@[simp] theorem State.makeActive_tb (s : State) (e : Entry) : (s.makeActive e).tb = s.tb := rfl
@[simp] theorem State.makeActive_gt (s : State) (e : Entry) : (s.makeActive e).gt = s.gt := rfl
@[simp] theorem State.makeActive_cq (s : State) (e : Entry) : (s.makeActive e).cq = s.cq := rfl
@[simp] theorem State.makeActive_sd (s : State) (e : Entry) : (s.makeActive e).sd = s.sd := rfl
@[simp] theorem State.makeActive_hj (s : State) (e : Entry) : (s.makeActive e).hj = s.hj := rfl
@[simp] theorem State.makeActive_ap (s : State) (e : Entry) : (s.makeActive e).ap = s.ap := rfl
@[simp] theorem State.makeActive_sv (s : State) (e : Entry) : (s.makeActive e).sv = s.sv := rfl
@[simp] theorem State.makeActive_job (s : State) (e : Entry) : (s.makeActive e).job = s.job := rfl
@[simp] theorem State.makeActive_blade (s : State) (e : Entry) : (s.makeActive e).blade = s.blade := rfl
@[simp] theorem State.makeActive_panel (s : State) (e : Entry) : (s.makeActive e).panel = s.panel := rfl
@[simp] theorem State.makeActive_pending (s : State) (e : Entry) : (s.makeActive e).pending = s.pending := rfl
@[simp] theorem State.makeActive_choices (s : State) (e : Entry) : (s.makeActive e).choices = s.choices := rfl

/-! `State.limitBudget` -/

@[simp] theorem State.limitBudget_pins (s : State) (e : Entry) : (s.limitBudget e).pins = s.pins := rfl
@[simp] theorem State.limitBudget_subMicro (s : State) (e : Entry) : (s.limitBudget e).subMicro = s.subMicro := rfl
@[simp] theorem State.limitBudget_tb (s : State) (e : Entry) : (s.limitBudget e).tb = s.tb := rfl
@[simp] theorem State.limitBudget_gt (s : State) (e : Entry) : (s.limitBudget e).gt = s.gt := rfl
@[simp] theorem State.limitBudget_cq (s : State) (e : Entry) : (s.limitBudget e).cq = s.cq := rfl
@[simp] theorem State.limitBudget_sd (s : State) (e : Entry) : (s.limitBudget e).sd = s.sd := rfl
@[simp] theorem State.limitBudget_hj (s : State) (e : Entry) : (s.limitBudget e).hj = s.hj := rfl
@[simp] theorem State.limitBudget_ap (s : State) (e : Entry) : (s.limitBudget e).ap = s.ap := rfl
@[simp] theorem State.limitBudget_sv (s : State) (e : Entry) : (s.limitBudget e).sv = s.sv := rfl
@[simp] theorem State.limitBudget_job (s : State) (e : Entry) : (s.limitBudget e).job = s.job := rfl
@[simp] theorem State.limitBudget_blade (s : State) (e : Entry) : (s.limitBudget e).blade = s.blade := rfl
@[simp] theorem State.limitBudget_panel (s : State) (e : Entry) : (s.limitBudget e).panel = s.panel := rfl
@[simp] theorem State.limitBudget_pending (s : State) (e : Entry) : (s.limitBudget e).pending = s.pending := rfl
@[simp] theorem State.limitBudget_choices (s : State) (e : Entry) : (s.limitBudget e).choices = s.choices := rfl

/-! `State.takeEntry` -/

@[simp] theorem State.takeEntry_pins (s : State) (e : Entry) : (s.takeEntry e).pins = s.pins := by simp [State.takeEntry]
@[simp] theorem State.takeEntry_subMicro (s : State) (e : Entry) : (s.takeEntry e).subMicro = s.subMicro := by simp [State.takeEntry]
@[simp] theorem State.takeEntry_tb (s : State) (e : Entry) : (s.takeEntry e).tb = s.tb := by simp [State.takeEntry]
@[simp] theorem State.takeEntry_gt (s : State) (e : Entry) : (s.takeEntry e).gt = s.gt := by simp [State.takeEntry]
@[simp] theorem State.takeEntry_sd (s : State) (e : Entry) : (s.takeEntry e).sd = s.sd := by simp [State.takeEntry]
@[simp] theorem State.takeEntry_hj (s : State) (e : Entry) : (s.takeEntry e).hj = s.hj := by simp [State.takeEntry]
@[simp] theorem State.takeEntry_ap (s : State) (e : Entry) : (s.takeEntry e).ap = s.ap := by simp [State.takeEntry]
@[simp] theorem State.takeEntry_sv (s : State) (e : Entry) : (s.takeEntry e).sv = s.sv := by simp [State.takeEntry]
@[simp] theorem State.takeEntry_pending (s : State) (e : Entry) : (s.takeEntry e).pending = s.pending := by simp [State.takeEntry]
@[simp] theorem State.takeEntry_choices (s : State) (e : Entry) : (s.takeEntry e).choices = s.choices := by simp [State.takeEntry]

/-! `State.releaseContour` -/

@[simp] theorem State.releaseContour_pins (s : State) : (s.releaseContour).pins = s.pins := by unfold State.releaseContour; (repeat' split) <;> simp
@[simp] theorem State.releaseContour_subMicro (s : State) : (s.releaseContour).subMicro = s.subMicro := by unfold State.releaseContour; (repeat' split) <;> simp
@[simp] theorem State.releaseContour_tb (s : State) : (s.releaseContour).tb = s.tb := by unfold State.releaseContour; (repeat' split) <;> simp
@[simp] theorem State.releaseContour_gt (s : State) : (s.releaseContour).gt = s.gt := by unfold State.releaseContour; (repeat' split) <;> simp
@[simp] theorem State.releaseContour_cq (s : State) : (s.releaseContour).cq = s.cq := by unfold State.releaseContour; (repeat' split) <;> simp
@[simp] theorem State.releaseContour_ap (s : State) : (s.releaseContour).ap = s.ap := by unfold State.releaseContour; (repeat' split) <;> simp
@[simp] theorem State.releaseContour_sv (s : State) : (s.releaseContour).sv = s.sv := by unfold State.releaseContour; (repeat' split) <;> simp
@[simp] theorem State.releaseContour_pending (s : State) : (s.releaseContour).pending = s.pending := by unfold State.releaseContour; (repeat' split) <;> simp
@[simp] theorem State.releaseContour_choices (s : State) : (s.releaseContour).choices = s.choices := by unfold State.releaseContour; (repeat' split) <;> simp

/-! `State.flush` -/

@[simp] theorem State.flush_pins (s : State) : (s.flush).pins = s.pins := by simp [State.flush]
@[simp] theorem State.flush_subMicro (s : State) : (s.flush).subMicro = s.subMicro := by simp [State.flush]
@[simp] theorem State.flush_tb (s : State) : (s.flush).tb = s.tb := by simp [State.flush]
@[simp] theorem State.flush_gt (s : State) : (s.flush).gt = s.gt := by simp [State.flush]
@[simp] theorem State.flush_ap (s : State) : (s.flush).ap = s.ap := by simp [State.flush]
@[simp] theorem State.flush_sv (s : State) : (s.flush).sv = s.sv := by simp [State.flush]
@[simp] theorem State.flush_pending (s : State) : (s.flush).pending = s.pending := by simp [State.flush]
@[simp] theorem State.flush_choices (s : State) : (s.flush).choices = s.choices := by simp [State.flush]

/-! `State.handOff` -/

@[simp] theorem State.handOff_pins (s : State) : (s.handOff).pins = s.pins := rfl
@[simp] theorem State.handOff_subMicro (s : State) : (s.handOff).subMicro = s.subMicro := rfl
@[simp] theorem State.handOff_tb (s : State) : (s.handOff).tb = s.tb := rfl
@[simp] theorem State.handOff_gt (s : State) : (s.handOff).gt = s.gt := rfl
@[simp] theorem State.handOff_cq (s : State) : (s.handOff).cq = s.cq := rfl
@[simp] theorem State.handOff_fi (s : State) : (s.handOff).fi = s.fi := rfl
@[simp] theorem State.handOff_sd (s : State) : (s.handOff).sd = s.sd := rfl
@[simp] theorem State.handOff_hj (s : State) : (s.handOff).hj = s.hj := rfl
@[simp] theorem State.handOff_sv (s : State) : (s.handOff).sv = s.sv := rfl
@[simp] theorem State.handOff_job (s : State) : (s.handOff).job = s.job := rfl
@[simp] theorem State.handOff_blade (s : State) : (s.handOff).blade = s.blade := rfl
@[simp] theorem State.handOff_panel (s : State) : (s.handOff).panel = s.panel := rfl
@[simp] theorem State.handOff_pending (s : State) : (s.handOff).pending = s.pending := rfl
@[simp] theorem State.handOff_choices (s : State) : (s.handOff).choices = s.choices := rfl

/-! `State.lowerPermit` -/

@[simp] theorem State.lowerPermit_pins (s : State) : (s.lowerPermit).pins = s.pins := by unfold State.lowerPermit; (repeat' split) <;> simp
@[simp] theorem State.lowerPermit_subMicro (s : State) : (s.lowerPermit).subMicro = s.subMicro := by unfold State.lowerPermit; (repeat' split) <;> simp
@[simp] theorem State.lowerPermit_tb (s : State) : (s.lowerPermit).tb = s.tb := by unfold State.lowerPermit; (repeat' split) <;> simp
@[simp] theorem State.lowerPermit_gt (s : State) : (s.lowerPermit).gt = s.gt := by unfold State.lowerPermit; (repeat' split) <;> simp
@[simp] theorem State.lowerPermit_cq (s : State) : (s.lowerPermit).cq = s.cq := by unfold State.lowerPermit; (repeat' split) <;> simp
@[simp] theorem State.lowerPermit_fi (s : State) : (s.lowerPermit).fi = s.fi := by unfold State.lowerPermit; (repeat' split) <;> simp
@[simp] theorem State.lowerPermit_sd (s : State) : (s.lowerPermit).sd = s.sd := by unfold State.lowerPermit; (repeat' split) <;> simp
@[simp] theorem State.lowerPermit_hj (s : State) : (s.lowerPermit).hj = s.hj := by unfold State.lowerPermit; (repeat' split) <;> simp
@[simp] theorem State.lowerPermit_job (s : State) : (s.lowerPermit).job = s.job := by unfold State.lowerPermit; (repeat' split) <;> simp
@[simp] theorem State.lowerPermit_blade (s : State) : (s.lowerPermit).blade = s.blade := by unfold State.lowerPermit; (repeat' split) <;> simp
@[simp] theorem State.lowerPermit_panel (s : State) : (s.lowerPermit).panel = s.panel := by unfold State.lowerPermit; (repeat' split) <;> simp
@[simp] theorem State.lowerPermit_pending (s : State) : (s.lowerPermit).pending = s.pending := by unfold State.lowerPermit; (repeat' split) <;> simp
@[simp] theorem State.lowerPermit_choices (s : State) : (s.lowerPermit).choices = s.choices := by unfold State.lowerPermit; (repeat' split) <;> simp

/-! `State.raisePermit` -/

@[simp] theorem State.raisePermit_pins (s : State) : (s.raisePermit).pins = s.pins := rfl
@[simp] theorem State.raisePermit_subMicro (s : State) : (s.raisePermit).subMicro = s.subMicro := rfl
@[simp] theorem State.raisePermit_tb (s : State) : (s.raisePermit).tb = s.tb := rfl
@[simp] theorem State.raisePermit_gt (s : State) : (s.raisePermit).gt = s.gt := rfl
@[simp] theorem State.raisePermit_cq (s : State) : (s.raisePermit).cq = s.cq := rfl
@[simp] theorem State.raisePermit_fi (s : State) : (s.raisePermit).fi = s.fi := rfl
@[simp] theorem State.raisePermit_sd (s : State) : (s.raisePermit).sd = s.sd := rfl
@[simp] theorem State.raisePermit_hj (s : State) : (s.raisePermit).hj = s.hj := rfl
@[simp] theorem State.raisePermit_sv (s : State) :
    s.raisePermit.sv = { s.sv with permit := true } := rfl
@[simp] theorem State.raisePermit_ap (s : State) :
    s.raisePermit.ap = s.ap.takeHeading s.fi.h s.gt.settings.stepH := rfl
@[simp] theorem State.raisePermit_job (s : State) : (s.raisePermit).job = s.job := rfl
@[simp] theorem State.raisePermit_blade (s : State) : (s.raisePermit).blade = s.blade := rfl
@[simp] theorem State.raisePermit_panel (s : State) : (s.raisePermit).panel = s.panel := rfl
@[simp] theorem State.raisePermit_pending (s : State) : (s.raisePermit).pending = s.pending := rfl
@[simp] theorem State.raisePermit_choices (s : State) : (s.raisePermit).choices = s.choices := rfl

/-! `State.dispatchNow` -/

@[simp] theorem State.dispatchNow_pins (s : State) : (s.dispatchNow).pins = s.pins := by unfold State.dispatchNow; (repeat' split) <;> simp
@[simp] theorem State.dispatchNow_subMicro (s : State) : (s.dispatchNow).subMicro = s.subMicro := by unfold State.dispatchNow; (repeat' split) <;> simp
@[simp] theorem State.dispatchNow_tb (s : State) : (s.dispatchNow).tb = s.tb := by unfold State.dispatchNow; (repeat' split) <;> simp
@[simp] theorem State.dispatchNow_gt (s : State) : (s.dispatchNow).gt = s.gt := by unfold State.dispatchNow; (repeat' split) <;> simp
@[simp] theorem State.dispatchNow_sd (s : State) : (s.dispatchNow).sd = s.sd := by unfold State.dispatchNow; (repeat' split) <;> simp
@[simp] theorem State.dispatchNow_hj (s : State) : (s.dispatchNow).hj = s.hj := by unfold State.dispatchNow; (repeat' split) <;> simp
@[simp] theorem State.dispatchNow_ap (s : State) : (s.dispatchNow).ap = s.ap := by unfold State.dispatchNow; (repeat' split) <;> simp
@[simp] theorem State.dispatchNow_sv (s : State) : (s.dispatchNow).sv = s.sv := by unfold State.dispatchNow; (repeat' split) <;> simp
@[simp] theorem State.dispatchNow_pending (s : State) : (s.dispatchNow).pending = s.pending := by unfold State.dispatchNow; (repeat' split) <;> simp
@[simp] theorem State.dispatchNow_choices (s : State) : (s.dispatchNow).choices = s.choices := by unfold State.dispatchNow; (repeat' split) <;> simp

/-! `State.endStop` -/

@[simp] theorem State.endStop_pins (s : State) : (s.endStop).pins = s.pins := by simp [State.endStop]
@[simp] theorem State.endStop_subMicro (s : State) : (s.endStop).subMicro = s.subMicro := by simp [State.endStop]
@[simp] theorem State.endStop_tb (s : State) : (s.endStop).tb = s.tb := by simp [State.endStop]
@[simp] theorem State.endStop_gt (s : State) : (s.endStop).gt = s.gt := by simp [State.endStop]
@[simp] theorem State.endStop_pending (s : State) : (s.endStop).pending = s.pending := by simp [State.endStop]
@[simp] theorem State.endStop_choices (s : State) : (s.endStop).choices = s.choices := by simp [State.endStop]

/-! `State.beginStop` -/

@[simp] theorem State.beginStop_pins (s : State) : (s.beginStop).pins = s.pins := by simp only [State.beginStop]; (repeat' split) <;> simp
@[simp] theorem State.beginStop_subMicro (s : State) : (s.beginStop).subMicro = s.subMicro := by simp only [State.beginStop]; (repeat' split) <;> simp
@[simp] theorem State.beginStop_tb (s : State) : (s.beginStop).tb = s.tb := by simp only [State.beginStop]; (repeat' split) <;> simp
@[simp] theorem State.beginStop_gt (s : State) : (s.beginStop).gt = s.gt := by simp only [State.beginStop]; (repeat' split) <;> simp
@[simp] theorem State.beginStop_pending (s : State) : (s.beginStop).pending = s.pending := by simp only [State.beginStop]; (repeat' split) <;> simp
@[simp] theorem State.beginStop_choices (s : State) : (s.beginStop).choices = s.choices := by simp only [State.beginStop]; (repeat' split) <;> simp

/-! `State.recordFault` -/

@[simp] theorem State.recordFault_pins (s : State) (c : Cause) : (s.recordFault c).pins = s.pins := by simp [State.recordFault]
@[simp] theorem State.recordFault_subMicro (s : State) (c : Cause) : (s.recordFault c).subMicro = s.subMicro := by simp [State.recordFault]
@[simp] theorem State.recordFault_tb (s : State) (c : Cause) : (s.recordFault c).tb = s.tb := by simp [State.recordFault]
@[simp] theorem State.recordFault_gt (s : State) (c : Cause) : (s.recordFault c).gt = s.gt := by simp [State.recordFault]
@[simp] theorem State.recordFault_cq (s : State) (c : Cause) : (s.recordFault c).cq = s.cq := by simp [State.recordFault]
@[simp] theorem State.recordFault_fi (s : State) (c : Cause) : (s.recordFault c).fi = s.fi := by simp [State.recordFault]
@[simp] theorem State.recordFault_sd (s : State) (c : Cause) : (s.recordFault c).sd = s.sd := by simp [State.recordFault]
@[simp] theorem State.recordFault_hj (s : State) (c : Cause) : (s.recordFault c).hj = s.hj := by simp [State.recordFault]
@[simp] theorem State.recordFault_ap (s : State) (c : Cause) : (s.recordFault c).ap = s.ap := by simp [State.recordFault]
@[simp] theorem State.recordFault_pending (s : State) (c : Cause) : (s.recordFault c).pending = s.pending := by simp [State.recordFault]
@[simp] theorem State.recordFault_choices (s : State) (c : Cause) : (s.recordFault c).choices = s.choices := by simp [State.recordFault]

/-! `State.furtherFault` -/

@[simp] theorem State.furtherFault_pins (s : State) : (s.furtherFault).pins = s.pins := rfl
@[simp] theorem State.furtherFault_subMicro (s : State) : (s.furtherFault).subMicro = s.subMicro := rfl
@[simp] theorem State.furtherFault_tb (s : State) : (s.furtherFault).tb = s.tb := rfl
@[simp] theorem State.furtherFault_gt (s : State) : (s.furtherFault).gt = s.gt := rfl
@[simp] theorem State.furtherFault_cq (s : State) : (s.furtherFault).cq = s.cq := rfl
@[simp] theorem State.furtherFault_fi (s : State) : (s.furtherFault).fi = s.fi := rfl
@[simp] theorem State.furtherFault_sd (s : State) : (s.furtherFault).sd = s.sd := rfl
@[simp] theorem State.furtherFault_hj (s : State) : (s.furtherFault).hj = s.hj := rfl
@[simp] theorem State.furtherFault_ap (s : State) : (s.furtherFault).ap = s.ap := rfl
@[simp] theorem State.furtherFault_job (s : State) : (s.furtherFault).job = s.job := rfl
@[simp] theorem State.furtherFault_blade (s : State) : (s.furtherFault).blade = s.blade := rfl
@[simp] theorem State.furtherFault_panel (s : State) : (s.furtherFault).panel = s.panel := rfl
@[simp] theorem State.furtherFault_pending (s : State) : (s.furtherFault).pending = s.pending := rfl
@[simp] theorem State.furtherFault_choices (s : State) : (s.furtherFault).choices = s.choices := rfl

/-! `State.reportFault` -/

@[simp] theorem State.reportFault_pins (s : State) (c : Cause) : (s.reportFault c).pins = s.pins := by unfold State.reportFault; (repeat' split) <;> simp
@[simp] theorem State.reportFault_subMicro (s : State) (c : Cause) : (s.reportFault c).subMicro = s.subMicro := by unfold State.reportFault; (repeat' split) <;> simp
@[simp] theorem State.reportFault_tb (s : State) (c : Cause) : (s.reportFault c).tb = s.tb := by unfold State.reportFault; (repeat' split) <;> simp
@[simp] theorem State.reportFault_gt (s : State) (c : Cause) : (s.reportFault c).gt = s.gt := by unfold State.reportFault; (repeat' split) <;> simp
@[simp] theorem State.reportFault_pending (s : State) (c : Cause) : (s.reportFault c).pending = s.pending := by unfold State.reportFault; (repeat' split) <;> simp
@[simp] theorem State.reportFault_choices (s : State) (c : Cause) : (s.reportFault c).choices = s.choices := by unfold State.reportFault; (repeat' split) <;> simp

/-! `State.setSlow` -/

@[simp] theorem State.setSlow_pins (s : State) (slow : Bool) (clearing : Nat) : (s.setSlow slow clearing).pins = s.pins := by simp only [State.setSlow]; (repeat' split) <;> simp
@[simp] theorem State.setSlow_subMicro (s : State) (slow : Bool) (clearing : Nat) : (s.setSlow slow clearing).subMicro = s.subMicro := by simp only [State.setSlow]; (repeat' split) <;> simp
@[simp] theorem State.setSlow_tb (s : State) (slow : Bool) (clearing : Nat) : (s.setSlow slow clearing).tb = s.tb := by simp only [State.setSlow]; (repeat' split) <;> simp
@[simp] theorem State.setSlow_gt (s : State) (slow : Bool) (clearing : Nat) : (s.setSlow slow clearing).gt = s.gt := by simp only [State.setSlow]; (repeat' split) <;> simp
@[simp] theorem State.setSlow_cq (s : State) (slow : Bool) (clearing : Nat) : (s.setSlow slow clearing).cq = s.cq := by simp only [State.setSlow]; (repeat' split) <;> simp
@[simp] theorem State.setSlow_ap (s : State) (slow : Bool) (clearing : Nat) : (s.setSlow slow clearing).ap = s.ap := by simp only [State.setSlow]; (repeat' split) <;> simp
@[simp] theorem State.setSlow_sv (s : State) (slow : Bool) (clearing : Nat) : (s.setSlow slow clearing).sv = s.sv := by simp only [State.setSlow]; (repeat' split) <;> simp
@[simp] theorem State.setSlow_pending (s : State) (slow : Bool) (clearing : Nat) : (s.setSlow slow clearing).pending = s.pending := by simp only [State.setSlow]; (repeat' split) <;> simp
@[simp] theorem State.setSlow_choices (s : State) (slow : Bool) (clearing : Nat) : (s.setSlow slow clearing).choices = s.choices := by simp only [State.setSlow]; (repeat' split) <;> simp

/-! `State.raiseSlow` -/

@[simp] theorem State.raiseSlow_pins (s : State) : (s.raiseSlow).pins = s.pins := by simp [State.raiseSlow]
@[simp] theorem State.raiseSlow_subMicro (s : State) : (s.raiseSlow).subMicro = s.subMicro := by simp [State.raiseSlow]
@[simp] theorem State.raiseSlow_tb (s : State) : (s.raiseSlow).tb = s.tb := by simp [State.raiseSlow]
@[simp] theorem State.raiseSlow_gt (s : State) : (s.raiseSlow).gt = s.gt := by simp [State.raiseSlow]
@[simp] theorem State.raiseSlow_cq (s : State) : (s.raiseSlow).cq = s.cq := by simp [State.raiseSlow]
@[simp] theorem State.raiseSlow_ap (s : State) : (s.raiseSlow).ap = s.ap := by simp [State.raiseSlow]
@[simp] theorem State.raiseSlow_sv (s : State) : (s.raiseSlow).sv = s.sv := by simp [State.raiseSlow]
@[simp] theorem State.raiseSlow_pending (s : State) : (s.raiseSlow).pending = s.pending := by simp [State.raiseSlow]
@[simp] theorem State.raiseSlow_choices (s : State) : (s.raiseSlow).choices = s.choices := by simp [State.raiseSlow]

/-! `State.busy` -/

@[simp] theorem State.busy_pins (s : State) (p : Port) (kind : Byte) (r : Reply) : (s.busy p kind r).pins = s.pins := by simp [State.busy]
@[simp] theorem State.busy_subMicro (s : State) (p : Port) (kind : Byte) (r : Reply) : (s.busy p kind r).subMicro = s.subMicro := by simp [State.busy]
@[simp] theorem State.busy_tb (s : State) (p : Port) (kind : Byte) (r : Reply) : (s.busy p kind r).tb = s.tb := by simp [State.busy]
@[simp] theorem State.busy_gt (s : State) (p : Port) (kind : Byte) (r : Reply) : (s.busy p kind r).gt = s.gt := by simp [State.busy]
@[simp] theorem State.busy_cq (s : State) (p : Port) (kind : Byte) (r : Reply) : (s.busy p kind r).cq = s.cq := by simp [State.busy]
@[simp] theorem State.busy_fi (s : State) (p : Port) (kind : Byte) (r : Reply) : (s.busy p kind r).fi = s.fi := by simp [State.busy]
@[simp] theorem State.busy_sd (s : State) (p : Port) (kind : Byte) (r : Reply) : (s.busy p kind r).sd = s.sd := by simp [State.busy]
@[simp] theorem State.busy_hj (s : State) (p : Port) (kind : Byte) (r : Reply) : (s.busy p kind r).hj = s.hj := by simp [State.busy]
@[simp] theorem State.busy_ap (s : State) (p : Port) (kind : Byte) (r : Reply) : (s.busy p kind r).ap = s.ap := by simp [State.busy]
@[simp] theorem State.busy_sv (s : State) (p : Port) (kind : Byte) (r : Reply) : (s.busy p kind r).sv = s.sv := by simp [State.busy]
@[simp] theorem State.busy_pending (s : State) (p : Port) (kind : Byte) (r : Reply) : (s.busy p kind r).pending = s.pending := by simp [State.busy]
@[simp] theorem State.busy_choices (s : State) (p : Port) (kind : Byte) (r : Reply) : (s.busy p kind r).choices = s.choices := by simp [State.busy]

end Sys2Proof.Machine
end

