-- ==== Sys2Proof/Laws/Requests.lean ====
section
/-! SUPPORT. Requests: the arrival of a whole telegram, the checks of R187, the request in progress
(R188), and what each of them does to the ports. -/

namespace Sys2Proof.Machine

/-! ### A clocked command -/

theorem clocked_run (s : State) (f : State → State) (h : s.pins.clkin = true) :
    clocked s f = .next (f s) := by simp [clocked, h]

theorem clocked_still (s : State) (f : State → State) (h : s.pins.clkin = false) :
    clocked s f = .next s := by simp [clocked, h]

/-! ### Listening -/

theorem State.listens_clkin {s : State} {p : Port} (h : s.listens p = true) :
    s.pins.clkin = true := by simp_all [State.listens]

theorem State.listens_clear {s : State} {p : Port} (h : s.listens p = true) :
    (s.port p).clear = true := by simp_all [State.listens]

theorem State.listens_loss {s : State} {p : Port} (h : s.listens p = true) :
    (s.port p).rx.loss = false := by simp_all [State.listens]

theorem State.listens_mayTake {s : State} {p : Port} (h : s.listens p = true) :
    s.mayTake p = true := by simp_all [State.listens]

/-- Without a lost character to mark, a telegram's first character leaves the port as it is. -/
theorem PortState.heard_of_loss {q : PortState} (h : q.rx.loss = false) : q.heard = q := by
  simp [PortState.heard, ← h]

@[simp] theorem PortState.heard_heard (q : PortState) : q.heard.heard = q.heard := rfl
@[simp] theorem PortState.heard_clear (q : PortState) : q.heard.clear = q.clear := rfl
@[simp] theorem PortState.heard_asm (q : PortState) : q.heard.asm = q.asm := rfl
@[simp] theorem PortState.heard_request (q : PortState) : q.heard.request = q.request := rfl

/-- What the arrival of a telegram of at most 23 characters does: its first character takes the loss
flag with it, and with nothing before it in the port it is taken at once or waits in the slot; behind
earlier characters it waits in the receive FIFO. -/
theorem State.arrive_eq (s : State) (p : Port) {chars : List Byte} (hc : chars.length ≤ 23)
    (take : State → State) :
    s.arrive p chars take =
      if (s.port p).clear then
        if s.mayTake p then take (s.setPort p (s.port p).heard)
        else s.setPort p { (s.port p).heard with asm := { (s.port p).asm with slot := some chars } }
      else s.setPort p ((s.port p).storeTelegram chars) := by
  have h : ¬ Config.maxPayload + 3 < chars.length := by simp [Config.maxPayload]; omega
  simp [State.arrive, h]

/-- A telegram that a port listens for is taken at once. -/
theorem State.arrive_of_listens {s : State} {p : Port} (h : s.listens p = true)
    {chars : List Byte} (hc : chars.length ≤ 23) (take : State → State) :
    s.arrive p chars take = take s := by
  simp [State.arrive_eq s p hc, State.listens_clear h, State.listens_mayTake h,
    PortState.heard_of_loss (State.listens_loss h)]

/-- A request that a port listens for: its take runs on the state. -/
theorem clocked_arrive {s : State} {p : Port} (h : s.listens p = true) {kind : Byte}
    {d : List Byte} (hd : d.length ≤ 20) (take : State → State) :
    (clocked s fun s => s.arrive p (telegram kind d) take) = .next (take s) := by
  rw [clocked_run _ _ (State.listens_clkin h), State.arrive_of_listens h (by simp; omega)]

/-- A handler that may not take leaves a whole telegram in the completed slot. -/
theorem State.arrive_waits {s : State} {p : Port} (h : (s.port p).clear = true)
    (hm : s.mayTake p = false) {chars : List Byte} (hc : chars.length ≤ 23)
    (take : State → State) :
    s.arrive p chars take = s.setPort p { (s.port p).heard with
      asm := { (s.port p).asm with slot := some chars } } := by
  simp [State.arrive_eq s p hc, h, hm]

/-! ### The checks -/

theorem State.takeRequest_refuses (s : State) {p : Port} {roles : List Port} (h : p ∉ roles)
    (kind : Byte) (n : Nat) (d turned : List Byte) (owner : State → State × Reply) :
    s.takeRequest p kind roles n d turned owner =
      s.busy p kind { result := .notPermitted, flags := noFlags, data := .fixed turned } := by
  simp [State.takeRequest, h]

theorem State.takeRequest_badLength (s : State) {p : Port} {roles : List Port} (h : p ∈ roles)
    {n : Nat} {d : List Byte} (hn : d.length ≠ n) (kind : Byte) (turned : List Byte)
    (owner : State → State × Reply) :
    s.takeRequest p kind roles n d turned owner =
      s.busy p kind { result := .badLength, flags := noFlags, data := .fixed turned } := by
  simp [State.takeRequest, h, hn]

theorem State.takeRequest_runs (s : State) {p : Port} {roles : List Port} (h : p ∈ roles)
    {n : Nat} {d : List Byte} (hn : d.length = n) (kind : Byte) (turned : List Byte)
    (owner : State → State × Reply) :
    s.takeRequest p kind roles n d turned owner = ((owner s).1).busy p kind (owner s).2 := by
  simp [State.takeRequest, h, hn]

/-! ### Ports under the shared operations -/

/-- The pass alone is what `closePass` changes. -/
theorem PortState.closePass_eq (q : PortState) :
    q.closePass = { q with noticePass := q.closePass.noticePass } := by
  unfold PortState.closePass; (repeat' split) <;> rfl

/-- A pass goes on or ends. -/
theorem PortState.closePass_pass (q : PortState) :
    q.closePass.noticePass = q.noticePass ∨ q.closePass.noticePass = 0 := by
  unfold PortState.closePass; (repeat' split) <;> simp

@[simp] theorem PortState.closePass_notices (q : PortState) : q.closePass.notices = q.notices := by
  rw [PortState.closePass_eq]
@[simp] theorem PortState.closePass_request (q : PortState) : q.closePass.request = q.request := by
  rw [PortState.closePass_eq]
@[simp] theorem PortState.closePass_line (q : PortState) : q.closePass.line = q.line := by
  rw [PortState.closePass_eq]; rfl

theorem State.raise_port (s : State) (p q : Port) (k : Notice) :
    (s.raise p k).port q = if q = p then (s.port p).raise k else s.port q := by
  by_cases h : q = p
  · subst h; simp [State.raise]
  · simp [State.raise, h, State.setPort_port_ne]

@[simp] theorem PortState.raise_notices (q : PortState) (k : Notice) :
    (q.raise k).notices = q.notices.put k true := by simp [PortState.raise]
@[simp] theorem PortState.raise_request (q : PortState) (k : Notice) :
    (q.raise k).request = q.request := by simp [PortState.raise]
@[simp] theorem PortState.raise_line (q : PortState) (k : Notice) : (q.raise k).line = q.line := by
  rw [PortState.raise, PortState.closePass_line]; rfl

/-- Where a kind made pending leaves the pass as it is or ends it. -/
theorem PortState.raise_pass (q : PortState) (k : Notice) :
    (q.raise k).noticePass = q.noticePass ∨ (q.raise k).noticePass = 0 :=
  PortState.closePass_pass _

@[simp] theorem State.raise_request (s : State) (p q : Port) (k : Notice) :
    ((s.raise p k).port q).request = (s.port q).request := by
  rw [State.raise_port]; split <;> simp_all

@[simp] theorem State.raise_line (s : State) (p q : Port) (k : Notice) :
    ((s.raise p k).port q).line = (s.port q).line := by
  rw [State.raise_port]; split <;> simp_all

theorem NoticeSet.put_has (n : NoticeSet) (k j : Notice) (b : Bool) :
    (n.put k b).has j = if j = k then b else n.has j := by
  cases k <;> cases j <;> rfl

/-- What raising a kind on one port makes pending. -/
theorem State.raise_has (s : State) (p q : Port) (k j : Notice) :
    ((s.raise p k).port q).notices.has j =
      (decide (q = p ∧ j = k) || (s.port q).notices.has j) := by
  rw [State.raise_port]
  by_cases h : q = p
  · subst h
    by_cases hj : j = k <;> simp [NoticeSet.put_has, hj]
  · simp [h]

@[simp] theorem State.raiseAll_request (s : State) (q : Port) (k : Notice) :
    ((s.raiseAll k).port q).request = (s.port q).request := by simp [State.raiseAll]

@[simp] theorem State.raiseAll_line (s : State) (q : Port) (k : Notice) :
    ((s.raiseAll k).port q).line = (s.port q).line := by simp [State.raiseAll]

/-- What raising a kind on every port makes pending. -/
theorem State.raiseAll_has (s : State) (q : Port) (k j : Notice) :
    ((s.raiseAll k).port q).notices.has j = (decide (j = k) || (s.port q).notices.has j) := by
  cases q <;> simp [State.raiseAll, State.raise_has]

@[simp] theorem State.busy_request (s : State) (p : Port) (k : Byte) (r : Reply) :
    ((s.busy p k r).port p).request = some (r.request k) := by simp [State.busy, Reply.request]

theorem State.busy_request_ne (s : State) {p q : Port} (h : q ≠ p) (k : Byte) (r : Reply) :
    ((s.busy p k r).port q).request = (s.port q).request := by
  simp [State.busy, State.setPort_port_ne _ _ h]

@[simp] theorem State.busy_line (s : State) (p q : Port) (k : Byte) (r : Reply) :
    ((s.busy p k r).port q).line = (s.port q).line := by
  by_cases h : q = p
  · subst h; simp [State.busy, PortState.line]
  · simp [State.busy, State.setPort_port_ne _ _ h]

@[simp] theorem State.busy_notices (s : State) (p q : Port) (k : Byte) (r : Reply) :
    ((s.busy p k r).port q).notices = (s.port q).notices := by
  by_cases h : q = p
  · subst h; simp [State.busy]
  · simp [State.busy, State.setPort_port_ne _ _ h]

/-- An answer stands when the owner has touched no request and no line. -/
theorem answered_busy {s t : State} (hr : ∀ q, (t.port q).request = (s.port q).request)
    (hl : ∀ q, (t.port q).line = (s.port q).line) (p : Port) (k : Byte) (r : Reply) :
    answered s (t.busy p k r) p k r :=
  ⟨State.busy_request t p k r, fun q h => by rw [State.busy_request_ne t h, hr],
    fun q => by rw [State.busy_line, hl]⟩

end Sys2Proof.Machine
end

