-- ==== Sys2Proof/Laws/Ops.lean ====
section
/-! SUPPORT. What each shared operation of the blocks does: FI's state, the hold-reason set, the demand,
the queue's head, the flush, the permit, the fault; and that none of them touches a port but for its
pending notices. -/

namespace Sys2Proof.Machine

/-! ### Ports: only notices become pending -/

/-- From `s` to `t` no request and no line of a port has changed, and every pending notice is still
pending. -/
def onlyNotices (s t : State) : Prop :=
  (∀ q, (t.port q).request = (s.port q).request) ∧ (∀ q, (t.port q).line = (s.port q).line) ∧
    ∀ q k, (s.port q).notices.has k = true → (t.port q).notices.has k = true

theorem onlyNotices.refl (s : State) : onlyNotices s s :=
  ⟨fun _ => rfl, fun _ => rfl, fun _ _ h => h⟩

theorem onlyNotices.raise {r s : State} (h : onlyNotices r s) (p : Port) (k : Notice) :
    onlyNotices r (s.raise p k) :=
  ⟨fun q => by simp [h.1 q], fun q => by simp [h.2.1 q],
    fun q j hj => by simp [State.raise_has, h.2.2 q j hj]⟩

theorem onlyNotices.raiseAll {r s : State} (h : onlyNotices r s) (k : Notice) :
    onlyNotices r (s.raiseAll k) := ((h.raise .job k).raise .blade k).raise .panel k

theorem onlyNotices.enter {r s : State} (h : onlyNotices r s) (st : FiState) :
    onlyNotices r (s.enter st) := by
  have h1 : onlyNotices r
      { s with fi := { s.fi with st := st, v := if st.still then 0 else s.fi.v } } := h
  by_cases hc : st.code = s.fi.st.code ∧ st.resume = s.fi.st.resume
  · simpa only [State.enter, if_pos hc] using h1
  · simpa only [State.enter, if_neg hc] using h1.raiseAll .state

theorem onlyNotices.holdFeed {r s : State} (h : onlyNotices r s) : onlyNotices r s.holdFeed := by
  unfold State.holdFeed; split <;> first | exact h.enter _ | exact h

theorem onlyNotices.resumeFeed {r s : State} (h : onlyNotices r s) :
    onlyNotices r s.resumeFeed := by
  unfold State.resumeFeed; split
  · exact h.enter _
  · exact onlyNotices.enter (s := { s with fi := { s.fi with v := 0 } }) h _
  · exact h

theorem onlyNotices.endJog {r s : State} (h : onlyNotices r s) (c : EndCause) :
    onlyNotices r (s.endJog c) := by
  unfold State.endJog; split <;> exact h

theorem onlyNotices.putHolds {r s : State} (h : onlyNotices r s) (x : HoldSet) :
    onlyNotices r (s.putHolds x) := by
  unfold State.putHolds; split
  · exact h
  · exact onlyNotices.raiseAll (s := { s with hj := { s.hj with holds := x } }) h .state

theorem onlyNotices.changeHolds {r s : State} (h : onlyNotices r s) (x : HoldSet) :
    onlyNotices r (s.changeHolds x) := by
  unfold State.changeHolds; (repeat' split)
  · exact (h.putHolds x).holdFeed
  · exact (h.putHolds x).resumeFeed
  · exact h.putHolds x

theorem onlyNotices.joinHold {r s : State} (h : onlyNotices r s) (b : Bool) (x : HoldSet) :
    onlyNotices r (s.joinHold b x) := by
  unfold State.joinHold; split
  · exact h
  · exact (h.changeHolds x).endJog .hold

theorem onlyNotices.recomputeDemand {r s : State} (h : onlyNotices r s) :
    onlyNotices r s.recomputeDemand := by
  unfold State.recomputeDemand; split
  · exact h
  · exact onlyNotices.raise (s := { s with fi := { s.fi with demand := s.demandNow } }) h _ _

theorem onlyNotices.applyCap {r s : State} (h : onlyNotices r s) : onlyNotices r s.applyCap := by
  unfold State.applyCap; split <;> exact h

theorem onlyNotices.dropHead {r s : State} (h : onlyNotices r s) : onlyNotices r s.dropHead := by
  unfold State.dropHead; dsimp only; split
  · exact onlyNotices.raise (s := { s with cq := { s.cq with entries := s.cq.entries.tail } }) h _ _
  · exact h

theorem onlyNotices.takeEntry {r s : State} (h : onlyNotices r s) (e : Entry) :
    onlyNotices r (s.takeEntry e) :=
  onlyNotices.recomputeDemand (s := s.dropHead.makeActive e) h.dropHead

theorem onlyNotices.releaseContour {r s : State} (h : onlyNotices r s) :
    onlyNotices r s.releaseContour := by
  unfold State.releaseContour; split
  · exact h
  · exact onlyNotices.putHolds
      (s := { s with fi := { s.fi with contour := none },
                     sd := { s.sd with slow := false, clearing := 0 } }) h _

theorem onlyNotices.flush {r s : State} (h : onlyNotices r s) : onlyNotices r s.flush := by
  unfold State.flush
  refine onlyNotices.recomputeDemand (onlyNotices.releaseContour ?_)
  exact h

theorem onlyNotices.lowerPermit {r s : State} (h : onlyNotices r s) :
    onlyNotices r s.lowerPermit := by
  unfold State.lowerPermit; split <;> exact h

theorem onlyNotices.endStop {r s : State} (h : onlyNotices r s) : onlyNotices r s.endStop := by
  unfold State.endStop
  refine onlyNotices.flush ?_
  exact (h.enter .stopped).lowerPermit

theorem onlyNotices.beginStop {r s : State} (h : onlyNotices r s) : onlyNotices r s.beginStop := by
  have h1 := (h.endJog .fault).enter (.stopping s.fi.st.stopMode)
  simp only [State.beginStop]
  generalize (if (s.hj.phase.turnsH && decide (s.fi.st = .jog)) = true then 0 else
    ((s.endJog .fault).enter (.stopping s.fi.st.stopMode)).fi.v) = v
  split
  · exact onlyNotices.endStop (s := { (s.endJog .fault).enter (.stopping s.fi.st.stopMode) with
      fi := { ((s.endJog .fault).enter (.stopping s.fi.st.stopMode)).fi with v := v } }) h1
  · exact h1

theorem onlyNotices.recordFault {r s : State} (h : onlyNotices r s) (c : Cause) :
    onlyNotices r (s.recordFault c) := by
  unfold State.recordFault
  exact onlyNotices.raiseAll
    (s := { s with sv := { s.sv with record := some (s.faultRecord c), stopTimer := 0 } }) h .fault

theorem onlyNotices.reportFault {r s : State} (h : onlyNotices r s) (c : Cause) :
    onlyNotices r (s.reportFault c) := by
  unfold State.reportFault; split
  · exact (h.recordFault c).beginStop
  · exact h

theorem onlyNotices.setSlow {r s : State} (h : onlyNotices r s) (b : Bool) (n : Nat) :
    onlyNotices r (s.setSlow b n) := by
  unfold State.setSlow; dsimp only; split
  · exact h
  · exact onlyNotices.changeHolds
      (s := { s with sd := { s.sd with slow := b, clearing := n } }) h _

theorem onlyNotices.dispatchNow {r s : State} (h : onlyNotices r s) :
    onlyNotices r s.dispatchNow := by
  unfold State.dispatchNow; (repeat' split) <;>
    first
      | exact h.enter _
      | exact onlyNotices.enter
          (s := { s.takeEntry _ with fi := { (s.takeEntry _).fi with v := 0 } }) (h.takeEntry _) _

/-- An answer on top of operations that only raise notices. -/
theorem answered_of_onlyNotices {s t : State} (h : onlyNotices s t) (p : Port) (k : Byte)
    (r : Reply) : answered s (t.busy p k r) p k r := answered_busy h.1 h.2.1 p k r

/-! ### FI's state -/

/-- What entering a state does to FI. -/
theorem State.enter_fi (s : State) (st : FiState) :
    (s.enter st).fi = { s.fi with st := st, v := if st.still then 0 else s.fi.v } := by
  by_cases hc : st.code = s.fi.st.code ∧ st.resume = s.fi.st.resume
  · simp only [State.enter, if_pos hc]
  · simp only [State.enter, if_neg hc, State.raiseAll_fi]

/-- What entering a state makes pending. -/
theorem State.enter_has (s : State) (st : FiState) (q : Port) (k : Notice) :
    ((s.enter st).port q).notices.has k =
      (decide (k = .state ∧ ¬(st.code = s.fi.st.code ∧ st.resume = s.fi.st.resume))
        || (s.port q).notices.has k) := by
  by_cases hc : st.code = s.fi.st.code ∧ st.resume = s.fi.st.resume
  · simp only [State.enter, hc, and_self, not_true_eq_false, and_false, decide_false,
      Bool.false_or]
    cases q <;> rfl
  · simp only [State.enter, if_neg hc, State.raiseAll_has]
    simp only [hc, not_false_eq_true, and_true]
    cases q <;> rfl

/-- Entering a state of another code makes STATE pending everywhere. -/
theorem State.enter_pendingAll (s : State) (st : FiState) (h : st.code ≠ s.fi.st.code) :
    pendingAll (s.enter st) .state := by
  intro q; simp [State.enter_has, h]

/-- What a first end cause does to the jog. -/
theorem State.endJog_hj (s : State) (c : EndCause) :
    (s.endJog c).hj = match s.hj.phase with
      | .running m => { s.hj with phase := .ending m, endCause := some c }
      | _ => s.hj := by
  unfold State.endJog; split <;> simp_all

theorem State.endJog_rest (s : State) (c : EndCause) :
    (s.endJog c) = { s with hj := (s.endJog c).hj } := by
  unfold State.endJog; split <;> rfl

/-! ### The hold-reason set -/

@[simp] theorem State.putHolds_hj (s : State) (h : HoldSet) :
    (s.putHolds h).hj = { s.hj with holds := h } := by
  unfold State.putHolds; split
  · rename_i e; rw [e]
  · simp

theorem State.putHolds_has (s : State) (h : HoldSet) (q : Port) (k : Notice) :
    ((s.putHolds h).port q).notices.has k =
      (decide (k = .state ∧ h ≠ s.hj.holds) || (s.port q).notices.has k) := by
  unfold State.putHolds; split
  · rename_i e; simp [e]
  · rename_i e; rw [State.raiseAll_has]; simp only [e, ne_eq, not_false_eq_true, and_true]
    cases q <;> rfl

/-- What a change of the set does: HJ holds it, and FI reacts to its becoming non-empty or empty. -/
theorem State.changeHolds_hj (s : State) (h : HoldSet) :
    (s.changeHolds h).hj = { s.hj with holds := h } := by
  unfold State.changeHolds; (repeat' split) <;> simp

theorem State.changeHolds_fi (s : State) (h : HoldSet) :
    (s.changeHolds h).fi =
      if s.hj.holds.any = false ∧ h.any = true then (s.putHolds h).holdFeed.fi
      else if s.hj.holds.any = true ∧ h.any = false then (s.putHolds h).resumeFeed.fi
      else s.fi := by
  unfold State.changeHolds; cases s.hj.holds.any <;> cases h.any <;> simp

/-- A change of the set makes STATE pending everywhere. -/
theorem State.changeHolds_pendingAll (s : State) (h : HoldSet) (hne : h ≠ s.hj.holds) :
    pendingAll (s.changeHolds h) .state := by
  intro q
  have base : ((s.putHolds h).port q).notices.has .state = true := by simp [State.putHolds_has, hne]
  unfold State.changeHolds; (repeat' split)
  · exact (onlyNotices.refl _).holdFeed.2.2 q _ base
  · exact (onlyNotices.refl _).resumeFeed.2.2 q _ base
  · exact base

/-! ### The demand and the head of the queue -/

/-- The demand after it is recomputed from its source. -/
theorem State.recomputeDemand_fi (s : State) :
    s.recomputeDemand.fi = { s.fi with demand := s.demandNow } := by
  unfold State.recomputeDemand; split
  · rename_i h; rw [h]
  · simp

theorem State.recomputeDemand_has (s : State) (q : Port) (k : Notice) :
    (s.recomputeDemand.port q).notices.has k =
      (decide (q = .blade ∧ k = .demand ∧ s.demandNow ≠ s.fi.demand)
        || (s.port q).notices.has k) := by
  unfold State.recomputeDemand; split
  · rename_i h; simp [h]
  · rename_i h; rw [State.raise_has]; simp only [h, ne_eq, not_false_eq_true, and_true]
    cases q <;> rfl

theorem State.applyCap_fi (s : State) :
    s.applyCap.fi = { s.fi with v := if s.fi.st.capped then min s.fi.v s.cap else s.fi.v } := by
  unfold State.applyCap; split <;> simp_all

theorem State.dropHead_cq (s : State) :
    s.dropHead.cq = { s.cq with entries := s.cq.entries.tail } := by
  unfold State.dropHead; dsimp only; split <;> simp

/-- REFILL becomes pending exactly at the downward crossing of the refill level (R19). -/
theorem State.dropHead_has (s : State) (q : Port) (k : Notice) :
    (s.dropHead.port q).notices.has k =
      (decide (q = .job ∧ k = .refill ∧ s.cq.refill < s.cq.entries.length ∧
        s.cq.entries.length - 1 ≤ s.cq.refill) || (s.port q).notices.has k) := by
  unfold State.dropHead; dsimp only; split
  · rename_i h; rw [State.raise_has]; simp only [h, and_true]
    cases q <;> rfl
  · rename_i h; simp only [h, and_false, decide_false, Bool.false_or]; cases q <;> rfl

theorem State.takeEntry_cq (s : State) (e : Entry) :
    (s.takeEntry e).cq = { s.cq with entries := s.cq.entries.tail } := by
  simp [State.takeEntry, State.dropHead_cq]

theorem State.takeEntry_fi (s : State) (e : Entry) :
    (s.takeEntry e).fi = { s.fi with active := some e, done := 0,
                                     heading := e.entryHeading.getD s.fi.heading,
                                     demand := (s.dropHead.makeActive e).demandNow } := by
  simp [State.takeEntry, State.recomputeDemand_fi, State.makeActive]

/-! ### The contour record, the flush -/

theorem State.releaseContour_fi (s : State) :
    s.releaseContour.fi = { s.fi with contour := none } := by
  unfold State.releaseContour; split
  · rename_i h; rw [← h]
  · simp

theorem State.releaseContour_sd (s : State) :
    s.releaseContour.sd =
      if s.fi.contour.isSome then { s.sd with slow := false, clearing := 0 } else s.sd := by
  unfold State.releaseContour; split <;> simp_all

theorem State.releaseContour_hj (s : State) :
    s.releaseContour.hj = if s.fi.contour.isSome then
      { s.hj with holds := { s.hj.holds with slow := false, driveOff := false } } else s.hj := by
  unfold State.releaseContour; split <;> simp_all

/-- With no contour and an empty queue the demand is 0 (R58). -/
theorem State.demandNow_idle (s : State) (hc : s.fi.contour = none) (hq : s.cq.entries = []) :
    s.demandNow = 0 := by simp [State.demandNow, hc, hq]

/-- What the flush leaves of FI (R20, R90). -/
theorem State.flush_fi (s : State) :
    s.flush.fi = { s.fi with v := 0, rem := 0, active := none, done := 0, contour := none,
                             demand := 0 } := by
  unfold State.flush
  rw [State.recomputeDemand_fi, State.demandNow_idle _ (by simp [State.releaseContour_fi]) (by simp)]
  simp [State.releaseContour_fi]

/-- What the flush leaves of CQ (R20, R22). -/
theorem State.flush_cq (s : State) :
    s.flush.cq = { s.cq with
      abandoned := (s.fi.active.toList ++ s.cq.entries).findSome? Entry.tag
      entries := [], inContour := false, openTag := none, tailKind := none
      tail := ⟨s.fi.x, s.fi.y⟩, tailHeading := s.fi.heading } := by
  simp [State.flush, State.firstTag]

theorem State.flush_sd (s : State) :
    s.flush.sd =
      if s.fi.contour.isSome then { s.sd with slow := false, clearing := 0 } else s.sd := by
  simp [State.flush, State.releaseContour_sd]

theorem State.flush_hj (s : State) :
    s.flush.hj = if s.fi.contour.isSome then
      { s.hj with holds := { s.hj.holds with slow := false, driveOff := false } } else s.hj := by
  simp [State.flush, State.releaseContour_hj]

/-! ### The permit and the quick stop -/

/-- What the fall of the permit does (R145, R157). -/
theorem State.lowerPermit_sv (s : State) : s.lowerPermit.sv = { s.sv with permit := false } := by
  unfold State.lowerPermit; split
  · rfl
  · rename_i h; simp at h; rw [← h]

theorem State.lowerPermit_ap (s : State) :
    s.lowerPermit.ap = if s.sv.permit then
      { s.ap with x := s.ap.x.discard, y := s.ap.y.discard, h := s.ap.h.discard } else s.ap := by
  unfold State.lowerPermit; split <;> simp

theorem State.lowerPermit_rest (s : State) :
    s.lowerPermit = { s with sv := s.lowerPermit.sv, ap := s.lowerPermit.ap } := by
  unfold State.lowerPermit; split <;> rfl

/-- What the end of the quick stop leaves of FI (R94, R157). -/
theorem State.endStop_fi (s : State) :
    s.endStop.fi = { s.fi with st := .stopped, v := 0, rem := 0, active := none, done := 0,
                               contour := none, demand := 0 } := by
  simp [State.endStop, State.flush_fi, State.enter_fi]

theorem State.endStop_sv (s : State) : s.endStop.sv = { s.sv with permit := false } := by
  simp [State.endStop, State.lowerPermit_sv]

theorem State.endStop_ap (s : State) :
    s.endStop.ap = if s.sv.permit then
      { s.ap with x := s.ap.x.discard, y := s.ap.y.discard, h := s.ap.h.discard } else s.ap := by
  simp [State.endStop, State.lowerPermit_ap]

theorem State.endStop_phase (s : State) : s.endStop.hj.phase = .none := by
  simp only [State.endStop, State.flush_hj]; split <;> rfl

theorem State.endStop_cq (s : State) :
    s.endStop.cq = { s.cq with
      abandoned := (s.fi.active.toList ++ s.cq.entries).findSome? Entry.tag
      entries := [], inContour := false, openTag := none, tailKind := none
      tail := ⟨s.fi.x, s.fi.y⟩, tailHeading := s.fi.heading } := by
  simp [State.endStop, State.flush_cq, State.enter_fi]

@[simp] theorem State.recordFault_sv (s : State) (c : Cause) :
    (s.recordFault c).sv = { s.sv with record := some (s.faultRecord c), stopTimer := 0 } := by
  simp [State.recordFault]

theorem State.recordFault_pendingAll (s : State) (c : Cause) :
    pendingAll (s.recordFault c) .fault := by
  intro q; simp [State.recordFault, State.raiseAll_has]

/-- The quick stop a first fault begins: FAULT STOPPING, with v 0 for an H jog, ended at once where v
is 0 (R93). -/
theorem State.beginStop_eq (s : State) :
    s.beginStop =
      (let s1 := (s.endJog .fault).enter (.stopping s.fi.st.stopMode)
       let v := if s.hj.phase.turnsH = true ∧ s.fi.st = .jog then 0 else s.fi.v
       let s2 : State := { s1 with fi := { s1.fi with v := v } }
       if v = 0 then s2.endStop else s2) := by
  simp only [State.beginStop, State.enter_fi, State.endJog_fi, FiState.still, Bool.and_eq_true,
    decide_eq_true_eq, Bool.false_eq_true, if_false]

theorem State.beginStop_record (s : State) : s.beginStop.sv.record = s.sv.record := by
  rw [State.beginStop_eq]; dsimp only
  generalize (if s.hj.phase.turnsH = true ∧ s.fi.st = .jog then 0 else s.fi.v) = v
  split <;> simp [State.endStop_sv]

theorem State.beginStop_stopTimer (s : State) : s.beginStop.sv.stopTimer = s.sv.stopTimer := by
  rw [State.beginStop_eq]; dsimp only
  generalize (if s.hj.phase.turnsH = true ∧ s.fi.st = .jog then 0 else s.fi.v) = v
  split <;> simp [State.endStop_sv]

theorem State.beginStop_further (s : State) : s.beginStop.sv.further = s.sv.further := by
  rw [State.beginStop_eq]; dsimp only
  generalize (if s.hj.phase.turnsH = true ∧ s.fi.st = .jog then 0 else s.fi.v) = v
  split <;> simp [State.endStop_sv]

theorem State.beginStop_isFault (s : State) : s.beginStop.fi.st.isFault = true := by
  rw [State.beginStop_eq]; dsimp only
  generalize (if s.hj.phase.turnsH = true ∧ s.fi.st = .jog then 0 else s.fi.v) = v
  split <;> simp [State.endStop_fi, State.enter_fi, FiState.isFault]

/-- A quick stop changes SD only by the release of the contour. -/
theorem State.beginStop_sd (s : State) :
    s.beginStop.sd = { s.sd with slow := s.beginStop.sd.slow, clearing := s.beginStop.sd.clearing } := by
  rw [State.beginStop_eq]; dsimp only
  generalize (if s.hj.phase.turnsH = true ∧ s.fi.st = .jog then 0 else s.fi.v) = v
  split
  · simp only [State.endStop, State.flush_sd]; split <;> simp
  · simp

theorem State.reportFault_first (s : State) (c : Cause) (h : s.sv.record = none) :
    s.reportFault c = (s.recordFault c).beginStop := by simp [State.reportFault, h]

theorem State.reportFault_further (s : State) (c : Cause) (r : FaultRecord)
    (h : s.sv.record = some r) : s.reportFault c = s.furtherFault := by
  simp [State.reportFault, h]

/-- What the report of a first fault leaves (R152 to R154). -/
theorem State.reportFault_facts (s : State) (c : Cause) (h : s.sv.record = none) :
    (s.reportFault c).sv.record = some (s.faultRecord c) ∧ (s.reportFault c).sv.stopTimer = 0 ∧
      (s.reportFault c).sv.further = s.sv.further ∧ pendingAll (s.reportFault c) .fault ∧
      (s.reportFault c).fi.st.isFault = true := by
  rw [State.reportFault_first s c h]
  refine ⟨?_, ?_, ?_, ?_, State.beginStop_isFault _⟩
  · rw [State.beginStop_record, State.recordFault_sv]
  · rw [State.beginStop_stopTimer, State.recordFault_sv]
  · rw [State.beginStop_further, State.recordFault_sv]
  · intro q
    exact (onlyNotices.refl _).beginStop.2.2 q _ (State.recordFault_pendingAll s c q)

/-- A heading taken in leaves no turn of H to hand (R140). -/
@[simp] theorem Pulses.takeHeading_unwrap (p : Pulses) (h stepH : Nat) :
    (p.takeHeading h stepH).unwrap h = p.unwrap h := by
  simp [Pulses.takeHeading, Pulses.unwrap, normalise]

/-- The hand-off that follows the rise of MPERMIT owes H nothing (R146). -/
theorem State.raisePermit_handOff_laid (s : State) : s.raisePermit.handOff.ap.h.laid = 0 := by
  have h : s.raisePermit.ap.unwrap s.fi.h = s.ap.unwrap s.fi.h := by simp
  simp only [State.handOff, State.raisePermit_fi, State.raisePermit_gt, h]
  simp only [State.raisePermit_ap, Pulses.takeHeading, AxisOut.handOff]
  split <;> simp

/-- What CLEAR_FAULT leaves of AP: the rise of MPERMIT takes the heading in (R146, R165). -/
@[simp] theorem State.clearFault_ap (s : State) :
    s.clearFault.ap = s.ap.takeHeading s.fi.h s.gt.settings.stepH := by
  simp [State.clearFault, State.enter_fi, State.flush_fi]

/-- A hand-off to one axis gives what the rules say of it (R141, R143, R145). -/
theorem AxisOut.handOff_eq_handed (a : AxisOut) (target : Int) (permitted : Bool) :
    a.handOff target permitted = a.handed target permitted := by
  unfold AxisOut.handOff AxisOut.handed
  by_cases h0 : target - a.output = 0
  · simp [h0]
  · by_cases h : (target - a.output).natAbs ≤ 500
    · simp [h0, h, Nat.not_lt.mpr h]
    · have h500 : 500 < (target - a.output).natAbs := Nat.lt_of_not_le h
      simp [h0, h, h500, Nat.min_eq_right h500.le, saturate]

/-- The hand-off of FI's position, but for the slot clock, which the tick restarts (R69, R139, R140). -/
theorem State.handOff_ap (s : State) :
    s.handOff.ap = { s.handedTo s.fi with slotClock := s.ap.slotClock } := by
  simp [State.handOff, State.handedTo, Pulses.unwrap, targetOf, AxisOut.handOff_eq_handed]

/-- What AP discards where the permit state falls (R145). -/
theorem State.lowerPermit_fallen (s : State) : s.lowerPermit.ap = s.ap.fallen s.sv.permit := by
  rw [State.lowerPermit_ap]; rfl

end Sys2Proof.Machine
end

