-- ==== Sys2Proof/Laws/Commands.lean ====
section
/-! SUPPORT. One lemma per request: taken at once by the handler of a port that may send it, with a payload
of the right length, its owner acts and the answer stands with the handler (R187, R188). -/

namespace Sys2Proof.Machine

theorem exec_online {s : State} {p : Port} {d : List Byte} (h : s.listens p = true)
    (hp : p ∈ (jobOnly : List Port)) (hd : d.length = 0) :
    exec (.online p d) s = .next (((ownOnline d s).1).busy p 0x01 (ownOnline d s).2) := by
  show execOnline p d s = _
  rw [execOnline]
  rw [clocked_arrive h (by omega), takeOnline, State.takeRequest_runs s hp hd]

theorem exec_run {s : State} {p : Port} {d : List Byte} (h : s.listens p = true)
    (hp : p ∈ (jobOnly : List Port)) (hd : d.length = 0) :
    exec (.run p d) s = .next (((ownRun d s).1).busy p 0x14 (ownRun d s).2) := by
  show execRun p d s = _
  rw [execRun]
  rw [clocked_arrive h (by omega), takeRun, State.takeRequest_runs s hp hd]

theorem exec_pauseAfter {s : State} {p : Port} {d : List Byte} (h : s.listens p = true)
    (hp : p ∈ (jobOnly : List Port)) (hd : d.length = 0) :
    exec (.pauseAfter p d) s = .next (((ownPauseAfter d s).1).busy p 0x15 (ownPauseAfter d s).2) := by
  show execPauseAfter p d s = _
  rw [execPauseAfter]
  rw [clocked_arrive h (by omega), takePauseAfter, State.takeRequest_runs s hp hd]

theorem exec_flush {s : State} {p : Port} {d : List Byte} (h : s.listens p = true)
    (hp : p ∈ (jobOnly : List Port)) (hd : d.length = 0) :
    exec (.flush p d) s = .next (((ownFlush d s).1).busy p 0x16 (ownFlush d s).2) := by
  show execFlush p d s = _
  rw [execFlush]
  rw [clocked_arrive h (by omega), takeFlush, State.takeRequest_runs s hp hd]

theorem exec_resetCut {s : State} {p : Port} {d : List Byte} (h : s.listens p = true)
    (hp : p ∈ (jobOnly : List Port)) (hd : d.length = 0) :
    exec (.resetCut p d) s = .next (((ownResetCut d s).1).busy p 0x17 (ownResetCut d s).2) := by
  show execResetCut p d s = _
  rw [execResetCut]
  rw [clocked_arrive h (by omega), takeResetCut, State.takeRequest_runs s hp hd]

theorem exec_clearFault {s : State} {p : Port} {d : List Byte} (h : s.listens p = true)
    (hp : p ∈ (jobOnly : List Port)) (hd : d.length = 0) :
    exec (.clearFault p d) s = .next (((ownClearFault d s).1).busy p 0x18 (ownClearFault d s).2) := by
  show execClearFault p d s = _
  rw [execClearFault]
  rw [clocked_arrive h (by omega), takeClearFault, State.takeRequest_runs s hp hd]

theorem exec_armSupervision {s : State} {p : Port} {d : List Byte} (h : s.listens p = true)
    (hp : p ∈ (jobOnly : List Port)) (hd : d.length = 0) :
    exec (.armSupervision p d) s = .next (((ownArm d s).1).busy p 0x06 (ownArm d s).2) := by
  show execArmSupervision p d s = _
  rw [execArmSupervision]
  rw [clocked_arrive h (by omega), takeArmSupervision, State.takeRequest_runs s hp hd]

theorem exec_syncTime {s : State} {p : Port} {d : List Byte} (h : s.listens p = true)
    (hp : p ∈ (jobOnly : List Port)) (hd : d.length = 0) :
    exec (.syncTime p d) s = .next (((ownSyncTime d s).1).busy p 0x07 (ownSyncTime d s).2) := by
  show execSyncTime p d s = _
  rw [execSyncTime]
  rw [clocked_arrive h (by omega), takeSyncTime, State.takeRequest_runs s hp hd]

theorem exec_setJogLock {s : State} {p : Port} {d : List Byte} (h : s.listens p = true)
    (hp : p ∈ (jobOnly : List Port)) (hd : d.length = 1) :
    exec (.setJogLock p d) s = .next (((ownJogLock d s).1).busy p 0x08 (ownJogLock d s).2) := by
  show execSetJogLock p d s = _
  rw [execSetJogLock]
  rw [clocked_arrive h (by omega), takeSetJogLock, State.takeRequest_runs s hp hd]

theorem exec_hold {s : State} {p : Port} {d : List Byte} (h : s.listens p = true)
    (hp : p ∈ (anyPort : List Port)) (hd : d.length = 0) :
    exec (.hold p d) s = .next (((ownHold p d s).1).busy p 0x19 (ownHold p d s).2) := by
  show execHold p d s = _
  rw [execHold]
  rw [clocked_arrive h (by omega), takeHold, State.takeRequest_runs s hp hd]

theorem exec_release {s : State} {p : Port} {d : List Byte} (h : s.listens p = true)
    (hp : p ∈ (anyPort : List Port)) (hd : d.length = 0) :
    exec (.release p d) s = .next (((ownRelease p d s).1).busy p 0x1A (ownRelease p d s).2) := by
  show execRelease p d s = _
  rw [execRelease]
  rw [clocked_arrive h (by omega), takeRelease, State.takeRequest_runs s hp hd]

theorem exec_bladeState {s : State} {p : Port} {d : List Byte} (h : s.listens p = true)
    (hp : p ∈ ([.blade] : List Port)) (hd : d.length = 1) :
    exec (.bladeState p d) s = .next (((ownBladeState d s).1).busy p 0x1B (ownBladeState d s).2) := by
  show execBladeState p d s = _
  rw [execBladeState]
  rw [clocked_arrive h (by omega), takeBladeState, State.takeRequest_runs s hp hd]

theorem exec_setOverride {s : State} {p : Port} {d : List Byte} (h : s.listens p = true)
    (hp : p ∈ ([.panel] : List Port)) (hd : d.length = 2) :
    exec (.setOverride p d) s = .next (((ownOverride d s).1).busy p 0x1D (ownOverride d s).2) := by
  show execSetOverride p d s = _
  rw [execSetOverride]
  rw [clocked_arrive h (by omega), takeSetOverride, State.takeRequest_runs s hp hd]

theorem exec_jogStart {s : State} {p : Port} {d : List Byte} (h : s.listens p = true)
    (hp : p ∈ ([.panel] : List Port)) (hd : d.length = 5) :
    exec (.jogStart p d) s = .next (((ownJogStart d s).1).busy p 0x1E (ownJogStart d s).2) := by
  show execJogStart p d s = _
  rw [execJogStart]
  rw [clocked_arrive h (by omega), takeJogStart, State.takeRequest_runs s hp hd]

theorem exec_jogKeep {s : State} {p : Port} {d : List Byte} (h : s.listens p = true)
    (hp : p ∈ ([.panel] : List Port)) (hd : d.length = 0) :
    exec (.jogKeep p d) s = .next (((ownJogKeep d s).1).busy p 0x1F (ownJogKeep d s).2) := by
  show execJogKeep p d s = _
  rw [execJogKeep]
  rw [clocked_arrive h (by omega), takeJogKeep, State.takeRequest_runs s hp hd]

theorem exec_jogEnd {s : State} {p : Port} {d : List Byte} (h : s.listens p = true)
    (hp : p ∈ ([.panel] : List Port)) (hd : d.length = 0) :
    exec (.jogEnd p d) s = .next (((ownJogEnd d s).1).busy p 0x20 (ownJogEnd d s).2) := by
  show execJogEnd p d s = _
  rw [execJogEnd]
  rw [clocked_arrive h (by omega), takeJogEnd, State.takeRequest_runs s hp hd]

theorem exec_readProgress {s : State} {p : Port} {d : List Byte} (h : s.listens p = true)
    (hp : p ∈ (anyPort : List Port)) (hd : d.length = 0) :
    exec (.readProgress p d) s = .next (((ownProgress d s).1).busy p 0x21 (ownProgress d s).2) := by
  show execReadProgress p d s = _
  rw [execReadProgress]
  rw [clocked_arrive h (by omega), takeReadProgress, State.takeRequest_runs s hp hd]

theorem exec_readStatus {s : State} {p : Port} {d : List Byte} (h : s.listens p = true)
    (hp : p ∈ (anyPort : List Port)) (hd : d.length = 1) :
    exec (.readStatus p d) s = .next (((ownStatus d s).1).busy p 0x22 (ownStatus d s).2) := by
  show execReadStatus p d s = _
  rw [execReadStatus]
  rw [clocked_arrive h (by omega), takeReadStatus, State.takeRequest_runs s hp hd]

theorem exec_readStroke {s : State} {p : Port} {d : List Byte} (h : s.listens p = true)
    (hp : p ∈ (anyPort : List Port)) (hd : d.length = 0) :
    exec (.readStroke p d) s = .next (((ownStroke d s).1).busy p 0x23 (ownStroke d s).2) := by
  show execReadStroke p d s = _
  rw [execReadStroke]
  rw [clocked_arrive h (by omega), takeReadStroke, State.takeRequest_runs s hp hd]

theorem exec_readGrade {s : State} {p : Port} {d : List Byte} (h : s.listens p = true)
    (hp : p ∈ (anyPort : List Port)) (hd : d.length = 2) :
    exec (.readGrade p d) s = .next (((ownReadGrade d s).1).busy p 0x24 (ownReadGrade d s).2) := by
  show execReadGrade p d s = _
  rw [execReadGrade]
  rw [clocked_arrive h (by omega), takeReadGrade, State.takeRequest_runs s hp hd]

theorem exec_readPort {s : State} {p : Port} {d : List Byte} (h : s.listens p = true)
    (hp : p ∈ (anyPort : List Port)) (hd : d.length = 1) :
    exec (.readPort p d) s = .next (((ownReadPort d s).1).busy p 0x25 (ownReadPort d s).2) := by
  show execReadPort p d s = _
  rw [execReadPort]
  rw [clocked_arrive h (by omega), takeReadPort, State.takeRequest_runs s hp hd]

theorem exec_setBaud {s : State} {p : Port} {d : List Byte} (h : s.listens p = true)
    (hp : p ∈ (anyPort : List Port)) (hd : d.length = 2) :
    exec (.setBaud p d) s = .next (((ownSetBaud p d s).1).busy p 0x27 (ownSetBaud p d s).2) := by
  show execSetBaud p d s = _
  rw [execSetBaud]
  rw [clocked_arrive h (by omega), takeSetBaud, State.takeRequest_runs s hp hd]

theorem exec_queueTraverse {s : State} {p : Port} {d : List Byte} (h : s.listens p = true)
    (hp : p ∈ (jobOnly : List Port)) (hd : d.length = 6) :
    exec (.queueTraverse p d) s = .next (((ownTraverse d s).1).busy p 0x10 (ownTraverse d s).2) := by
  show execQueueTraverse p d s = _
  rw [execQueueTraverse]
  rw [clocked_arrive h (by omega), takeQueueTraverse, State.takeRequest_runs s hp hd]

theorem exec_queueOpen {s : State} {p : Port} {d : List Byte} (h : s.listens p = true)
    (hp : p ∈ (jobOnly : List Port)) (hd : d.length = 12) :
    exec (.queueOpen p d) s = .next (((ownOpen d s).1).busy p 0x11 (ownOpen d s).2) := by
  show execQueueOpen p d s = _
  rw [execQueueOpen]
  rw [clocked_arrive h (by omega), takeQueueOpen, State.takeRequest_runs s hp hd]

theorem exec_queueLine {s : State} {p : Port} {d : List Byte} (h : s.listens p = true)
    (hp : p ∈ (jobOnly : List Port)) (hd : d.length = 7) :
    exec (.queueLine p d) s = .next (((ownLine d s).1).busy p 0x12 (ownLine d s).2) := by
  show execQueueLine p d s = _
  rw [execQueueLine]
  rw [clocked_arrive h (by omega), takeQueueLine, State.takeRequest_runs s hp hd]

theorem exec_queueArc {s : State} {p : Port} {d : List Byte} (h : s.listens p = true)
    (hp : p ∈ (jobOnly : List Port)) (hd : d.length = 13) :
    exec (.queueArc p d) s = .next (((ownArc d s).1).busy p 0x13 (ownArc d s).2) := by
  show execQueueArc p d s = _
  rw [execQueueArc]
  rw [clocked_arrive h (by omega), takeQueueArc, State.takeRequest_runs s hp hd]

theorem exec_setLevels {s : State} {p : Port} {d : List Byte} (h : s.listens p = true)
    (hp : p ∈ (jobOnly : List Port)) (hd : d.length = 2) :
    exec (.setLevels p d) s = .next (((ownLevels d s).1).busy p 0x04 (ownLevels d s).2) := by
  show execSetLevels p d s = _
  rw [execSetLevels]
  rw [clocked_arrive h (by omega), takeSetLevels, State.takeRequest_runs s hp hd]

theorem exec_setOrigin {s : State} {p : Port} {d : List Byte} (h : s.listens p = true)
    (hp : p ∈ (jobOnly : List Port)) (hd : d.length = 6) :
    exec (.setOrigin p d) s = .next (((ownOrigin d s).1).busy p 0x05 (ownOrigin d s).2) := by
  show execSetOrigin p d s = _
  rw [execSetOrigin]
  rw [clocked_arrive h (by omega), takeSetOrigin, State.takeRequest_runs s hp hd]

theorem exec_setGrade {s : State} {p : Port} {d : List Byte} (h : s.listens p = true)
    (hp : p ∈ (jobOnly : List Port)) (hd : d.length = 14) :
    exec (.setGrade p d) s = .next (((ownGrade d s).1).busy p 0x03 (ownGrade d s).2) := by
  show execSetGrade p d s = _
  rw [execSetGrade]
  rw [clocked_arrive h (by omega), takeSetGrade, State.takeRequest_runs s hp hd]

theorem exec_setMachine {s : State} {p : Port} {d : List Byte} (h : s.listens p = true)
    (hp : p ∈ (jobOnly : List Port)) (hd : d.length = 5) :
    exec (.setMachine p d) s = .next (((ownMachine d s).1).busy p 0x02 (ownMachine d s).2) := by
  show execSetMachine p d s = _
  rw [execSetMachine]
  rw [clocked_arrive h (by omega), takeSetMachine, State.takeRequest_runs s hp hd]

theorem exec_setBladeOffset {s : State} {p : Port} {d : List Byte} (h : s.listens p = true)
    (hp : p ∈ ([.blade] : List Port)) (hd : d.length = 2) :
    exec (.setBladeOffset p d) s = .next (((ownOffset d s).1).busy p 0x1C (ownOffset d s).2) := by
  show execSetBladeOffset p d s = _
  rw [execSetBladeOffset]
  rw [clocked_arrive h (by omega), takeSetBladeOffset, State.takeRequest_runs s hp hd]

end Sys2Proof.Machine
end

