-- ==== Sys2Proof/Laws/Frames.lean ====
section
/-! SUPPORT. What each operation of the blocks leaves unchanged, one lemma per field. -/

namespace Sys2Proof.Machine

/-! `State.commitAt` -/

@[simp] theorem State.commitAt_pins (s : State) (pt : Point) (heading : Nat) : (s.commitAt pt heading).pins = s.pins := rfl
@[simp] theorem State.commitAt_subMicro (s : State) (pt : Point) (heading : Nat) : (s.commitAt pt heading).subMicro = s.subMicro := rfl
@[simp] theorem State.commitAt_tb (s : State) (pt : Point) (heading : Nat) : (s.commitAt pt heading).tb = s.tb := rfl
@[simp] theorem State.commitAt_gt (s : State) (pt : Point) (heading : Nat) : (s.commitAt pt heading).gt = s.gt := rfl
@[simp] theorem State.commitAt_cq (s : State) (pt : Point) (heading : Nat) : (s.commitAt pt heading).cq = s.cq := rfl
@[simp] theorem State.commitAt_sd (s : State) (pt : Point) (heading : Nat) : (s.commitAt pt heading).sd = s.sd := rfl
@[simp] theorem State.commitAt_hj (s : State) (pt : Point) (heading : Nat) : (s.commitAt pt heading).hj = s.hj := rfl
@[simp] theorem State.commitAt_ap (s : State) (pt : Point) (heading : Nat) : (s.commitAt pt heading).ap = s.ap := rfl
@[simp] theorem State.commitAt_sv (s : State) (pt : Point) (heading : Nat) : (s.commitAt pt heading).sv = s.sv := rfl
@[simp] theorem State.commitAt_job (s : State) (pt : Point) (heading : Nat) : (s.commitAt pt heading).job = s.job := rfl
@[simp] theorem State.commitAt_blade (s : State) (pt : Point) (heading : Nat) : (s.commitAt pt heading).blade = s.blade := rfl
@[simp] theorem State.commitAt_panel (s : State) (pt : Point) (heading : Nat) : (s.commitAt pt heading).panel = s.panel := rfl
@[simp] theorem State.commitAt_pending (s : State) (pt : Point) (heading : Nat) : (s.commitAt pt heading).pending = s.pending := rfl
@[simp] theorem State.commitAt_choices (s : State) (pt : Point) (heading : Nat) : (s.commitAt pt heading).choices = s.choices := rfl

/-! `State.commit` -/

@[simp] theorem State.commit_pins (s : State) (e : Entry) : (s.commit e).pins = s.pins := rfl
@[simp] theorem State.commit_subMicro (s : State) (e : Entry) : (s.commit e).subMicro = s.subMicro := rfl
@[simp] theorem State.commit_tb (s : State) (e : Entry) : (s.commit e).tb = s.tb := rfl
@[simp] theorem State.commit_gt (s : State) (e : Entry) : (s.commit e).gt = s.gt := rfl
@[simp] theorem State.commit_cq (s : State) (e : Entry) : (s.commit e).cq = s.cq := rfl
@[simp] theorem State.commit_sd (s : State) (e : Entry) : (s.commit e).sd = s.sd := rfl
@[simp] theorem State.commit_hj (s : State) (e : Entry) : (s.commit e).hj = s.hj := rfl
@[simp] theorem State.commit_ap (s : State) (e : Entry) : (s.commit e).ap = s.ap := rfl
@[simp] theorem State.commit_sv (s : State) (e : Entry) : (s.commit e).sv = s.sv := rfl
@[simp] theorem State.commit_job (s : State) (e : Entry) : (s.commit e).job = s.job := rfl
@[simp] theorem State.commit_blade (s : State) (e : Entry) : (s.commit e).blade = s.blade := rfl
@[simp] theorem State.commit_panel (s : State) (e : Entry) : (s.commit e).panel = s.panel := rfl
@[simp] theorem State.commit_pending (s : State) (e : Entry) : (s.commit e).pending = s.pending := rfl
@[simp] theorem State.commit_choices (s : State) (e : Entry) : (s.commit e).choices = s.choices := rfl

/-! `State.dropActive` -/

@[simp] theorem State.dropActive_pins (s : State) : (s.dropActive).pins = s.pins := rfl
@[simp] theorem State.dropActive_subMicro (s : State) : (s.dropActive).subMicro = s.subMicro := rfl
@[simp] theorem State.dropActive_tb (s : State) : (s.dropActive).tb = s.tb := rfl
@[simp] theorem State.dropActive_gt (s : State) : (s.dropActive).gt = s.gt := rfl
@[simp] theorem State.dropActive_cq (s : State) : (s.dropActive).cq = s.cq := rfl
@[simp] theorem State.dropActive_sd (s : State) : (s.dropActive).sd = s.sd := rfl
@[simp] theorem State.dropActive_hj (s : State) : (s.dropActive).hj = s.hj := rfl
@[simp] theorem State.dropActive_ap (s : State) : (s.dropActive).ap = s.ap := rfl
@[simp] theorem State.dropActive_sv (s : State) : (s.dropActive).sv = s.sv := rfl
@[simp] theorem State.dropActive_job (s : State) : (s.dropActive).job = s.job := rfl
@[simp] theorem State.dropActive_blade (s : State) : (s.dropActive).blade = s.blade := rfl
@[simp] theorem State.dropActive_panel (s : State) : (s.dropActive).panel = s.panel := rfl
@[simp] theorem State.dropActive_pending (s : State) : (s.dropActive).pending = s.pending := rfl
@[simp] theorem State.dropActive_choices (s : State) : (s.dropActive).choices = s.choices := rfl

/-! `State.contourEnd` -/

@[simp] theorem State.contourEnd_pins (s : State) : (s.contourEnd).pins = s.pins := by simp only [State.contourEnd]; (repeat' split) <;> simp
@[simp] theorem State.contourEnd_subMicro (s : State) : (s.contourEnd).subMicro = s.subMicro := by simp only [State.contourEnd]; (repeat' split) <;> simp
@[simp] theorem State.contourEnd_tb (s : State) : (s.contourEnd).tb = s.tb := by simp only [State.contourEnd]; (repeat' split) <;> simp
@[simp] theorem State.contourEnd_gt (s : State) : (s.contourEnd).gt = s.gt := by simp only [State.contourEnd]; (repeat' split) <;> simp
@[simp] theorem State.contourEnd_ap (s : State) : (s.contourEnd).ap = s.ap := by simp only [State.contourEnd]; (repeat' split) <;> simp
@[simp] theorem State.contourEnd_sv (s : State) : (s.contourEnd).sv = s.sv := by simp only [State.contourEnd]; (repeat' split) <;> simp
@[simp] theorem State.contourEnd_pending (s : State) : (s.contourEnd).pending = s.pending := by simp only [State.contourEnd]; (repeat' split) <;> simp
@[simp] theorem State.contourEnd_choices (s : State) : (s.contourEnd).choices = s.choices := by simp only [State.contourEnd]; (repeat' split) <;> simp

/-! `State.starve` -/

@[simp] theorem State.starve_pins (s : State) : (s.starve).pins = s.pins := by simp [State.starve]
@[simp] theorem State.starve_subMicro (s : State) : (s.starve).subMicro = s.subMicro := by simp [State.starve]
@[simp] theorem State.starve_tb (s : State) : (s.starve).tb = s.tb := by simp [State.starve]
@[simp] theorem State.starve_gt (s : State) : (s.starve).gt = s.gt := by simp [State.starve]
@[simp] theorem State.starve_cq (s : State) : (s.starve).cq = s.cq := by simp [State.starve]
@[simp] theorem State.starve_sd (s : State) : (s.starve).sd = s.sd := by simp [State.starve]
@[simp] theorem State.starve_hj (s : State) : (s.starve).hj = s.hj := by simp [State.starve]
@[simp] theorem State.starve_ap (s : State) : (s.starve).ap = s.ap := by simp [State.starve]
@[simp] theorem State.starve_sv (s : State) : (s.starve).sv = s.sv := by simp [State.starve]
@[simp] theorem State.starve_pending (s : State) : (s.starve).pending = s.pending := by simp [State.starve]
@[simp] theorem State.starve_choices (s : State) : (s.starve).choices = s.choices := by simp [State.starve]

/-! `State.startPivot` -/

@[simp] theorem State.startPivot_pins (s : State) (next : Entry) : (s.startPivot next).pins = s.pins := by unfold State.startPivot; (repeat' split) <;> simp
@[simp] theorem State.startPivot_subMicro (s : State) (next : Entry) : (s.startPivot next).subMicro = s.subMicro := by unfold State.startPivot; (repeat' split) <;> simp
@[simp] theorem State.startPivot_tb (s : State) (next : Entry) : (s.startPivot next).tb = s.tb := by unfold State.startPivot; (repeat' split) <;> simp
@[simp] theorem State.startPivot_gt (s : State) (next : Entry) : (s.startPivot next).gt = s.gt := by unfold State.startPivot; (repeat' split) <;> simp
@[simp] theorem State.startPivot_sd (s : State) (next : Entry) : (s.startPivot next).sd = s.sd := by unfold State.startPivot; (repeat' split) <;> simp
@[simp] theorem State.startPivot_hj (s : State) (next : Entry) : (s.startPivot next).hj = s.hj := by unfold State.startPivot; (repeat' split) <;> simp
@[simp] theorem State.startPivot_ap (s : State) (next : Entry) : (s.startPivot next).ap = s.ap := by unfold State.startPivot; (repeat' split) <;> simp
@[simp] theorem State.startPivot_sv (s : State) (next : Entry) : (s.startPivot next).sv = s.sv := by unfold State.startPivot; (repeat' split) <;> simp
@[simp] theorem State.startPivot_pending (s : State) (next : Entry) : (s.startPivot next).pending = s.pending := by unfold State.startPivot; (repeat' split) <;> simp
@[simp] theorem State.startPivot_choices (s : State) (next : Entry) : (s.startPivot next).choices = s.choices := by unfold State.startPivot; (repeat' split) <;> simp

/-! `State.stopAt` -/

@[simp] theorem State.stopAt_pins (s : State) (e : Entry) : (s.stopAt e).pins = s.pins := rfl
@[simp] theorem State.stopAt_subMicro (s : State) (e : Entry) : (s.stopAt e).subMicro = s.subMicro := rfl
@[simp] theorem State.stopAt_tb (s : State) (e : Entry) : (s.stopAt e).tb = s.tb := rfl
@[simp] theorem State.stopAt_gt (s : State) (e : Entry) : (s.stopAt e).gt = s.gt := rfl
@[simp] theorem State.stopAt_cq (s : State) (e : Entry) : (s.stopAt e).cq = s.cq := rfl
@[simp] theorem State.stopAt_sd (s : State) (e : Entry) : (s.stopAt e).sd = s.sd := rfl
@[simp] theorem State.stopAt_hj (s : State) (e : Entry) : (s.stopAt e).hj = s.hj := rfl
@[simp] theorem State.stopAt_ap (s : State) (e : Entry) : (s.stopAt e).ap = s.ap := rfl
@[simp] theorem State.stopAt_sv (s : State) (e : Entry) : (s.stopAt e).sv = s.sv := rfl
@[simp] theorem State.stopAt_job (s : State) (e : Entry) : (s.stopAt e).job = s.job := rfl
@[simp] theorem State.stopAt_blade (s : State) (e : Entry) : (s.stopAt e).blade = s.blade := rfl
@[simp] theorem State.stopAt_panel (s : State) (e : Entry) : (s.stopAt e).panel = s.panel := rfl
@[simp] theorem State.stopAt_pending (s : State) (e : Entry) : (s.stopAt e).pending = s.pending := rfl
@[simp] theorem State.stopAt_choices (s : State) (e : Entry) : (s.stopAt e).choices = s.choices := rfl

/-! `State.stopEnd` -/

@[simp] theorem State.stopEnd_pins (s : State) (e : Entry) : (s.stopEnd e).pins = s.pins := by simp only [State.stopEnd]; (repeat' split) <;> simp
@[simp] theorem State.stopEnd_subMicro (s : State) (e : Entry) : (s.stopEnd e).subMicro = s.subMicro := by simp only [State.stopEnd]; (repeat' split) <;> simp
@[simp] theorem State.stopEnd_tb (s : State) (e : Entry) : (s.stopEnd e).tb = s.tb := by simp only [State.stopEnd]; (repeat' split) <;> simp
@[simp] theorem State.stopEnd_gt (s : State) (e : Entry) : (s.stopEnd e).gt = s.gt := by simp only [State.stopEnd]; (repeat' split) <;> simp
@[simp] theorem State.stopEnd_ap (s : State) (e : Entry) : (s.stopEnd e).ap = s.ap := by simp only [State.stopEnd]; (repeat' split) <;> simp
@[simp] theorem State.stopEnd_sv (s : State) (e : Entry) : (s.stopEnd e).sv = s.sv := by simp only [State.stopEnd]; (repeat' split) <;> simp
@[simp] theorem State.stopEnd_pending (s : State) (e : Entry) : (s.stopEnd e).pending = s.pending := by simp only [State.stopEnd]; (repeat' split) <;> simp
@[simp] theorem State.stopEnd_choices (s : State) (e : Entry) : (s.stopEnd e).choices = s.choices := by simp only [State.stopEnd]; (repeat' split) <;> simp

/-! `State.advance` -/

@[simp] theorem State.advance_pins (s : State) : (s.advance).1.pins = s.pins := rfl
@[simp] theorem State.advance_subMicro (s : State) : (s.advance).1.subMicro = s.subMicro := rfl
@[simp] theorem State.advance_tb (s : State) : (s.advance).1.tb = s.tb := rfl
@[simp] theorem State.advance_gt (s : State) : (s.advance).1.gt = s.gt := rfl
@[simp] theorem State.advance_cq (s : State) : (s.advance).1.cq = s.cq := rfl
@[simp] theorem State.advance_sd (s : State) : (s.advance).1.sd = s.sd := rfl
@[simp] theorem State.advance_hj (s : State) : (s.advance).1.hj = s.hj := rfl
@[simp] theorem State.advance_ap (s : State) : (s.advance).1.ap = s.ap := rfl
@[simp] theorem State.advance_sv (s : State) : (s.advance).1.sv = s.sv := rfl
@[simp] theorem State.advance_job (s : State) : (s.advance).1.job = s.job := rfl
@[simp] theorem State.advance_blade (s : State) : (s.advance).1.blade = s.blade := rfl
@[simp] theorem State.advance_panel (s : State) : (s.advance).1.panel = s.panel := rfl
@[simp] theorem State.advance_pending (s : State) : (s.advance).1.pending = s.pending := rfl
@[simp] theorem State.advance_choices (s : State) : (s.advance).1.choices = s.choices := rfl

/-! `State.carryEnd` -/

@[simp] theorem State.carryEnd_pins (s : State) (e next : Entry) (turn : Bool) (whole : Nat) : (s.carryEnd e next turn whole).1.pins = s.pins := by simp only [State.carryEnd]; (repeat' split) <;> simp
@[simp] theorem State.carryEnd_subMicro (s : State) (e next : Entry) (turn : Bool) (whole : Nat) : (s.carryEnd e next turn whole).1.subMicro = s.subMicro := by simp only [State.carryEnd]; (repeat' split) <;> simp
@[simp] theorem State.carryEnd_tb (s : State) (e next : Entry) (turn : Bool) (whole : Nat) : (s.carryEnd e next turn whole).1.tb = s.tb := by simp only [State.carryEnd]; (repeat' split) <;> simp
@[simp] theorem State.carryEnd_gt (s : State) (e next : Entry) (turn : Bool) (whole : Nat) : (s.carryEnd e next turn whole).1.gt = s.gt := by simp only [State.carryEnd]; (repeat' split) <;> simp
@[simp] theorem State.carryEnd_sd (s : State) (e next : Entry) (turn : Bool) (whole : Nat) : (s.carryEnd e next turn whole).1.sd = s.sd := by simp only [State.carryEnd]; (repeat' split) <;> simp
@[simp] theorem State.carryEnd_hj (s : State) (e next : Entry) (turn : Bool) (whole : Nat) : (s.carryEnd e next turn whole).1.hj = s.hj := by simp only [State.carryEnd]; (repeat' split) <;> simp
@[simp] theorem State.carryEnd_ap (s : State) (e next : Entry) (turn : Bool) (whole : Nat) : (s.carryEnd e next turn whole).1.ap = s.ap := by simp only [State.carryEnd]; (repeat' split) <;> simp
@[simp] theorem State.carryEnd_sv (s : State) (e next : Entry) (turn : Bool) (whole : Nat) : (s.carryEnd e next turn whole).1.sv = s.sv := by simp only [State.carryEnd]; (repeat' split) <;> simp
@[simp] theorem State.carryEnd_pending (s : State) (e next : Entry) (turn : Bool) (whole : Nat) : (s.carryEnd e next turn whole).1.pending = s.pending := by simp only [State.carryEnd]; (repeat' split) <;> simp
@[simp] theorem State.carryEnd_choices (s : State) (e next : Entry) (turn : Bool) (whole : Nat) : (s.carryEnd e next turn whole).1.choices = s.choices := by simp only [State.carryEnd]; (repeat' split) <;> simp

/-! `State.runEnds` -/

@[simp] theorem State.runEnds_pins (fuel : Nat) (s : State) (whole : Nat) :
    (State.runEnds fuel s whole).pins = s.pins := by
  induction fuel generalizing s whole with
  | zero => rfl
  | succ n ih => simp only [State.runEnds]; (repeat' split) <;> simp [ih]
@[simp] theorem State.runEnds_subMicro (fuel : Nat) (s : State) (whole : Nat) :
    (State.runEnds fuel s whole).subMicro = s.subMicro := by
  induction fuel generalizing s whole with
  | zero => rfl
  | succ n ih => simp only [State.runEnds]; (repeat' split) <;> simp [ih]
@[simp] theorem State.runEnds_tb (fuel : Nat) (s : State) (whole : Nat) :
    (State.runEnds fuel s whole).tb = s.tb := by
  induction fuel generalizing s whole with
  | zero => rfl
  | succ n ih => simp only [State.runEnds]; (repeat' split) <;> simp [ih]
@[simp] theorem State.runEnds_gt (fuel : Nat) (s : State) (whole : Nat) :
    (State.runEnds fuel s whole).gt = s.gt := by
  induction fuel generalizing s whole with
  | zero => rfl
  | succ n ih => simp only [State.runEnds]; (repeat' split) <;> simp [ih]
@[simp] theorem State.runEnds_ap (fuel : Nat) (s : State) (whole : Nat) :
    (State.runEnds fuel s whole).ap = s.ap := by
  induction fuel generalizing s whole with
  | zero => rfl
  | succ n ih => simp only [State.runEnds]; (repeat' split) <;> simp [ih]
@[simp] theorem State.runEnds_sv (fuel : Nat) (s : State) (whole : Nat) :
    (State.runEnds fuel s whole).sv = s.sv := by
  induction fuel generalizing s whole with
  | zero => rfl
  | succ n ih => simp only [State.runEnds]; (repeat' split) <;> simp [ih]
@[simp] theorem State.runEnds_pending (fuel : Nat) (s : State) (whole : Nat) :
    (State.runEnds fuel s whole).pending = s.pending := by
  induction fuel generalizing s whole with
  | zero => rfl
  | succ n ih => simp only [State.runEnds]; (repeat' split) <;> simp [ih]
@[simp] theorem State.runEnds_choices (fuel : Nat) (s : State) (whole : Nat) :
    (State.runEnds fuel s whole).choices = s.choices := by
  induction fuel generalizing s whole with
  | zero => rfl
  | succ n ih => simp only [State.runEnds]; (repeat' split) <;> simp [ih]

/-! `State.move` -/

@[simp] theorem State.move_pins (s : State) : (s.move).pins = s.pins := by simp [State.move]
@[simp] theorem State.move_subMicro (s : State) : (s.move).subMicro = s.subMicro := by simp [State.move]
@[simp] theorem State.move_tb (s : State) : (s.move).tb = s.tb := by simp [State.move]
@[simp] theorem State.move_gt (s : State) : (s.move).gt = s.gt := by simp [State.move]
@[simp] theorem State.move_ap (s : State) : (s.move).ap = s.ap := by simp [State.move]
@[simp] theorem State.move_sv (s : State) : (s.move).sv = s.sv := by simp [State.move]
@[simp] theorem State.move_pending (s : State) : (s.move).pending = s.pending := by simp [State.move]
@[simp] theorem State.move_choices (s : State) : (s.move).choices = s.choices := by simp [State.move]

/-! `State.jogLinear` -/

@[simp] theorem State.jogLinear_pins (s : State) (m : JogMove) (target : Nat) (step : Nat) : (s.jogLinear m target step).pins = s.pins := rfl
@[simp] theorem State.jogLinear_subMicro (s : State) (m : JogMove) (target : Nat) (step : Nat) : (s.jogLinear m target step).subMicro = s.subMicro := rfl
@[simp] theorem State.jogLinear_tb (s : State) (m : JogMove) (target : Nat) (step : Nat) : (s.jogLinear m target step).tb = s.tb := rfl
@[simp] theorem State.jogLinear_gt (s : State) (m : JogMove) (target : Nat) (step : Nat) : (s.jogLinear m target step).gt = s.gt := rfl
@[simp] theorem State.jogLinear_sd (s : State) (m : JogMove) (target : Nat) (step : Nat) : (s.jogLinear m target step).sd = s.sd := rfl
@[simp] theorem State.jogLinear_hj (s : State) (m : JogMove) (target : Nat) (step : Nat) : (s.jogLinear m target step).hj = s.hj := rfl
@[simp] theorem State.jogLinear_ap (s : State) (m : JogMove) (target : Nat) (step : Nat) : (s.jogLinear m target step).ap = s.ap := rfl
@[simp] theorem State.jogLinear_sv (s : State) (m : JogMove) (target : Nat) (step : Nat) : (s.jogLinear m target step).sv = s.sv := rfl
@[simp] theorem State.jogLinear_job (s : State) (m : JogMove) (target : Nat) (step : Nat) : (s.jogLinear m target step).job = s.job := rfl
@[simp] theorem State.jogLinear_blade (s : State) (m : JogMove) (target : Nat) (step : Nat) : (s.jogLinear m target step).blade = s.blade := rfl
@[simp] theorem State.jogLinear_panel (s : State) (m : JogMove) (target : Nat) (step : Nat) : (s.jogLinear m target step).panel = s.panel := rfl
@[simp] theorem State.jogLinear_pending (s : State) (m : JogMove) (target : Nat) (step : Nat) : (s.jogLinear m target step).pending = s.pending := rfl
@[simp] theorem State.jogLinear_choices (s : State) (m : JogMove) (target : Nat) (step : Nat) : (s.jogLinear m target step).choices = s.choices := rfl

/-! `State.jogTurn` -/

@[simp] theorem State.jogTurn_pins (s : State) (m : JogMove) (target : Nat) : (s.jogTurn m target).pins = s.pins := rfl
@[simp] theorem State.jogTurn_subMicro (s : State) (m : JogMove) (target : Nat) : (s.jogTurn m target).subMicro = s.subMicro := rfl
@[simp] theorem State.jogTurn_tb (s : State) (m : JogMove) (target : Nat) : (s.jogTurn m target).tb = s.tb := rfl
@[simp] theorem State.jogTurn_gt (s : State) (m : JogMove) (target : Nat) : (s.jogTurn m target).gt = s.gt := rfl
@[simp] theorem State.jogTurn_sd (s : State) (m : JogMove) (target : Nat) : (s.jogTurn m target).sd = s.sd := rfl
@[simp] theorem State.jogTurn_hj (s : State) (m : JogMove) (target : Nat) : (s.jogTurn m target).hj = s.hj := rfl
@[simp] theorem State.jogTurn_ap (s : State) (m : JogMove) (target : Nat) : (s.jogTurn m target).ap = s.ap := rfl
@[simp] theorem State.jogTurn_sv (s : State) (m : JogMove) (target : Nat) : (s.jogTurn m target).sv = s.sv := rfl
@[simp] theorem State.jogTurn_job (s : State) (m : JogMove) (target : Nat) : (s.jogTurn m target).job = s.job := rfl
@[simp] theorem State.jogTurn_blade (s : State) (m : JogMove) (target : Nat) : (s.jogTurn m target).blade = s.blade := rfl
@[simp] theorem State.jogTurn_panel (s : State) (m : JogMove) (target : Nat) : (s.jogTurn m target).panel = s.panel := rfl
@[simp] theorem State.jogTurn_pending (s : State) (m : JogMove) (target : Nat) : (s.jogTurn m target).pending = s.pending := rfl
@[simp] theorem State.jogTurn_choices (s : State) (m : JogMove) (target : Nat) : (s.jogTurn m target).choices = s.choices := rfl

/-! `State.jogStep` -/

@[simp] theorem State.jogStep_pins (s : State) : (s.jogStep).pins = s.pins := by unfold State.jogStep; (repeat' split) <;> simp
@[simp] theorem State.jogStep_subMicro (s : State) : (s.jogStep).subMicro = s.subMicro := by unfold State.jogStep; (repeat' split) <;> simp
@[simp] theorem State.jogStep_tb (s : State) : (s.jogStep).tb = s.tb := by unfold State.jogStep; (repeat' split) <;> simp
@[simp] theorem State.jogStep_gt (s : State) : (s.jogStep).gt = s.gt := by unfold State.jogStep; (repeat' split) <;> simp
@[simp] theorem State.jogStep_sd (s : State) : (s.jogStep).sd = s.sd := by unfold State.jogStep; (repeat' split) <;> simp
@[simp] theorem State.jogStep_hj (s : State) : (s.jogStep).hj = s.hj := by unfold State.jogStep; (repeat' split) <;> simp
@[simp] theorem State.jogStep_ap (s : State) : (s.jogStep).ap = s.ap := by unfold State.jogStep; (repeat' split) <;> simp
@[simp] theorem State.jogStep_sv (s : State) : (s.jogStep).sv = s.sv := by unfold State.jogStep; (repeat' split) <;> simp
@[simp] theorem State.jogStep_job (s : State) : (s.jogStep).job = s.job := by unfold State.jogStep; (repeat' split) <;> simp
@[simp] theorem State.jogStep_blade (s : State) : (s.jogStep).blade = s.blade := by unfold State.jogStep; (repeat' split) <;> simp
@[simp] theorem State.jogStep_panel (s : State) : (s.jogStep).panel = s.panel := by unfold State.jogStep; (repeat' split) <;> simp
@[simp] theorem State.jogStep_pending (s : State) : (s.jogStep).pending = s.pending := by unfold State.jogStep; (repeat' split) <;> simp
@[simp] theorem State.jogStep_choices (s : State) : (s.jogStep).choices = s.choices := by unfold State.jogStep; (repeat' split) <;> simp

/-! `State.jogComplete` -/

@[simp] theorem State.jogComplete_pins (s : State) : (s.jogComplete).pins = s.pins := by unfold State.jogComplete; (repeat' split) <;> simp
@[simp] theorem State.jogComplete_subMicro (s : State) : (s.jogComplete).subMicro = s.subMicro := by unfold State.jogComplete; (repeat' split) <;> simp
@[simp] theorem State.jogComplete_tb (s : State) : (s.jogComplete).tb = s.tb := by unfold State.jogComplete; (repeat' split) <;> simp
@[simp] theorem State.jogComplete_gt (s : State) : (s.jogComplete).gt = s.gt := by unfold State.jogComplete; (repeat' split) <;> simp
@[simp] theorem State.jogComplete_ap (s : State) : (s.jogComplete).ap = s.ap := by unfold State.jogComplete; (repeat' split) <;> simp
@[simp] theorem State.jogComplete_sv (s : State) : (s.jogComplete).sv = s.sv := by unfold State.jogComplete; (repeat' split) <;> simp
@[simp] theorem State.jogComplete_pending (s : State) : (s.jogComplete).pending = s.pending := by unfold State.jogComplete; (repeat' split) <;> simp
@[simp] theorem State.jogComplete_choices (s : State) : (s.jogComplete).choices = s.choices := by unfold State.jogComplete; (repeat' split) <;> simp

/-! `State.slew` -/

@[simp] theorem State.slew_pins (s : State) : (s.slew).pins = s.pins := by simp only [State.slew]; (repeat' split) <;> simp
@[simp] theorem State.slew_subMicro (s : State) : (s.slew).subMicro = s.subMicro := by simp only [State.slew]; (repeat' split) <;> simp
@[simp] theorem State.slew_tb (s : State) : (s.slew).tb = s.tb := by simp only [State.slew]; (repeat' split) <;> simp
@[simp] theorem State.slew_gt (s : State) : (s.slew).gt = s.gt := by simp only [State.slew]; (repeat' split) <;> simp
@[simp] theorem State.slew_sd (s : State) : (s.slew).sd = s.sd := by simp only [State.slew]; (repeat' split) <;> simp
@[simp] theorem State.slew_hj (s : State) : (s.slew).hj = s.hj := by simp only [State.slew]; (repeat' split) <;> simp
@[simp] theorem State.slew_ap (s : State) : (s.slew).ap = s.ap := by simp only [State.slew]; (repeat' split) <;> simp
@[simp] theorem State.slew_sv (s : State) : (s.slew).sv = s.sv := by simp only [State.slew]; (repeat' split) <;> simp
@[simp] theorem State.slew_pending (s : State) : (s.slew).pending = s.pending := by simp only [State.slew]; (repeat' split) <;> simp
@[simp] theorem State.slew_choices (s : State) : (s.slew).choices = s.choices := by simp only [State.slew]; (repeat' split) <;> simp

/-! `State.stopMove` -/

@[simp] theorem State.stopMove_pins (s : State) : (s.stopMove).pins = s.pins := by unfold State.stopMove; (repeat' split) <;> simp
@[simp] theorem State.stopMove_subMicro (s : State) : (s.stopMove).subMicro = s.subMicro := by unfold State.stopMove; (repeat' split) <;> simp
@[simp] theorem State.stopMove_tb (s : State) : (s.stopMove).tb = s.tb := by unfold State.stopMove; (repeat' split) <;> simp
@[simp] theorem State.stopMove_gt (s : State) : (s.stopMove).gt = s.gt := by unfold State.stopMove; (repeat' split) <;> simp
@[simp] theorem State.stopMove_ap (s : State) : (s.stopMove).ap = s.ap := by unfold State.stopMove; (repeat' split) <;> simp
@[simp] theorem State.stopMove_sv (s : State) : (s.stopMove).sv = s.sv := by unfold State.stopMove; (repeat' split) <;> simp
@[simp] theorem State.stopMove_pending (s : State) : (s.stopMove).pending = s.pending := by unfold State.stopMove; (repeat' split) <;> simp
@[simp] theorem State.stopMove_choices (s : State) : (s.stopMove).choices = s.choices := by unfold State.stopMove; (repeat' split) <;> simp

/-! `State.feedWork` -/

@[simp] theorem State.feedWork_pins (s : State) : (s.feedWork).pins = s.pins := by simp only [State.feedWork]; (repeat' split) <;> simp
@[simp] theorem State.feedWork_subMicro (s : State) : (s.feedWork).subMicro = s.subMicro := by simp only [State.feedWork]; (repeat' split) <;> simp
@[simp] theorem State.feedWork_tb (s : State) : (s.feedWork).tb = s.tb := by simp only [State.feedWork]; (repeat' split) <;> simp
@[simp] theorem State.feedWork_gt (s : State) : (s.feedWork).gt = s.gt := by simp only [State.feedWork]; (repeat' split) <;> simp
@[simp] theorem State.feedWork_pending (s : State) : (s.feedWork).pending = s.pending := by simp only [State.feedWork]; (repeat' split) <;> simp
@[simp] theorem State.feedWork_choices (s : State) : (s.feedWork).choices = s.choices := by simp only [State.feedWork]; (repeat' split) <;> simp

/-! `State.tickTime` -/

@[simp] theorem State.tickTime_pins (s : State) : (s.tickTime).pins = s.pins := rfl
@[simp] theorem State.tickTime_subMicro (s : State) : (s.tickTime).subMicro = s.subMicro := rfl
@[simp] theorem State.tickTime_gt (s : State) : (s.tickTime).gt = s.gt := rfl
@[simp] theorem State.tickTime_cq (s : State) : (s.tickTime).cq = s.cq := rfl
@[simp] theorem State.tickTime_fi (s : State) : (s.tickTime).fi = s.fi := rfl
@[simp] theorem State.tickTime_sd (s : State) : (s.tickTime).sd = s.sd := rfl
@[simp] theorem State.tickTime_hj (s : State) : (s.tickTime).hj = s.hj := rfl
@[simp] theorem State.tickTime_sv (s : State) : (s.tickTime).sv = s.sv := rfl
@[simp] theorem State.tickTime_job (s : State) : (s.tickTime).job = s.job := rfl
@[simp] theorem State.tickTime_blade (s : State) : (s.tickTime).blade = s.blade := rfl
@[simp] theorem State.tickTime_panel (s : State) : (s.tickTime).panel = s.panel := rfl
@[simp] theorem State.tickTime_pending (s : State) : (s.tickTime).pending = s.pending := rfl
@[simp] theorem State.tickTime_choices (s : State) : (s.tickTime).choices = s.choices := rfl

/-! `State.tickDecoder` -/

@[simp] theorem State.tickDecoder_pins (s : State) : (s.tickDecoder).pins = s.pins := rfl
@[simp] theorem State.tickDecoder_subMicro (s : State) : (s.tickDecoder).subMicro = s.subMicro := rfl
@[simp] theorem State.tickDecoder_tb (s : State) : (s.tickDecoder).tb = s.tb := rfl
@[simp] theorem State.tickDecoder_gt (s : State) : (s.tickDecoder).gt = s.gt := rfl
@[simp] theorem State.tickDecoder_cq (s : State) : (s.tickDecoder).cq = s.cq := rfl
@[simp] theorem State.tickDecoder_fi (s : State) : (s.tickDecoder).fi = s.fi := rfl
@[simp] theorem State.tickDecoder_hj (s : State) : (s.tickDecoder).hj = s.hj := rfl
@[simp] theorem State.tickDecoder_ap (s : State) : (s.tickDecoder).ap = s.ap := rfl
@[simp] theorem State.tickDecoder_sv (s : State) : (s.tickDecoder).sv = s.sv := rfl
@[simp] theorem State.tickDecoder_job (s : State) : (s.tickDecoder).job = s.job := rfl
@[simp] theorem State.tickDecoder_blade (s : State) : (s.tickDecoder).blade = s.blade := rfl
@[simp] theorem State.tickDecoder_panel (s : State) : (s.tickDecoder).panel = s.panel := rfl
@[simp] theorem State.tickDecoder_pending (s : State) : (s.tickDecoder).pending = s.pending := rfl
@[simp] theorem State.tickDecoder_choices (s : State) : (s.tickDecoder).choices = s.choices := rfl

/-! `State.expireWindow` -/

@[simp] theorem State.expireWindow_pins (s : State) : (s.expireWindow).pins = s.pins := by unfold State.expireWindow; (repeat' split) <;> simp
@[simp] theorem State.expireWindow_subMicro (s : State) : (s.expireWindow).subMicro = s.subMicro := by unfold State.expireWindow; (repeat' split) <;> simp
@[simp] theorem State.expireWindow_tb (s : State) : (s.expireWindow).tb = s.tb := by unfold State.expireWindow; (repeat' split) <;> simp
@[simp] theorem State.expireWindow_gt (s : State) : (s.expireWindow).gt = s.gt := by unfold State.expireWindow; (repeat' split) <;> simp
@[simp] theorem State.expireWindow_cq (s : State) : (s.expireWindow).cq = s.cq := by unfold State.expireWindow; (repeat' split) <;> simp
@[simp] theorem State.expireWindow_fi (s : State) : (s.expireWindow).fi = s.fi := by unfold State.expireWindow; (repeat' split) <;> simp
@[simp] theorem State.expireWindow_sd (s : State) : (s.expireWindow).sd = s.sd := by unfold State.expireWindow; (repeat' split) <;> simp
@[simp] theorem State.expireWindow_ap (s : State) : (s.expireWindow).ap = s.ap := by unfold State.expireWindow; (repeat' split) <;> simp
@[simp] theorem State.expireWindow_sv (s : State) : (s.expireWindow).sv = s.sv := by unfold State.expireWindow; (repeat' split) <;> simp
@[simp] theorem State.expireWindow_job (s : State) : (s.expireWindow).job = s.job := by unfold State.expireWindow; (repeat' split) <;> simp
@[simp] theorem State.expireWindow_blade (s : State) : (s.expireWindow).blade = s.blade := by unfold State.expireWindow; (repeat' split) <;> simp
@[simp] theorem State.expireWindow_panel (s : State) : (s.expireWindow).panel = s.panel := by unfold State.expireWindow; (repeat' split) <;> simp
@[simp] theorem State.expireWindow_pending (s : State) : (s.expireWindow).pending = s.pending := by unfold State.expireWindow; (repeat' split) <;> simp
@[simp] theorem State.expireWindow_choices (s : State) : (s.expireWindow).choices = s.choices := by unfold State.expireWindow; (repeat' split) <;> simp

/-! `State.tickWindow` -/

@[simp] theorem State.tickWindow_pins (s : State) : (s.tickWindow).pins = s.pins := by unfold State.tickWindow; (repeat' split) <;> simp
@[simp] theorem State.tickWindow_subMicro (s : State) : (s.tickWindow).subMicro = s.subMicro := by unfold State.tickWindow; (repeat' split) <;> simp
@[simp] theorem State.tickWindow_tb (s : State) : (s.tickWindow).tb = s.tb := by unfold State.tickWindow; (repeat' split) <;> simp
@[simp] theorem State.tickWindow_gt (s : State) : (s.tickWindow).gt = s.gt := by unfold State.tickWindow; (repeat' split) <;> simp
@[simp] theorem State.tickWindow_cq (s : State) : (s.tickWindow).cq = s.cq := by unfold State.tickWindow; (repeat' split) <;> simp
@[simp] theorem State.tickWindow_fi (s : State) : (s.tickWindow).fi = s.fi := by unfold State.tickWindow; (repeat' split) <;> simp
@[simp] theorem State.tickWindow_sd (s : State) : (s.tickWindow).sd = s.sd := by unfold State.tickWindow; (repeat' split) <;> simp
@[simp] theorem State.tickWindow_ap (s : State) : (s.tickWindow).ap = s.ap := by unfold State.tickWindow; (repeat' split) <;> simp
@[simp] theorem State.tickWindow_sv (s : State) : (s.tickWindow).sv = s.sv := by unfold State.tickWindow; (repeat' split) <;> simp
@[simp] theorem State.tickWindow_job (s : State) : (s.tickWindow).job = s.job := by unfold State.tickWindow; (repeat' split) <;> simp
@[simp] theorem State.tickWindow_blade (s : State) : (s.tickWindow).blade = s.blade := by unfold State.tickWindow; (repeat' split) <;> simp
@[simp] theorem State.tickWindow_panel (s : State) : (s.tickWindow).panel = s.panel := by unfold State.tickWindow; (repeat' split) <;> simp
@[simp] theorem State.tickWindow_pending (s : State) : (s.tickWindow).pending = s.pending := by unfold State.tickWindow; (repeat' split) <;> simp
@[simp] theorem State.tickWindow_choices (s : State) : (s.tickWindow).choices = s.choices := by unfold State.tickWindow; (repeat' split) <;> simp

/-! `State.tickStop` -/

@[simp] theorem State.tickStop_pins (s : State) : (s.tickStop).pins = s.pins := by unfold State.tickStop; (repeat' split) <;> simp
@[simp] theorem State.tickStop_subMicro (s : State) : (s.tickStop).subMicro = s.subMicro := by unfold State.tickStop; (repeat' split) <;> simp
@[simp] theorem State.tickStop_tb (s : State) : (s.tickStop).tb = s.tb := by unfold State.tickStop; (repeat' split) <;> simp
@[simp] theorem State.tickStop_gt (s : State) : (s.tickStop).gt = s.gt := by unfold State.tickStop; (repeat' split) <;> simp
@[simp] theorem State.tickStop_cq (s : State) : (s.tickStop).cq = s.cq := by unfold State.tickStop; (repeat' split) <;> simp
@[simp] theorem State.tickStop_fi (s : State) : (s.tickStop).fi = s.fi := by unfold State.tickStop; (repeat' split) <;> simp
@[simp] theorem State.tickStop_sd (s : State) : (s.tickStop).sd = s.sd := by unfold State.tickStop; (repeat' split) <;> simp
@[simp] theorem State.tickStop_hj (s : State) : (s.tickStop).hj = s.hj := by unfold State.tickStop; (repeat' split) <;> simp
@[simp] theorem State.tickStop_ap (s : State) : (s.tickStop).ap = s.ap := by unfold State.tickStop; (repeat' split) <;> simp
@[simp] theorem State.tickStop_job (s : State) : (s.tickStop).job = s.job := by unfold State.tickStop; (repeat' split) <;> simp
@[simp] theorem State.tickStop_blade (s : State) : (s.tickStop).blade = s.blade := by unfold State.tickStop; (repeat' split) <;> simp
@[simp] theorem State.tickStop_panel (s : State) : (s.tickStop).panel = s.panel := by unfold State.tickStop; (repeat' split) <;> simp
@[simp] theorem State.tickStop_pending (s : State) : (s.tickStop).pending = s.pending := by unfold State.tickStop; (repeat' split) <;> simp
@[simp] theorem State.tickStop_choices (s : State) : (s.tickStop).choices = s.choices := by unfold State.tickStop; (repeat' split) <;> simp

/-! `State.tick` -/

@[simp] theorem State.tick_pins (s : State) : s.tick.pins = s.pins := by simp [State.tick]
@[simp] theorem State.tick_subMicro (s : State) : s.tick.subMicro = s.subMicro := by simp [State.tick]
@[simp] theorem State.tick_gt (s : State) : s.tick.gt = s.gt := by simp [State.tick]
@[simp] theorem State.tick_cq (s : State) : s.tick.cq = s.cq := by simp [State.tick]
@[simp] theorem State.tick_fi (s : State) : s.tick.fi = s.fi := by simp [State.tick]
@[simp] theorem State.tick_job (s : State) : s.tick.job = s.job := by simp [State.tick]
@[simp] theorem State.tick_blade (s : State) : s.tick.blade = s.blade := by simp [State.tick]
@[simp] theorem State.tick_panel (s : State) : s.tick.panel = s.panel := by simp [State.tick]
@[simp] theorem State.tick_pending (s : State) : s.tick.pending = s.pending := by simp [State.tick]
@[simp] theorem State.tick_choices (s : State) : s.tick.choices = s.choices := by simp [State.tick]
@[simp] theorem State.tick_tb (s : State) :
    s.tick.tb = { s.tb with ms := s.tb.ms + 1, phase := 0 } := by simp [State.tick]; rfl
@[simp] theorem State.tick_ap (s : State) : s.tick.ap = { s.ap with slotClock := 0 } := by
  simp [State.tick]; rfl
@[simp] theorem State.tick_hj (s : State) : (s.tick).hj = s.hj := by simp [State.tick]

/-! `State.feedPeriod` -/

@[simp] theorem State.feedPeriod_pins (s : State) : (s.feedPeriod).pins = s.pins := by simp [State.feedPeriod]
@[simp] theorem State.feedPeriod_subMicro (s : State) : (s.feedPeriod).subMicro = s.subMicro := by simp [State.feedPeriod]
@[simp] theorem State.feedPeriod_gt (s : State) : (s.feedPeriod).gt = s.gt := by simp [State.feedPeriod]
@[simp] theorem State.feedPeriod_pending (s : State) : (s.feedPeriod).pending = s.pending := by simp [State.feedPeriod]
@[simp] theorem State.feedPeriod_choices (s : State) : (s.feedPeriod).choices = s.choices := by simp [State.feedPeriod]

/-! `State.takeOpen` -/

@[simp] theorem State.takeOpen_pins (s : State) (e : Entry) (c : Contour) : (s.takeOpen e c).pins = s.pins := by simp only [State.takeOpen]; (repeat' split) <;> simp
@[simp] theorem State.takeOpen_subMicro (s : State) (e : Entry) (c : Contour) : (s.takeOpen e c).subMicro = s.subMicro := by simp only [State.takeOpen]; (repeat' split) <;> simp
@[simp] theorem State.takeOpen_tb (s : State) (e : Entry) (c : Contour) : (s.takeOpen e c).tb = s.tb := by simp only [State.takeOpen]; (repeat' split) <;> simp
@[simp] theorem State.takeOpen_gt (s : State) (e : Entry) (c : Contour) : (s.takeOpen e c).gt = s.gt := by simp only [State.takeOpen]; (repeat' split) <;> simp
@[simp] theorem State.takeOpen_ap (s : State) (e : Entry) (c : Contour) : (s.takeOpen e c).ap = s.ap := by simp only [State.takeOpen]; (repeat' split) <;> simp
@[simp] theorem State.takeOpen_sv (s : State) (e : Entry) (c : Contour) : (s.takeOpen e c).sv = s.sv := by simp only [State.takeOpen]; (repeat' split) <;> simp
@[simp] theorem State.takeOpen_pending (s : State) (e : Entry) (c : Contour) : (s.takeOpen e c).pending = s.pending := by simp only [State.takeOpen]; (repeat' split) <;> simp
@[simp] theorem State.takeOpen_choices (s : State) (e : Entry) (c : Contour) : (s.takeOpen e c).choices = s.choices := by simp only [State.takeOpen]; (repeat' split) <;> simp

/-! `State.openTake` -/

@[simp] theorem State.openTake_pins (s : State) : (s.openTake).pins = s.pins := by unfold State.openTake; (repeat' split) <;> simp
@[simp] theorem State.openTake_subMicro (s : State) : (s.openTake).subMicro = s.subMicro := by unfold State.openTake; (repeat' split) <;> simp
@[simp] theorem State.openTake_tb (s : State) : (s.openTake).tb = s.tb := by unfold State.openTake; (repeat' split) <;> simp
@[simp] theorem State.openTake_gt (s : State) : (s.openTake).gt = s.gt := by unfold State.openTake; (repeat' split) <;> simp
@[simp] theorem State.openTake_ap (s : State) : (s.openTake).ap = s.ap := by unfold State.openTake; (repeat' split) <;> simp
@[simp] theorem State.openTake_sv (s : State) : (s.openTake).sv = s.sv := by unfold State.openTake; (repeat' split) <;> simp
@[simp] theorem State.openTake_pending (s : State) : (s.openTake).pending = s.pending := by unfold State.openTake; (repeat' split) <;> simp
@[simp] theorem State.openTake_choices (s : State) : (s.openTake).choices = s.choices := by unfold State.openTake; (repeat' split) <;> simp

/-! `State.starvedResume` -/

@[simp] theorem State.starvedResume_pins (s : State) : (s.starvedResume).pins = s.pins := by unfold State.starvedResume; (repeat' split) <;> simp
@[simp] theorem State.starvedResume_subMicro (s : State) : (s.starvedResume).subMicro = s.subMicro := by unfold State.starvedResume; (repeat' split) <;> simp
@[simp] theorem State.starvedResume_tb (s : State) : (s.starvedResume).tb = s.tb := by unfold State.starvedResume; (repeat' split) <;> simp
@[simp] theorem State.starvedResume_gt (s : State) : (s.starvedResume).gt = s.gt := by unfold State.starvedResume; (repeat' split) <;> simp
@[simp] theorem State.starvedResume_sd (s : State) : (s.starvedResume).sd = s.sd := by unfold State.starvedResume; (repeat' split) <;> simp
@[simp] theorem State.starvedResume_hj (s : State) : (s.starvedResume).hj = s.hj := by unfold State.starvedResume; (repeat' split) <;> simp
@[simp] theorem State.starvedResume_ap (s : State) : (s.starvedResume).ap = s.ap := by unfold State.starvedResume; (repeat' split) <;> simp
@[simp] theorem State.starvedResume_sv (s : State) : (s.starvedResume).sv = s.sv := by unfold State.starvedResume; (repeat' split) <;> simp
@[simp] theorem State.starvedResume_pending (s : State) : (s.starvedResume).pending = s.pending := by unfold State.starvedResume; (repeat' split) <;> simp
@[simp] theorem State.starvedResume_choices (s : State) : (s.starvedResume).choices = s.choices := by unfold State.starvedResume; (repeat' split) <;> simp

/-! `State.crankSample` -/

@[simp] theorem State.crankSample_subMicro (s : State) (onA : Bool) (onB : Bool) : (s.crankSample onA onB).subMicro = s.subMicro := rfl
@[simp] theorem State.crankSample_tb (s : State) (onA : Bool) (onB : Bool) : (s.crankSample onA onB).tb = s.tb := rfl
@[simp] theorem State.crankSample_gt (s : State) (onA : Bool) (onB : Bool) : (s.crankSample onA onB).gt = s.gt := rfl
@[simp] theorem State.crankSample_cq (s : State) (onA : Bool) (onB : Bool) : (s.crankSample onA onB).cq = s.cq := rfl
@[simp] theorem State.crankSample_fi (s : State) (onA : Bool) (onB : Bool) : (s.crankSample onA onB).fi = s.fi := rfl
@[simp] theorem State.crankSample_hj (s : State) (onA : Bool) (onB : Bool) : (s.crankSample onA onB).hj = s.hj := rfl
@[simp] theorem State.crankSample_ap (s : State) (onA : Bool) (onB : Bool) : (s.crankSample onA onB).ap = s.ap := rfl
@[simp] theorem State.crankSample_sv (s : State) (onA : Bool) (onB : Bool) : (s.crankSample onA onB).sv = s.sv := rfl
@[simp] theorem State.crankSample_job (s : State) (onA : Bool) (onB : Bool) : (s.crankSample onA onB).job = s.job := rfl
@[simp] theorem State.crankSample_blade (s : State) (onA : Bool) (onB : Bool) : (s.crankSample onA onB).blade = s.blade := rfl
@[simp] theorem State.crankSample_panel (s : State) (onA : Bool) (onB : Bool) : (s.crankSample onA onB).panel = s.panel := rfl
@[simp] theorem State.crankSample_pending (s : State) (onA : Bool) (onB : Bool) : (s.crankSample onA onB).pending = s.pending := rfl
@[simp] theorem State.crankSample_choices (s : State) (onA : Bool) (onB : Bool) : (s.crankSample onA onB).choices = s.choices := rfl

/-! `State.reportCrank` -/

@[simp] theorem State.reportCrank_pins (s : State) (c : Cause) : (s.reportCrank c).pins = s.pins := by unfold State.reportCrank; (repeat' split) <;> simp
@[simp] theorem State.reportCrank_subMicro (s : State) (c : Cause) : (s.reportCrank c).subMicro = s.subMicro := by unfold State.reportCrank; (repeat' split) <;> simp
@[simp] theorem State.reportCrank_tb (s : State) (c : Cause) : (s.reportCrank c).tb = s.tb := by unfold State.reportCrank; (repeat' split) <;> simp
@[simp] theorem State.reportCrank_gt (s : State) (c : Cause) : (s.reportCrank c).gt = s.gt := by unfold State.reportCrank; (repeat' split) <;> simp
@[simp] theorem State.reportCrank_pending (s : State) (c : Cause) : (s.reportCrank c).pending = s.pending := by unfold State.reportCrank; (repeat' split) <;> simp
@[simp] theorem State.reportCrank_choices (s : State) (c : Cause) : (s.reportCrank c).choices = s.choices := by unfold State.reportCrank; (repeat' split) <;> simp

/-! `State.missIndex` -/

@[simp] theorem State.missIndex_pins (s : State) : (s.missIndex).pins = s.pins := by simp only [State.missIndex]; (repeat' split) <;> simp
@[simp] theorem State.missIndex_subMicro (s : State) : (s.missIndex).subMicro = s.subMicro := by simp only [State.missIndex]; (repeat' split) <;> simp
@[simp] theorem State.missIndex_tb (s : State) : (s.missIndex).tb = s.tb := by simp only [State.missIndex]; (repeat' split) <;> simp
@[simp] theorem State.missIndex_gt (s : State) : (s.missIndex).gt = s.gt := by simp only [State.missIndex]; (repeat' split) <;> simp
@[simp] theorem State.missIndex_pending (s : State) : (s.missIndex).pending = s.pending := by simp only [State.missIndex]; (repeat' split) <;> simp
@[simp] theorem State.missIndex_choices (s : State) : (s.missIndex).choices = s.choices := by simp only [State.missIndex]; (repeat' split) <;> simp

/-! `State.countForward` -/

@[simp] theorem State.countForward_pins (s : State) : (s.countForward).pins = s.pins := by simp only [State.countForward]; (repeat' split) <;> simp
@[simp] theorem State.countForward_subMicro (s : State) : (s.countForward).subMicro = s.subMicro := by simp only [State.countForward]; (repeat' split) <;> simp
@[simp] theorem State.countForward_tb (s : State) : (s.countForward).tb = s.tb := by simp only [State.countForward]; (repeat' split) <;> simp
@[simp] theorem State.countForward_gt (s : State) : (s.countForward).gt = s.gt := by simp only [State.countForward]; (repeat' split) <;> simp
@[simp] theorem State.countForward_pending (s : State) : (s.countForward).pending = s.pending := by simp only [State.countForward]; (repeat' split) <;> simp
@[simp] theorem State.countForward_choices (s : State) : (s.countForward).choices = s.choices := by simp only [State.countForward]; (repeat' split) <;> simp

/-! `State.countBack` -/

@[simp] theorem State.countBack_pins (s : State) : (s.countBack).pins = s.pins := by simp only [State.countBack]; (repeat' split) <;> simp
@[simp] theorem State.countBack_subMicro (s : State) : (s.countBack).subMicro = s.subMicro := by simp only [State.countBack]; (repeat' split) <;> simp
@[simp] theorem State.countBack_tb (s : State) : (s.countBack).tb = s.tb := by simp only [State.countBack]; (repeat' split) <;> simp
@[simp] theorem State.countBack_gt (s : State) : (s.countBack).gt = s.gt := by simp only [State.countBack]; (repeat' split) <;> simp
@[simp] theorem State.countBack_pending (s : State) : (s.countBack).pending = s.pending := by simp only [State.countBack]; (repeat' split) <;> simp
@[simp] theorem State.countBack_choices (s : State) : (s.countBack).choices = s.choices := by simp only [State.countBack]; (repeat' split) <;> simp

/-! `State.crankEdge` -/

@[simp] theorem State.crankEdge_subMicro (s : State) (onA : Bool) (onB : Bool) : (s.crankEdge onA onB).subMicro = s.subMicro := by simp only [State.crankEdge]; (repeat' split) <;> simp
@[simp] theorem State.crankEdge_tb (s : State) (onA : Bool) (onB : Bool) : (s.crankEdge onA onB).tb = s.tb := by simp only [State.crankEdge]; (repeat' split) <;> simp
@[simp] theorem State.crankEdge_gt (s : State) (onA : Bool) (onB : Bool) : (s.crankEdge onA onB).gt = s.gt := by simp only [State.crankEdge]; (repeat' split) <;> simp
@[simp] theorem State.crankEdge_pending (s : State) (onA : Bool) (onB : Bool) : (s.crankEdge onA onB).pending = s.pending := by simp only [State.crankEdge]; (repeat' split) <;> simp
@[simp] theorem State.crankEdge_choices (s : State) (onA : Bool) (onB : Bool) : (s.crankEdge onA onB).choices = s.choices := by simp only [State.crankEdge]; (repeat' split) <;> simp

/-! `State.refresh` -/

@[simp] theorem State.refresh_pins (s : State) : (s.refresh).pins = s.pins := by unfold State.refresh; (repeat' split) <;> simp
@[simp] theorem State.refresh_subMicro (s : State) : (s.refresh).subMicro = s.subMicro := by unfold State.refresh; (repeat' split) <;> simp
@[simp] theorem State.refresh_tb (s : State) : (s.refresh).tb = s.tb := by unfold State.refresh; (repeat' split) <;> simp
@[simp] theorem State.refresh_gt (s : State) : (s.refresh).gt = s.gt := by unfold State.refresh; (repeat' split) <;> simp
@[simp] theorem State.refresh_cq (s : State) : (s.refresh).cq = s.cq := by unfold State.refresh; (repeat' split) <;> simp
@[simp] theorem State.refresh_sd (s : State) : (s.refresh).sd = s.sd := by unfold State.refresh; (repeat' split) <;> simp
@[simp] theorem State.refresh_hj (s : State) : (s.refresh).hj = s.hj := by unfold State.refresh; (repeat' split) <;> simp
@[simp] theorem State.refresh_ap (s : State) : (s.refresh).ap = s.ap := by unfold State.refresh; (repeat' split) <;> simp
@[simp] theorem State.refresh_sv (s : State) : (s.refresh).sv = s.sv := by unfold State.refresh; (repeat' split) <;> simp
@[simp] theorem State.refresh_job (s : State) : (s.refresh).job = s.job := by unfold State.refresh; (repeat' split) <;> simp
@[simp] theorem State.refresh_blade (s : State) : (s.refresh).blade = s.blade := by unfold State.refresh; (repeat' split) <;> simp
@[simp] theorem State.refresh_panel (s : State) : (s.refresh).panel = s.panel := by unfold State.refresh; (repeat' split) <;> simp
@[simp] theorem State.refresh_pending (s : State) : (s.refresh).pending = s.pending := by unfold State.refresh; (repeat' split) <;> simp
@[simp] theorem State.refresh_choices (s : State) : (s.refresh).choices = s.choices := by unfold State.refresh; (repeat' split) <;> simp

/-! `State.turnTo` -/

@[simp] theorem State.turnTo_pins (s : State) (c : Contour) (target : Nat) : (s.turnTo c target).pins = s.pins := rfl
@[simp] theorem State.turnTo_subMicro (s : State) (c : Contour) (target : Nat) : (s.turnTo c target).subMicro = s.subMicro := rfl
@[simp] theorem State.turnTo_tb (s : State) (c : Contour) (target : Nat) : (s.turnTo c target).tb = s.tb := rfl
@[simp] theorem State.turnTo_gt (s : State) (c : Contour) (target : Nat) : (s.turnTo c target).gt = s.gt := rfl
@[simp] theorem State.turnTo_cq (s : State) (c : Contour) (target : Nat) : (s.turnTo c target).cq = s.cq := rfl
@[simp] theorem State.turnTo_sd (s : State) (c : Contour) (target : Nat) : (s.turnTo c target).sd = s.sd := rfl
@[simp] theorem State.turnTo_hj (s : State) (c : Contour) (target : Nat) : (s.turnTo c target).hj = s.hj := rfl
@[simp] theorem State.turnTo_ap (s : State) (c : Contour) (target : Nat) : (s.turnTo c target).ap = s.ap := rfl
@[simp] theorem State.turnTo_sv (s : State) (c : Contour) (target : Nat) : (s.turnTo c target).sv = s.sv := rfl
@[simp] theorem State.turnTo_job (s : State) (c : Contour) (target : Nat) : (s.turnTo c target).job = s.job := rfl
@[simp] theorem State.turnTo_blade (s : State) (c : Contour) (target : Nat) : (s.turnTo c target).blade = s.blade := rfl
@[simp] theorem State.turnTo_panel (s : State) (c : Contour) (target : Nat) : (s.turnTo c target).panel = s.panel := rfl
@[simp] theorem State.turnTo_pending (s : State) (c : Contour) (target : Nat) : (s.turnTo c target).pending = s.pending := rfl
@[simp] theorem State.turnTo_choices (s : State) (c : Contour) (target : Nat) : (s.turnTo c target).choices = s.choices := rfl

/-! `State.cornerStep` -/

@[simp] theorem State.cornerStep_pins (s : State) (c : Contour) : (s.cornerStep c).pins = s.pins := by simp only [State.cornerStep]; (repeat' split) <;> simp
@[simp] theorem State.cornerStep_subMicro (s : State) (c : Contour) : (s.cornerStep c).subMicro = s.subMicro := by simp only [State.cornerStep]; (repeat' split) <;> simp
@[simp] theorem State.cornerStep_tb (s : State) (c : Contour) : (s.cornerStep c).tb = s.tb := by simp only [State.cornerStep]; (repeat' split) <;> simp
@[simp] theorem State.cornerStep_gt (s : State) (c : Contour) : (s.cornerStep c).gt = s.gt := by simp only [State.cornerStep]; (repeat' split) <;> simp
@[simp] theorem State.cornerStep_cq (s : State) (c : Contour) : (s.cornerStep c).cq = s.cq := by simp only [State.cornerStep]; (repeat' split) <;> simp
@[simp] theorem State.cornerStep_sd (s : State) (c : Contour) : (s.cornerStep c).sd = s.sd := by simp only [State.cornerStep]; (repeat' split) <;> simp
@[simp] theorem State.cornerStep_hj (s : State) (c : Contour) : (s.cornerStep c).hj = s.hj := by simp only [State.cornerStep]; (repeat' split) <;> simp
@[simp] theorem State.cornerStep_ap (s : State) (c : Contour) : (s.cornerStep c).ap = s.ap := by simp only [State.cornerStep]; (repeat' split) <;> simp
@[simp] theorem State.cornerStep_sv (s : State) (c : Contour) : (s.cornerStep c).sv = s.sv := by simp only [State.cornerStep]; (repeat' split) <;> simp
@[simp] theorem State.cornerStep_pending (s : State) (c : Contour) : (s.cornerStep c).pending = s.pending := by simp only [State.cornerStep]; (repeat' split) <;> simp
@[simp] theorem State.cornerStep_choices (s : State) (c : Contour) : (s.cornerStep c).choices = s.choices := by simp only [State.cornerStep]; (repeat' split) <;> simp

/-! `State.settleStep` -/

@[simp] theorem State.settleStep_pins (s : State) (c : Contour) : (s.settleStep c).pins = s.pins := by simp only [State.settleStep]; (repeat' split) <;> simp
@[simp] theorem State.settleStep_subMicro (s : State) (c : Contour) : (s.settleStep c).subMicro = s.subMicro := by simp only [State.settleStep]; (repeat' split) <;> simp
@[simp] theorem State.settleStep_tb (s : State) (c : Contour) : (s.settleStep c).tb = s.tb := by simp only [State.settleStep]; (repeat' split) <;> simp
@[simp] theorem State.settleStep_gt (s : State) (c : Contour) : (s.settleStep c).gt = s.gt := by simp only [State.settleStep]; (repeat' split) <;> simp
@[simp] theorem State.settleStep_cq (s : State) (c : Contour) : (s.settleStep c).cq = s.cq := by simp only [State.settleStep]; (repeat' split) <;> simp
@[simp] theorem State.settleStep_sd (s : State) (c : Contour) : (s.settleStep c).sd = s.sd := by simp only [State.settleStep]; (repeat' split) <;> simp
@[simp] theorem State.settleStep_hj (s : State) (c : Contour) : (s.settleStep c).hj = s.hj := by simp only [State.settleStep]; (repeat' split) <;> simp
@[simp] theorem State.settleStep_ap (s : State) (c : Contour) : (s.settleStep c).ap = s.ap := by simp only [State.settleStep]; (repeat' split) <;> simp
@[simp] theorem State.settleStep_sv (s : State) (c : Contour) : (s.settleStep c).sv = s.sv := by simp only [State.settleStep]; (repeat' split) <;> simp
@[simp] theorem State.settleStep_pending (s : State) (c : Contour) : (s.settleStep c).pending = s.pending := by simp only [State.settleStep]; (repeat' split) <;> simp
@[simp] theorem State.settleStep_choices (s : State) (c : Contour) : (s.settleStep c).choices = s.choices := by simp only [State.settleStep]; (repeat' split) <;> simp

/-! `State.crawlStep` -/

@[simp] theorem State.crawlStep_pins (s : State) (c : Contour) (normal : FiState) : (s.crawlStep c normal).pins = s.pins := by simp only [State.crawlStep]; (repeat' split) <;> simp
@[simp] theorem State.crawlStep_subMicro (s : State) (c : Contour) (normal : FiState) : (s.crawlStep c normal).subMicro = s.subMicro := by simp only [State.crawlStep]; (repeat' split) <;> simp
@[simp] theorem State.crawlStep_tb (s : State) (c : Contour) (normal : FiState) : (s.crawlStep c normal).tb = s.tb := by simp only [State.crawlStep]; (repeat' split) <;> simp
@[simp] theorem State.crawlStep_gt (s : State) (c : Contour) (normal : FiState) : (s.crawlStep c normal).gt = s.gt := by simp only [State.crawlStep]; (repeat' split) <;> simp
@[simp] theorem State.crawlStep_cq (s : State) (c : Contour) (normal : FiState) : (s.crawlStep c normal).cq = s.cq := by simp only [State.crawlStep]; (repeat' split) <;> simp
@[simp] theorem State.crawlStep_sd (s : State) (c : Contour) (normal : FiState) : (s.crawlStep c normal).sd = s.sd := by simp only [State.crawlStep]; (repeat' split) <;> simp
@[simp] theorem State.crawlStep_hj (s : State) (c : Contour) (normal : FiState) : (s.crawlStep c normal).hj = s.hj := by simp only [State.crawlStep]; (repeat' split) <;> simp
@[simp] theorem State.crawlStep_ap (s : State) (c : Contour) (normal : FiState) : (s.crawlStep c normal).ap = s.ap := by simp only [State.crawlStep]; (repeat' split) <;> simp
@[simp] theorem State.crawlStep_sv (s : State) (c : Contour) (normal : FiState) : (s.crawlStep c normal).sv = s.sv := by simp only [State.crawlStep]; (repeat' split) <;> simp
@[simp] theorem State.crawlStep_pending (s : State) (c : Contour) (normal : FiState) : (s.crawlStep c normal).pending = s.pending := by simp only [State.crawlStep]; (repeat' split) <;> simp
@[simp] theorem State.crawlStep_choices (s : State) (c : Contour) (normal : FiState) : (s.crawlStep c normal).choices = s.choices := by simp only [State.crawlStep]; (repeat' split) <;> simp

/-! `State.indexTurn` -/

@[simp] theorem State.indexTurn_pins (s : State) (c : Contour) : (s.indexTurn c).pins = s.pins := by unfold State.indexTurn; (repeat' split) <;> simp
@[simp] theorem State.indexTurn_subMicro (s : State) (c : Contour) : (s.indexTurn c).subMicro = s.subMicro := by unfold State.indexTurn; (repeat' split) <;> simp
@[simp] theorem State.indexTurn_tb (s : State) (c : Contour) : (s.indexTurn c).tb = s.tb := by unfold State.indexTurn; (repeat' split) <;> simp
@[simp] theorem State.indexTurn_gt (s : State) (c : Contour) : (s.indexTurn c).gt = s.gt := by unfold State.indexTurn; (repeat' split) <;> simp
@[simp] theorem State.indexTurn_cq (s : State) (c : Contour) : (s.indexTurn c).cq = s.cq := by unfold State.indexTurn; (repeat' split) <;> simp
@[simp] theorem State.indexTurn_sd (s : State) (c : Contour) : (s.indexTurn c).sd = s.sd := by unfold State.indexTurn; (repeat' split) <;> simp
@[simp] theorem State.indexTurn_hj (s : State) (c : Contour) : (s.indexTurn c).hj = s.hj := by unfold State.indexTurn; (repeat' split) <;> simp
@[simp] theorem State.indexTurn_ap (s : State) (c : Contour) : (s.indexTurn c).ap = s.ap := by unfold State.indexTurn; (repeat' split) <;> simp
@[simp] theorem State.indexTurn_sv (s : State) (c : Contour) : (s.indexTurn c).sv = s.sv := by unfold State.indexTurn; (repeat' split) <;> simp
@[simp] theorem State.indexTurn_pending (s : State) (c : Contour) : (s.indexTurn c).pending = s.pending := by unfold State.indexTurn; (repeat' split) <;> simp
@[simp] theorem State.indexTurn_choices (s : State) (c : Contour) : (s.indexTurn c).choices = s.choices := by unfold State.indexTurn; (repeat' split) <;> simp

/-! `State.indexEvent` -/

@[simp] theorem State.indexEvent_pins (s : State) (withPeriod : Bool) : (s.indexEvent withPeriod).pins = s.pins := by simp only [State.indexEvent]; (repeat' split) <;> simp
@[simp] theorem State.indexEvent_subMicro (s : State) (withPeriod : Bool) : (s.indexEvent withPeriod).subMicro = s.subMicro := by simp only [State.indexEvent]; (repeat' split) <;> simp
@[simp] theorem State.indexEvent_tb (s : State) (withPeriod : Bool) : (s.indexEvent withPeriod).tb = s.tb := by simp only [State.indexEvent]; (repeat' split) <;> simp
@[simp] theorem State.indexEvent_gt (s : State) (withPeriod : Bool) : (s.indexEvent withPeriod).gt = s.gt := by simp only [State.indexEvent]; (repeat' split) <;> simp
@[simp] theorem State.indexEvent_cq (s : State) (withPeriod : Bool) : (s.indexEvent withPeriod).cq = s.cq := by simp only [State.indexEvent]; (repeat' split) <;> simp
@[simp] theorem State.indexEvent_sd (s : State) (withPeriod : Bool) : (s.indexEvent withPeriod).sd = s.sd := by simp only [State.indexEvent]; (repeat' split) <;> simp
@[simp] theorem State.indexEvent_hj (s : State) (withPeriod : Bool) : (s.indexEvent withPeriod).hj = s.hj := by simp only [State.indexEvent]; (repeat' split) <;> simp
@[simp] theorem State.indexEvent_ap (s : State) (withPeriod : Bool) : (s.indexEvent withPeriod).ap = s.ap := by simp only [State.indexEvent]; (repeat' split) <;> simp
@[simp] theorem State.indexEvent_sv (s : State) (withPeriod : Bool) : (s.indexEvent withPeriod).sv = s.sv := by simp only [State.indexEvent]; (repeat' split) <;> simp
@[simp] theorem State.indexEvent_pending (s : State) (withPeriod : Bool) : (s.indexEvent withPeriod).pending = s.pending := by simp only [State.indexEvent]; (repeat' split) <;> simp
@[simp] theorem State.indexEvent_choices (s : State) (withPeriod : Bool) : (s.indexEvent withPeriod).choices = s.choices := by simp only [State.indexEvent]; (repeat' split) <;> simp

/-! `State.countIndex` -/

@[simp] theorem State.countIndex_pins (s : State) (period : Option Nat) : (s.countIndex period).pins = s.pins := rfl
@[simp] theorem State.countIndex_subMicro (s : State) (period : Option Nat) : (s.countIndex period).subMicro = s.subMicro := rfl
@[simp] theorem State.countIndex_tb (s : State) (period : Option Nat) : (s.countIndex period).tb = s.tb := rfl
@[simp] theorem State.countIndex_gt (s : State) (period : Option Nat) : (s.countIndex period).gt = s.gt := rfl
@[simp] theorem State.countIndex_cq (s : State) (period : Option Nat) : (s.countIndex period).cq = s.cq := rfl
@[simp] theorem State.countIndex_fi (s : State) (period : Option Nat) : (s.countIndex period).fi = s.fi := rfl
@[simp] theorem State.countIndex_hj (s : State) (period : Option Nat) : (s.countIndex period).hj = s.hj := rfl
@[simp] theorem State.countIndex_ap (s : State) (period : Option Nat) : (s.countIndex period).ap = s.ap := rfl
@[simp] theorem State.countIndex_sv (s : State) (period : Option Nat) : (s.countIndex period).sv = s.sv := rfl
@[simp] theorem State.countIndex_job (s : State) (period : Option Nat) : (s.countIndex period).job = s.job := rfl
@[simp] theorem State.countIndex_blade (s : State) (period : Option Nat) : (s.countIndex period).blade = s.blade := rfl
@[simp] theorem State.countIndex_panel (s : State) (period : Option Nat) : (s.countIndex period).panel = s.panel := rfl
@[simp] theorem State.countIndex_pending (s : State) (period : Option Nat) : (s.countIndex period).pending = s.pending := rfl
@[simp] theorem State.countIndex_choices (s : State) (period : Option Nat) : (s.countIndex period).choices = s.choices := rfl

/-! `State.validIndex` -/

@[simp] theorem State.validIndex_pins (s : State) : (s.validIndex).pins = s.pins := by simp [State.validIndex]
@[simp] theorem State.validIndex_subMicro (s : State) : (s.validIndex).subMicro = s.subMicro := by simp [State.validIndex]
@[simp] theorem State.validIndex_tb (s : State) : (s.validIndex).tb = s.tb := by simp [State.validIndex]
@[simp] theorem State.validIndex_gt (s : State) : (s.validIndex).gt = s.gt := by simp [State.validIndex]
@[simp] theorem State.validIndex_cq (s : State) : (s.validIndex).cq = s.cq := by simp [State.validIndex]
@[simp] theorem State.validIndex_ap (s : State) : (s.validIndex).ap = s.ap := by simp [State.validIndex]
@[simp] theorem State.validIndex_sv (s : State) : (s.validIndex).sv = s.sv := by simp [State.validIndex]
@[simp] theorem State.validIndex_pending (s : State) : (s.validIndex).pending = s.pending := by simp [State.validIndex]
@[simp] theorem State.validIndex_choices (s : State) : (s.validIndex).choices = s.choices := by simp [State.validIndex]

/-! `State.slipIndex` -/

@[simp] theorem State.slipIndex_pins (s : State) : (s.slipIndex).pins = s.pins := by simp only [State.slipIndex]; (repeat' split) <;> simp
@[simp] theorem State.slipIndex_subMicro (s : State) : (s.slipIndex).subMicro = s.subMicro := by simp only [State.slipIndex]; (repeat' split) <;> simp
@[simp] theorem State.slipIndex_tb (s : State) : (s.slipIndex).tb = s.tb := by simp only [State.slipIndex]; (repeat' split) <;> simp
@[simp] theorem State.slipIndex_gt (s : State) : (s.slipIndex).gt = s.gt := by simp only [State.slipIndex]; (repeat' split) <;> simp
@[simp] theorem State.slipIndex_pending (s : State) : (s.slipIndex).pending = s.pending := by simp only [State.slipIndex]; (repeat' split) <;> simp
@[simp] theorem State.slipIndex_choices (s : State) : (s.slipIndex).choices = s.choices := by simp only [State.slipIndex]; (repeat' split) <;> simp

/-! `State.czRises` -/

@[simp] theorem State.czRises_subMicro (s : State) : (s.czRises).subMicro = s.subMicro := rfl
@[simp] theorem State.czRises_tb (s : State) : (s.czRises).tb = s.tb := rfl
@[simp] theorem State.czRises_gt (s : State) : (s.czRises).gt = s.gt := rfl
@[simp] theorem State.czRises_cq (s : State) : (s.czRises).cq = s.cq := rfl
@[simp] theorem State.czRises_fi (s : State) : (s.czRises).fi = s.fi := rfl
@[simp] theorem State.czRises_hj (s : State) : (s.czRises).hj = s.hj := rfl
@[simp] theorem State.czRises_ap (s : State) : (s.czRises).ap = s.ap := rfl
@[simp] theorem State.czRises_sv (s : State) : (s.czRises).sv = s.sv := rfl
@[simp] theorem State.czRises_job (s : State) : (s.czRises).job = s.job := rfl
@[simp] theorem State.czRises_blade (s : State) : (s.czRises).blade = s.blade := rfl
@[simp] theorem State.czRises_panel (s : State) : (s.czRises).panel = s.panel := rfl
@[simp] theorem State.czRises_pending (s : State) : (s.czRises).pending = s.pending := rfl
@[simp] theorem State.czRises_choices (s : State) : (s.czRises).choices = s.choices := rfl

/-! `State.crankIndex` -/

@[simp] theorem State.crankIndex_subMicro (s : State) : (s.crankIndex).subMicro = s.subMicro := by simp only [State.crankIndex]; (repeat' split) <;> simp
@[simp] theorem State.crankIndex_tb (s : State) : (s.crankIndex).tb = s.tb := by simp only [State.crankIndex]; (repeat' split) <;> simp
@[simp] theorem State.crankIndex_gt (s : State) : (s.crankIndex).gt = s.gt := by simp only [State.crankIndex]; (repeat' split) <;> simp
@[simp] theorem State.crankIndex_pending (s : State) : (s.crankIndex).pending = s.pending := by simp only [State.crankIndex]; (repeat' split) <;> simp
@[simp] theorem State.crankIndex_choices (s : State) : (s.crankIndex).choices = s.choices := by simp only [State.crankIndex]; (repeat' split) <;> simp

/-! `State.slowOverdue` -/

@[simp] theorem State.slowOverdue_pins (s : State) : (s.slowOverdue).pins = s.pins := by unfold State.slowOverdue; (repeat' split) <;> simp
@[simp] theorem State.slowOverdue_subMicro (s : State) : (s.slowOverdue).subMicro = s.subMicro := by unfold State.slowOverdue; (repeat' split) <;> simp
@[simp] theorem State.slowOverdue_tb (s : State) : (s.slowOverdue).tb = s.tb := by unfold State.slowOverdue; (repeat' split) <;> simp
@[simp] theorem State.slowOverdue_gt (s : State) : (s.slowOverdue).gt = s.gt := by unfold State.slowOverdue; (repeat' split) <;> simp
@[simp] theorem State.slowOverdue_cq (s : State) : (s.slowOverdue).cq = s.cq := by unfold State.slowOverdue; (repeat' split) <;> simp
@[simp] theorem State.slowOverdue_ap (s : State) : (s.slowOverdue).ap = s.ap := by unfold State.slowOverdue; (repeat' split) <;> simp
@[simp] theorem State.slowOverdue_sv (s : State) : (s.slowOverdue).sv = s.sv := by unfold State.slowOverdue; (repeat' split) <;> simp
@[simp] theorem State.slowOverdue_pending (s : State) : (s.slowOverdue).pending = s.pending := by unfold State.slowOverdue; (repeat' split) <;> simp
@[simp] theorem State.slowOverdue_choices (s : State) : (s.slowOverdue).choices = s.choices := by unfold State.slowOverdue; (repeat' split) <;> simp

/-! `State.stallTimeout` -/

@[simp] theorem State.stallTimeout_pins (s : State) : (s.stallTimeout).pins = s.pins := by simp only [State.stallTimeout]; (repeat' split) <;> simp
@[simp] theorem State.stallTimeout_subMicro (s : State) : (s.stallTimeout).subMicro = s.subMicro := by simp only [State.stallTimeout]; (repeat' split) <;> simp
@[simp] theorem State.stallTimeout_tb (s : State) : (s.stallTimeout).tb = s.tb := by simp only [State.stallTimeout]; (repeat' split) <;> simp
@[simp] theorem State.stallTimeout_gt (s : State) : (s.stallTimeout).gt = s.gt := by simp only [State.stallTimeout]; (repeat' split) <;> simp
@[simp] theorem State.stallTimeout_pending (s : State) : (s.stallTimeout).pending = s.pending := by simp only [State.stallTimeout]; (repeat' split) <;> simp
@[simp] theorem State.stallTimeout_choices (s : State) : (s.stallTimeout).choices = s.choices := by simp only [State.stallTimeout]; (repeat' split) <;> simp

/-! `State.stopLimit` -/

@[simp] theorem State.stopLimit_pins (s : State) : (s.stopLimit).pins = s.pins := by unfold State.stopLimit; (repeat' split) <;> simp
@[simp] theorem State.stopLimit_subMicro (s : State) : (s.stopLimit).subMicro = s.subMicro := by unfold State.stopLimit; (repeat' split) <;> simp
@[simp] theorem State.stopLimit_tb (s : State) : (s.stopLimit).tb = s.tb := by unfold State.stopLimit; (repeat' split) <;> simp
@[simp] theorem State.stopLimit_gt (s : State) : (s.stopLimit).gt = s.gt := by unfold State.stopLimit; (repeat' split) <;> simp
@[simp] theorem State.stopLimit_pending (s : State) : (s.stopLimit).pending = s.pending := by unfold State.stopLimit; (repeat' split) <;> simp
@[simp] theorem State.stopLimit_choices (s : State) : (s.stopLimit).choices = s.choices := by unfold State.stopLimit; (repeat' split) <;> simp

/-! `State.clockLost` -/

@[simp] theorem State.clockLost_subMicro (s : State) : (s.clockLost).subMicro = s.subMicro := rfl
@[simp] theorem State.clockLost_tb (s : State) : (s.clockLost).tb = s.tb := rfl
@[simp] theorem State.clockLost_gt (s : State) : (s.clockLost).gt = s.gt := rfl
@[simp] theorem State.clockLost_cq (s : State) : (s.clockLost).cq = s.cq := rfl
@[simp] theorem State.clockLost_fi (s : State) : (s.clockLost).fi = s.fi := rfl
@[simp] theorem State.clockLost_sd (s : State) : (s.clockLost).sd = s.sd := rfl
@[simp] theorem State.clockLost_hj (s : State) : (s.clockLost).hj = s.hj := rfl
@[simp] theorem State.clockLost_job (s : State) : (s.clockLost).job = s.job := rfl
@[simp] theorem State.clockLost_blade (s : State) : (s.clockLost).blade = s.blade := rfl
@[simp] theorem State.clockLost_panel (s : State) : (s.clockLost).panel = s.panel := rfl
@[simp] theorem State.clockLost_pending (s : State) : (s.clockLost).pending = s.pending := rfl
@[simp] theorem State.clockLost_choices (s : State) : (s.clockLost).choices = s.choices := rfl

/-! `State.lossFall` -/

@[simp] theorem State.lossFall_pins (s : State) : (s.lossFall).pins = s.pins := by simp [State.lossFall]
@[simp] theorem State.lossFall_subMicro (s : State) : (s.lossFall).subMicro = s.subMicro := by simp [State.lossFall]
@[simp] theorem State.lossFall_tb (s : State) : (s.lossFall).tb = s.tb := by simp [State.lossFall]
@[simp] theorem State.lossFall_gt (s : State) : (s.lossFall).gt = s.gt := by simp [State.lossFall]
@[simp] theorem State.lossFall_cq (s : State) : (s.lossFall).cq = s.cq := by simp [State.lossFall]
@[simp] theorem State.lossFall_fi (s : State) : (s.lossFall).fi = s.fi := by simp [State.lossFall]
@[simp] theorem State.lossFall_sd (s : State) : (s.lossFall).sd = s.sd := by simp [State.lossFall]
@[simp] theorem State.lossFall_hj (s : State) : (s.lossFall).hj = s.hj := by simp [State.lossFall]
@[simp] theorem State.lossFall_job (s : State) : (s.lossFall).job = s.job := by simp [State.lossFall]
@[simp] theorem State.lossFall_blade (s : State) : (s.lossFall).blade = s.blade := by simp [State.lossFall]
@[simp] theorem State.lossFall_panel (s : State) : (s.lossFall).panel = s.panel := by simp [State.lossFall]
@[simp] theorem State.lossFall_pending (s : State) : (s.lossFall).pending = s.pending := by simp [State.lossFall]
@[simp] theorem State.lossFall_choices (s : State) : (s.lossFall).choices = s.choices := by simp [State.lossFall]

/-! `State.stopDirect` -/

@[simp] theorem State.stopDirect_pins (s : State) : (s.stopDirect).pins = s.pins := by simp [State.stopDirect]
@[simp] theorem State.stopDirect_subMicro (s : State) : (s.stopDirect).subMicro = s.subMicro := by simp [State.stopDirect]
@[simp] theorem State.stopDirect_tb (s : State) : (s.stopDirect).tb = s.tb := by simp [State.stopDirect]
@[simp] theorem State.stopDirect_gt (s : State) : (s.stopDirect).gt = s.gt := by simp [State.stopDirect]
@[simp] theorem State.stopDirect_pending (s : State) : (s.stopDirect).pending = s.pending := by simp [State.stopDirect]
@[simp] theorem State.stopDirect_choices (s : State) : (s.stopDirect).choices = s.choices := by simp [State.stopDirect]

/-! `State.returnAction` -/

@[simp] theorem State.returnAction_pins (s : State) : (s.returnAction).pins = s.pins := by unfold State.returnAction; (repeat' split) <;> simp
@[simp] theorem State.returnAction_subMicro (s : State) : (s.returnAction).subMicro = s.subMicro := by unfold State.returnAction; (repeat' split) <;> simp
@[simp] theorem State.returnAction_tb (s : State) : (s.returnAction).tb = s.tb := by unfold State.returnAction; (repeat' split) <;> simp
@[simp] theorem State.returnAction_gt (s : State) : (s.returnAction).gt = s.gt := by unfold State.returnAction; (repeat' split) <;> simp
@[simp] theorem State.returnAction_pending (s : State) : (s.returnAction).pending = s.pending := by unfold State.returnAction; (repeat' split) <;> simp
@[simp] theorem State.returnAction_choices (s : State) : (s.returnAction).choices = s.choices := by unfold State.returnAction; (repeat' split) <;> simp

/-! `State.clockReturned` -/

@[simp] theorem State.clockReturned_subMicro (s : State) : (s.clockReturned).subMicro = s.subMicro := by simp only [State.clockReturned]; (repeat' split) <;> simp
@[simp] theorem State.clockReturned_tb (s : State) : (s.clockReturned).tb = s.tb := by simp only [State.clockReturned]; (repeat' split) <;> simp
@[simp] theorem State.clockReturned_gt (s : State) : (s.clockReturned).gt = s.gt := by simp only [State.clockReturned]; (repeat' split) <;> simp
@[simp] theorem State.clockReturned_pending (s : State) : (s.clockReturned).pending = s.pending := by simp only [State.clockReturned]; (repeat' split) <;> simp
@[simp] theorem State.clockReturned_choices (s : State) : (s.clockReturned).choices = s.choices := by simp only [State.clockReturned]; (repeat' split) <;> simp

/-! `State.pauseRun` -/

@[simp] theorem State.pauseRun_pins (s : State) : (s.pauseRun).pins = s.pins := by simp only [State.pauseRun]; (repeat' split) <;> simp
@[simp] theorem State.pauseRun_subMicro (s : State) : (s.pauseRun).subMicro = s.subMicro := by simp only [State.pauseRun]; (repeat' split) <;> simp
@[simp] theorem State.pauseRun_tb (s : State) : (s.pauseRun).tb = s.tb := by simp only [State.pauseRun]; (repeat' split) <;> simp
@[simp] theorem State.pauseRun_gt (s : State) : (s.pauseRun).gt = s.gt := by simp only [State.pauseRun]; (repeat' split) <;> simp
@[simp] theorem State.pauseRun_cq (s : State) : (s.pauseRun).cq = s.cq := by simp only [State.pauseRun]; (repeat' split) <;> simp
@[simp] theorem State.pauseRun_sd (s : State) : (s.pauseRun).sd = s.sd := by simp only [State.pauseRun]; (repeat' split) <;> simp
@[simp] theorem State.pauseRun_hj (s : State) : (s.pauseRun).hj = s.hj := by simp only [State.pauseRun]; (repeat' split) <;> simp
@[simp] theorem State.pauseRun_ap (s : State) : (s.pauseRun).ap = s.ap := by simp only [State.pauseRun]; (repeat' split) <;> simp
@[simp] theorem State.pauseRun_sv (s : State) : (s.pauseRun).sv = s.sv := by simp only [State.pauseRun]; (repeat' split) <;> simp
@[simp] theorem State.pauseRun_pending (s : State) : (s.pauseRun).pending = s.pending := by simp only [State.pauseRun]; (repeat' split) <;> simp
@[simp] theorem State.pauseRun_choices (s : State) : (s.pauseRun).choices = s.choices := by simp only [State.pauseRun]; (repeat' split) <;> simp

/-! `State.cutJog` -/

@[simp] theorem State.cutJog_pins (s : State) : (s.cutJog).pins = s.pins := by simp [State.cutJog]
@[simp] theorem State.cutJog_subMicro (s : State) : (s.cutJog).subMicro = s.subMicro := by simp [State.cutJog]
@[simp] theorem State.cutJog_tb (s : State) : (s.cutJog).tb = s.tb := by simp [State.cutJog]
@[simp] theorem State.cutJog_gt (s : State) : (s.cutJog).gt = s.gt := by simp [State.cutJog]
@[simp] theorem State.cutJog_cq (s : State) : (s.cutJog).cq = s.cq := by simp [State.cutJog]
@[simp] theorem State.cutJog_fi (s : State) : (s.cutJog).fi = s.fi := by simp [State.cutJog]
@[simp] theorem State.cutJog_sd (s : State) : (s.cutJog).sd = s.sd := by simp [State.cutJog]
@[simp] theorem State.cutJog_ap (s : State) : (s.cutJog).ap = s.ap := by simp [State.cutJog]
@[simp] theorem State.cutJog_sv (s : State) : (s.cutJog).sv = s.sv := by simp [State.cutJog]
@[simp] theorem State.cutJog_job (s : State) : (s.cutJog).job = s.job := by simp [State.cutJog]
@[simp] theorem State.cutJog_blade (s : State) : (s.cutJog).blade = s.blade := by simp [State.cutJog]
@[simp] theorem State.cutJog_panel (s : State) : (s.cutJog).panel = s.panel := by simp [State.cutJog]
@[simp] theorem State.cutJog_pending (s : State) : (s.cutJog).pending = s.pending := by simp [State.cutJog]
@[simp] theorem State.cutJog_choices (s : State) : (s.cutJog).choices = s.choices := by simp [State.cutJog]

/-! `State.resetCut` -/

@[simp] theorem State.resetCut_pins (s : State) : (s.resetCut).pins = s.pins := by simp [State.resetCut]
@[simp] theorem State.resetCut_subMicro (s : State) : (s.resetCut).subMicro = s.subMicro := by simp [State.resetCut]
@[simp] theorem State.resetCut_tb (s : State) : (s.resetCut).tb = s.tb := by simp [State.resetCut]
@[simp] theorem State.resetCut_gt (s : State) : (s.resetCut).gt = s.gt := by simp [State.resetCut]
@[simp] theorem State.resetCut_ap (s : State) : (s.resetCut).ap = s.ap := by simp [State.resetCut]
@[simp] theorem State.resetCut_sv (s : State) : (s.resetCut).sv = s.sv := by simp [State.resetCut]
@[simp] theorem State.resetCut_pending (s : State) : (s.resetCut).pending = s.pending := by simp [State.resetCut]
@[simp] theorem State.resetCut_choices (s : State) : (s.resetCut).choices = s.choices := by simp [State.resetCut]

/-! `State.clearFault` -/

@[simp] theorem State.clearFault_pins (s : State) : (s.clearFault).pins = s.pins := by simp [State.clearFault]
@[simp] theorem State.clearFault_subMicro (s : State) : (s.clearFault).subMicro = s.subMicro := by simp [State.clearFault]
@[simp] theorem State.clearFault_tb (s : State) : (s.clearFault).tb = s.tb := by simp [State.clearFault]
@[simp] theorem State.clearFault_gt (s : State) : (s.clearFault).gt = s.gt := by simp [State.clearFault]
@[simp] theorem State.clearFault_pending (s : State) : (s.clearFault).pending = s.pending := by simp [State.clearFault]
@[simp] theorem State.clearFault_choices (s : State) : (s.clearFault).choices = s.choices := by simp [State.clearFault]

/-! `State.addHold` -/

@[simp] theorem State.addHold_pins (s : State) (p : Port) : (s.addHold p).pins = s.pins := by unfold State.addHold; (repeat' split) <;> simp
@[simp] theorem State.addHold_subMicro (s : State) (p : Port) : (s.addHold p).subMicro = s.subMicro := by unfold State.addHold; (repeat' split) <;> simp
@[simp] theorem State.addHold_tb (s : State) (p : Port) : (s.addHold p).tb = s.tb := by unfold State.addHold; (repeat' split) <;> simp
@[simp] theorem State.addHold_gt (s : State) (p : Port) : (s.addHold p).gt = s.gt := by unfold State.addHold; (repeat' split) <;> simp
@[simp] theorem State.addHold_cq (s : State) (p : Port) : (s.addHold p).cq = s.cq := by unfold State.addHold; (repeat' split) <;> simp
@[simp] theorem State.addHold_sd (s : State) (p : Port) : (s.addHold p).sd = s.sd := by unfold State.addHold; (repeat' split) <;> simp
@[simp] theorem State.addHold_ap (s : State) (p : Port) : (s.addHold p).ap = s.ap := by unfold State.addHold; (repeat' split) <;> simp
@[simp] theorem State.addHold_sv (s : State) (p : Port) : (s.addHold p).sv = s.sv := by unfold State.addHold; (repeat' split) <;> simp
@[simp] theorem State.addHold_pending (s : State) (p : Port) : (s.addHold p).pending = s.pending := by unfold State.addHold; (repeat' split) <;> simp
@[simp] theorem State.addHold_choices (s : State) (p : Port) : (s.addHold p).choices = s.choices := by unfold State.addHold; (repeat' split) <;> simp

/-! `State.setBlade` -/

@[simp] theorem State.setBlade_pins (s : State) (running : Bool) : (s.setBlade running).pins = s.pins := by simp only [State.setBlade]; (repeat' split) <;> simp
@[simp] theorem State.setBlade_subMicro (s : State) (running : Bool) : (s.setBlade running).subMicro = s.subMicro := by simp only [State.setBlade]; (repeat' split) <;> simp
@[simp] theorem State.setBlade_tb (s : State) (running : Bool) : (s.setBlade running).tb = s.tb := by simp only [State.setBlade]; (repeat' split) <;> simp
@[simp] theorem State.setBlade_gt (s : State) (running : Bool) : (s.setBlade running).gt = s.gt := by simp only [State.setBlade]; (repeat' split) <;> simp
@[simp] theorem State.setBlade_cq (s : State) (running : Bool) : (s.setBlade running).cq = s.cq := by simp only [State.setBlade]; (repeat' split) <;> simp
@[simp] theorem State.setBlade_ap (s : State) (running : Bool) : (s.setBlade running).ap = s.ap := by simp only [State.setBlade]; (repeat' split) <;> simp
@[simp] theorem State.setBlade_sv (s : State) (running : Bool) : (s.setBlade running).sv = s.sv := by simp only [State.setBlade]; (repeat' split) <;> simp
@[simp] theorem State.setBlade_pending (s : State) (running : Bool) : (s.setBlade running).pending = s.pending := by simp only [State.setBlade]; (repeat' split) <;> simp
@[simp] theorem State.setBlade_choices (s : State) (running : Bool) : (s.setBlade running).choices = s.choices := by simp only [State.setBlade]; (repeat' split) <;> simp

/-! `State.setOverride` -/

@[simp] theorem State.setOverride_pins (s : State) (v : Nat) : (s.setOverride v).pins = s.pins := by unfold State.setOverride; (repeat' split) <;> simp
@[simp] theorem State.setOverride_subMicro (s : State) (v : Nat) : (s.setOverride v).subMicro = s.subMicro := by unfold State.setOverride; (repeat' split) <;> simp
@[simp] theorem State.setOverride_tb (s : State) (v : Nat) : (s.setOverride v).tb = s.tb := by unfold State.setOverride; (repeat' split) <;> simp
@[simp] theorem State.setOverride_gt (s : State) (v : Nat) : (s.setOverride v).gt = s.gt := by unfold State.setOverride; (repeat' split) <;> simp
@[simp] theorem State.setOverride_cq (s : State) (v : Nat) : (s.setOverride v).cq = s.cq := by unfold State.setOverride; (repeat' split) <;> simp
@[simp] theorem State.setOverride_sd (s : State) (v : Nat) : (s.setOverride v).sd = s.sd := by unfold State.setOverride; (repeat' split) <;> simp
@[simp] theorem State.setOverride_ap (s : State) (v : Nat) : (s.setOverride v).ap = s.ap := by unfold State.setOverride; (repeat' split) <;> simp
@[simp] theorem State.setOverride_sv (s : State) (v : Nat) : (s.setOverride v).sv = s.sv := by unfold State.setOverride; (repeat' split) <;> simp
@[simp] theorem State.setOverride_pending (s : State) (v : Nat) : (s.setOverride v).pending = s.pending := by unfold State.setOverride; (repeat' split) <;> simp
@[simp] theorem State.setOverride_choices (s : State) (v : Nat) : (s.setOverride v).choices = s.choices := by unfold State.setOverride; (repeat' split) <;> simp

/-! `State.holdnEdge` -/

@[simp] theorem State.holdnEdge_subMicro (s : State) (level : Bool) : (s.holdnEdge level).subMicro = s.subMicro := rfl
@[simp] theorem State.holdnEdge_tb (s : State) (level : Bool) : (s.holdnEdge level).tb = s.tb := rfl
@[simp] theorem State.holdnEdge_gt (s : State) (level : Bool) : (s.holdnEdge level).gt = s.gt := rfl
@[simp] theorem State.holdnEdge_cq (s : State) (level : Bool) : (s.holdnEdge level).cq = s.cq := rfl
@[simp] theorem State.holdnEdge_fi (s : State) (level : Bool) : (s.holdnEdge level).fi = s.fi := rfl
@[simp] theorem State.holdnEdge_hj (s : State) (level : Bool) : (s.holdnEdge level).hj = s.hj := rfl
@[simp] theorem State.holdnEdge_ap (s : State) (level : Bool) : (s.holdnEdge level).ap = s.ap := rfl
@[simp] theorem State.holdnEdge_sv (s : State) (level : Bool) : (s.holdnEdge level).sv = s.sv := rfl
@[simp] theorem State.holdnEdge_job (s : State) (level : Bool) : (s.holdnEdge level).job = s.job := rfl
@[simp] theorem State.holdnEdge_blade (s : State) (level : Bool) : (s.holdnEdge level).blade = s.blade := rfl
@[simp] theorem State.holdnEdge_panel (s : State) (level : Bool) : (s.holdnEdge level).panel = s.panel := rfl
@[simp] theorem State.holdnEdge_pending (s : State) (level : Bool) : (s.holdnEdge level).pending = s.pending := rfl
@[simp] theorem State.holdnEdge_choices (s : State) (level : Bool) : (s.holdnEdge level).choices = s.choices := rfl

/-! `State.lineFalls` -/

@[simp] theorem State.lineFalls_subMicro (s : State) : (s.lineFalls).subMicro = s.subMicro := by simp [State.lineFalls]
@[simp] theorem State.lineFalls_tb (s : State) : (s.lineFalls).tb = s.tb := by simp [State.lineFalls]
@[simp] theorem State.lineFalls_gt (s : State) : (s.lineFalls).gt = s.gt := by simp [State.lineFalls]
@[simp] theorem State.lineFalls_cq (s : State) : (s.lineFalls).cq = s.cq := by simp [State.lineFalls]
@[simp] theorem State.lineFalls_ap (s : State) : (s.lineFalls).ap = s.ap := by simp [State.lineFalls]
@[simp] theorem State.lineFalls_sv (s : State) : (s.lineFalls).sv = s.sv := by simp [State.lineFalls]
@[simp] theorem State.lineFalls_pending (s : State) : (s.lineFalls).pending = s.pending := by simp [State.lineFalls]
@[simp] theorem State.lineFalls_choices (s : State) : (s.lineFalls).choices = s.choices := by simp [State.lineFalls]

/-! `State.lineRises` -/

@[simp] theorem State.lineRises_subMicro (s : State) : (s.lineRises).subMicro = s.subMicro := by simp [State.lineRises]
@[simp] theorem State.lineRises_tb (s : State) : (s.lineRises).tb = s.tb := by simp [State.lineRises]
@[simp] theorem State.lineRises_gt (s : State) : (s.lineRises).gt = s.gt := by simp [State.lineRises]
@[simp] theorem State.lineRises_cq (s : State) : (s.lineRises).cq = s.cq := by simp [State.lineRises]
@[simp] theorem State.lineRises_ap (s : State) : (s.lineRises).ap = s.ap := by simp [State.lineRises]
@[simp] theorem State.lineRises_sv (s : State) : (s.lineRises).sv = s.sv := by simp [State.lineRises]
@[simp] theorem State.lineRises_pending (s : State) : (s.lineRises).pending = s.pending := by simp [State.lineRises]
@[simp] theorem State.lineRises_choices (s : State) : (s.lineRises).choices = s.choices := by simp [State.lineRises]

/-! `State.abandon` -/

@[simp] theorem State.abandon_pins (s : State) : (s.abandon).pins = s.pins := by unfold State.abandon; (repeat' split) <;> simp
@[simp] theorem State.abandon_subMicro (s : State) : (s.abandon).subMicro = s.subMicro := by unfold State.abandon; (repeat' split) <;> simp
@[simp] theorem State.abandon_tb (s : State) : (s.abandon).tb = s.tb := by unfold State.abandon; (repeat' split) <;> simp
@[simp] theorem State.abandon_gt (s : State) : (s.abandon).gt = s.gt := by unfold State.abandon; (repeat' split) <;> simp
@[simp] theorem State.abandon_ap (s : State) : (s.abandon).ap = s.ap := by unfold State.abandon; (repeat' split) <;> simp
@[simp] theorem State.abandon_sv (s : State) : (s.abandon).sv = s.sv := by unfold State.abandon; (repeat' split) <;> simp
@[simp] theorem State.abandon_pending (s : State) : (s.abandon).pending = s.pending := by unfold State.abandon; (repeat' split) <;> simp
@[simp] theorem State.abandon_choices (s : State) : (s.abandon).choices = s.choices := by unfold State.abandon; (repeat' split) <;> simp

/-! `State.startJog` -/

@[simp] theorem State.startJog_pins (s : State) (axis : Axis) (positive : Bool) (speed : Nat) : (s.startJog axis positive speed).pins = s.pins := by simp [State.startJog]
@[simp] theorem State.startJog_subMicro (s : State) (axis : Axis) (positive : Bool) (speed : Nat) : (s.startJog axis positive speed).subMicro = s.subMicro := by simp [State.startJog]
@[simp] theorem State.startJog_tb (s : State) (axis : Axis) (positive : Bool) (speed : Nat) : (s.startJog axis positive speed).tb = s.tb := by simp [State.startJog]
@[simp] theorem State.startJog_gt (s : State) (axis : Axis) (positive : Bool) (speed : Nat) : (s.startJog axis positive speed).gt = s.gt := by simp [State.startJog]
@[simp] theorem State.startJog_ap (s : State) (axis : Axis) (positive : Bool) (speed : Nat) : (s.startJog axis positive speed).ap = s.ap := by simp [State.startJog]
@[simp] theorem State.startJog_sv (s : State) (axis : Axis) (positive : Bool) (speed : Nat) : (s.startJog axis positive speed).sv = s.sv := by simp [State.startJog]
@[simp] theorem State.startJog_pending (s : State) (axis : Axis) (positive : Bool) (speed : Nat) : (s.startJog axis positive speed).pending = s.pending := by simp [State.startJog]
@[simp] theorem State.startJog_choices (s : State) (axis : Axis) (positive : Bool) (speed : Nat) : (s.startJog axis positive speed).choices = s.choices := by simp [State.startJog]

/-! `State.keepJog` -/

@[simp] theorem State.keepJog_pins (s : State) (m : JogMove) : (s.keepJog m).pins = s.pins := by simp only [State.keepJog]; (repeat' split) <;> simp
@[simp] theorem State.keepJog_subMicro (s : State) (m : JogMove) : (s.keepJog m).subMicro = s.subMicro := by simp only [State.keepJog]; (repeat' split) <;> simp
@[simp] theorem State.keepJog_tb (s : State) (m : JogMove) : (s.keepJog m).tb = s.tb := by simp only [State.keepJog]; (repeat' split) <;> simp
@[simp] theorem State.keepJog_gt (s : State) (m : JogMove) : (s.keepJog m).gt = s.gt := by simp only [State.keepJog]; (repeat' split) <;> simp
@[simp] theorem State.keepJog_cq (s : State) (m : JogMove) : (s.keepJog m).cq = s.cq := by simp only [State.keepJog]; (repeat' split) <;> simp
@[simp] theorem State.keepJog_fi (s : State) (m : JogMove) : (s.keepJog m).fi = s.fi := by simp only [State.keepJog]; (repeat' split) <;> simp
@[simp] theorem State.keepJog_sd (s : State) (m : JogMove) : (s.keepJog m).sd = s.sd := by simp only [State.keepJog]; (repeat' split) <;> simp
@[simp] theorem State.keepJog_ap (s : State) (m : JogMove) : (s.keepJog m).ap = s.ap := by simp only [State.keepJog]; (repeat' split) <;> simp
@[simp] theorem State.keepJog_sv (s : State) (m : JogMove) : (s.keepJog m).sv = s.sv := by simp only [State.keepJog]; (repeat' split) <;> simp
@[simp] theorem State.keepJog_job (s : State) (m : JogMove) : (s.keepJog m).job = s.job := by simp only [State.keepJog]; (repeat' split) <;> simp
@[simp] theorem State.keepJog_blade (s : State) (m : JogMove) : (s.keepJog m).blade = s.blade := by simp only [State.keepJog]; (repeat' split) <;> simp
@[simp] theorem State.keepJog_panel (s : State) (m : JogMove) : (s.keepJog m).panel = s.panel := by simp only [State.keepJog]; (repeat' split) <;> simp
@[simp] theorem State.keepJog_pending (s : State) (m : JogMove) : (s.keepJog m).pending = s.pending := by simp only [State.keepJog]; (repeat' split) <;> simp
@[simp] theorem State.keepJog_choices (s : State) (m : JogMove) : (s.keepJog m).choices = s.choices := by simp only [State.keepJog]; (repeat' split) <;> simp

/-! `State.acceptEntry` -/

@[simp] theorem State.acceptEntry_pins (s : State) (e : Entry) : (s.acceptEntry e).pins = s.pins := by simp only [State.acceptEntry]; (repeat' split) <;> simp
@[simp] theorem State.acceptEntry_subMicro (s : State) (e : Entry) : (s.acceptEntry e).subMicro = s.subMicro := by simp only [State.acceptEntry]; (repeat' split) <;> simp
@[simp] theorem State.acceptEntry_tb (s : State) (e : Entry) : (s.acceptEntry e).tb = s.tb := by simp only [State.acceptEntry]; (repeat' split) <;> simp
@[simp] theorem State.acceptEntry_gt (s : State) (e : Entry) : (s.acceptEntry e).gt = s.gt := by simp only [State.acceptEntry]; (repeat' split) <;> simp
@[simp] theorem State.acceptEntry_sd (s : State) (e : Entry) : (s.acceptEntry e).sd = s.sd := by simp only [State.acceptEntry]; (repeat' split) <;> simp
@[simp] theorem State.acceptEntry_hj (s : State) (e : Entry) : (s.acceptEntry e).hj = s.hj := by simp only [State.acceptEntry]; (repeat' split) <;> simp
@[simp] theorem State.acceptEntry_ap (s : State) (e : Entry) : (s.acceptEntry e).ap = s.ap := by simp only [State.acceptEntry]; (repeat' split) <;> simp
@[simp] theorem State.acceptEntry_sv (s : State) (e : Entry) : (s.acceptEntry e).sv = s.sv := by simp only [State.acceptEntry]; (repeat' split) <;> simp
@[simp] theorem State.acceptEntry_pending (s : State) (e : Entry) : (s.acceptEntry e).pending = s.pending := by simp only [State.acceptEntry]; (repeat' split) <;> simp
@[simp] theorem State.acceptEntry_choices (s : State) (e : Entry) : (s.acceptEntry e).choices = s.choices := by simp only [State.acceptEntry]; (repeat' split) <;> simp

/-! `State.restartFilters` -/

@[simp] theorem State.restartFilters_pins (s : State) : (s.restartFilters).pins = s.pins := rfl
@[simp] theorem State.restartFilters_subMicro (s : State) : (s.restartFilters).subMicro = s.subMicro := rfl
@[simp] theorem State.restartFilters_tb (s : State) : (s.restartFilters).tb = s.tb := rfl
@[simp] theorem State.restartFilters_gt (s : State) : (s.restartFilters).gt = s.gt := rfl
@[simp] theorem State.restartFilters_cq (s : State) : (s.restartFilters).cq = s.cq := rfl
@[simp] theorem State.restartFilters_fi (s : State) : (s.restartFilters).fi = s.fi := rfl
@[simp] theorem State.restartFilters_hj (s : State) : (s.restartFilters).hj = s.hj := rfl
@[simp] theorem State.restartFilters_ap (s : State) : (s.restartFilters).ap = s.ap := rfl
@[simp] theorem State.restartFilters_sv (s : State) : (s.restartFilters).sv = s.sv := rfl
@[simp] theorem State.restartFilters_job (s : State) : (s.restartFilters).job = s.job := rfl
@[simp] theorem State.restartFilters_blade (s : State) : (s.restartFilters).blade = s.blade := rfl
@[simp] theorem State.restartFilters_panel (s : State) : (s.restartFilters).panel = s.panel := rfl
@[simp] theorem State.restartFilters_pending (s : State) : (s.restartFilters).pending = s.pending := rfl
@[simp] theorem State.restartFilters_choices (s : State) : (s.restartFilters).choices = s.choices := rfl

/-! `State.recount` -/

@[simp] theorem State.recount_pins (s : State) (selector : Nat) : (s.recount selector).pins = s.pins := by unfold State.recount; (repeat' split) <;> simp
@[simp] theorem State.recount_subMicro (s : State) (selector : Nat) : (s.recount selector).subMicro = s.subMicro := by unfold State.recount; (repeat' split) <;> simp
@[simp] theorem State.recount_tb (s : State) (selector : Nat) : (s.recount selector).tb = s.tb := by unfold State.recount; (repeat' split) <;> simp
@[simp] theorem State.recount_gt (s : State) (selector : Nat) : (s.recount selector).gt = s.gt := by unfold State.recount; (repeat' split) <;> simp
@[simp] theorem State.recount_cq (s : State) (selector : Nat) : (s.recount selector).cq = s.cq := by unfold State.recount; (repeat' split) <;> simp
@[simp] theorem State.recount_fi (s : State) (selector : Nat) : (s.recount selector).fi = s.fi := by unfold State.recount; (repeat' split) <;> simp
@[simp] theorem State.recount_sd (s : State) (selector : Nat) : (s.recount selector).sd = s.sd := by unfold State.recount; (repeat' split) <;> simp
@[simp] theorem State.recount_hj (s : State) (selector : Nat) : (s.recount selector).hj = s.hj := by unfold State.recount; (repeat' split) <;> simp
@[simp] theorem State.recount_sv (s : State) (selector : Nat) : (s.recount selector).sv = s.sv := by unfold State.recount; (repeat' split) <;> simp
@[simp] theorem State.recount_job (s : State) (selector : Nat) : (s.recount selector).job = s.job := by unfold State.recount; (repeat' split) <;> simp
@[simp] theorem State.recount_blade (s : State) (selector : Nat) : (s.recount selector).blade = s.blade := by unfold State.recount; (repeat' split) <;> simp
@[simp] theorem State.recount_panel (s : State) (selector : Nat) : (s.recount selector).panel = s.panel := by unfold State.recount; (repeat' split) <;> simp
@[simp] theorem State.recount_pending (s : State) (selector : Nat) : (s.recount selector).pending = s.pending := by unfold State.recount; (repeat' split) <;> simp
@[simp] theorem State.recount_choices (s : State) (selector : Nat) : (s.recount selector).choices = s.choices := by unfold State.recount; (repeat' split) <;> simp

/-! `State.settingActs` -/

@[simp] theorem State.settingActs_pins (s : State) (selector : Nat) (before : Nat) (after : Nat) : (s.settingActs selector before after).pins = s.pins := by unfold State.settingActs; (repeat' split) <;> simp
@[simp] theorem State.settingActs_subMicro (s : State) (selector : Nat) (before : Nat) (after : Nat) : (s.settingActs selector before after).subMicro = s.subMicro := by unfold State.settingActs; (repeat' split) <;> simp
@[simp] theorem State.settingActs_tb (s : State) (selector : Nat) (before : Nat) (after : Nat) : (s.settingActs selector before after).tb = s.tb := by unfold State.settingActs; (repeat' split) <;> simp
@[simp] theorem State.settingActs_gt (s : State) (selector : Nat) (before : Nat) (after : Nat) : (s.settingActs selector before after).gt = s.gt := by unfold State.settingActs; (repeat' split) <;> simp
@[simp] theorem State.settingActs_cq (s : State) (selector : Nat) (before : Nat) (after : Nat) : (s.settingActs selector before after).cq = s.cq := by unfold State.settingActs; (repeat' split) <;> simp
@[simp] theorem State.settingActs_fi (s : State) (selector : Nat) (before : Nat) (after : Nat) : (s.settingActs selector before after).fi = s.fi := by unfold State.settingActs; (repeat' split) <;> simp
@[simp] theorem State.settingActs_hj (s : State) (selector : Nat) (before : Nat) (after : Nat) : (s.settingActs selector before after).hj = s.hj := by unfold State.settingActs; (repeat' split) <;> simp
@[simp] theorem State.settingActs_sv (s : State) (selector : Nat) (before : Nat) (after : Nat) : (s.settingActs selector before after).sv = s.sv := by unfold State.settingActs; (repeat' split) <;> simp
@[simp] theorem State.settingActs_job (s : State) (selector : Nat) (before : Nat) (after : Nat) : (s.settingActs selector before after).job = s.job := by unfold State.settingActs; (repeat' split) <;> simp
@[simp] theorem State.settingActs_blade (s : State) (selector : Nat) (before : Nat) (after : Nat) : (s.settingActs selector before after).blade = s.blade := by unfold State.settingActs; (repeat' split) <;> simp
@[simp] theorem State.settingActs_panel (s : State) (selector : Nat) (before : Nat) (after : Nat) : (s.settingActs selector before after).panel = s.panel := by unfold State.settingActs; (repeat' split) <;> simp
@[simp] theorem State.settingActs_pending (s : State) (selector : Nat) (before : Nat) (after : Nat) : (s.settingActs selector before after).pending = s.pending := by unfold State.settingActs; (repeat' split) <;> simp
@[simp] theorem State.settingActs_choices (s : State) (selector : Nat) (before : Nat) (after : Nat) : (s.settingActs selector before after).choices = s.choices := by unfold State.settingActs; (repeat' split) <;> simp

/-! `State.findBreak` -/

@[simp] theorem State.findBreak_pins (s : State) (p : Port) : (s.findBreak p).pins = s.pins := by simp only [State.findBreak]; (repeat' split) <;> simp
@[simp] theorem State.findBreak_subMicro (s : State) (p : Port) : (s.findBreak p).subMicro = s.subMicro := by simp only [State.findBreak]; (repeat' split) <;> simp
@[simp] theorem State.findBreak_tb (s : State) (p : Port) : (s.findBreak p).tb = s.tb := by simp only [State.findBreak]; (repeat' split) <;> simp
@[simp] theorem State.findBreak_gt (s : State) (p : Port) : (s.findBreak p).gt = s.gt := by simp only [State.findBreak]; (repeat' split) <;> simp
@[simp] theorem State.findBreak_cq (s : State) (p : Port) : (s.findBreak p).cq = s.cq := by simp only [State.findBreak]; (repeat' split) <;> simp
@[simp] theorem State.findBreak_fi (s : State) (p : Port) : (s.findBreak p).fi = s.fi := by simp only [State.findBreak]; (repeat' split) <;> simp
@[simp] theorem State.findBreak_sd (s : State) (p : Port) : (s.findBreak p).sd = s.sd := by simp only [State.findBreak]; (repeat' split) <;> simp
@[simp] theorem State.findBreak_ap (s : State) (p : Port) : (s.findBreak p).ap = s.ap := by simp only [State.findBreak]; (repeat' split) <;> simp
@[simp] theorem State.findBreak_sv (s : State) (p : Port) : (s.findBreak p).sv = s.sv := by simp only [State.findBreak]; (repeat' split) <;> simp
@[simp] theorem State.findBreak_pending (s : State) (p : Port) : (s.findBreak p).pending = s.pending := by simp only [State.findBreak]; (repeat' split) <;> simp
@[simp] theorem State.findBreak_choices (s : State) (p : Port) : (s.findBreak p).choices = s.choices := by simp only [State.findBreak]; (repeat' split) <;> simp

/-! `State.replyWrite` -/

@[simp] theorem State.replyWrite_pins (s : State) (p : Port) : (s.replyWrite p).pins = s.pins := by unfold State.replyWrite; (repeat' split) <;> simp
@[simp] theorem State.replyWrite_subMicro (s : State) (p : Port) : (s.replyWrite p).subMicro = s.subMicro := by unfold State.replyWrite; (repeat' split) <;> simp
@[simp] theorem State.replyWrite_tb (s : State) (p : Port) : (s.replyWrite p).tb = s.tb := by unfold State.replyWrite; (repeat' split) <;> simp
@[simp] theorem State.replyWrite_gt (s : State) (p : Port) : (s.replyWrite p).gt = s.gt := by unfold State.replyWrite; (repeat' split) <;> simp
@[simp] theorem State.replyWrite_cq (s : State) (p : Port) : (s.replyWrite p).cq = s.cq := by unfold State.replyWrite; (repeat' split) <;> simp
@[simp] theorem State.replyWrite_fi (s : State) (p : Port) : (s.replyWrite p).fi = s.fi := by unfold State.replyWrite; (repeat' split) <;> simp
@[simp] theorem State.replyWrite_sd (s : State) (p : Port) : (s.replyWrite p).sd = s.sd := by unfold State.replyWrite; (repeat' split) <;> simp
@[simp] theorem State.replyWrite_hj (s : State) (p : Port) : (s.replyWrite p).hj = s.hj := by unfold State.replyWrite; (repeat' split) <;> simp
@[simp] theorem State.replyWrite_ap (s : State) (p : Port) : (s.replyWrite p).ap = s.ap := by unfold State.replyWrite; (repeat' split) <;> simp
@[simp] theorem State.replyWrite_sv (s : State) (p : Port) : (s.replyWrite p).sv = s.sv := by unfold State.replyWrite; (repeat' split) <;> simp
@[simp] theorem State.replyWrite_pending (s : State) (p : Port) : (s.replyWrite p).pending = s.pending := by unfold State.replyWrite; (repeat' split) <;> simp
@[simp] theorem State.replyWrite_choices (s : State) (p : Port) : (s.replyWrite p).choices = s.choices := by unfold State.replyWrite; (repeat' split) <;> simp

/-! `State.noticeBuild` -/

@[simp] theorem State.noticeBuild_pins (s : State) (p : Port) : (s.noticeBuild p).pins = s.pins := by unfold State.noticeBuild; (repeat' split) <;> simp
@[simp] theorem State.noticeBuild_subMicro (s : State) (p : Port) : (s.noticeBuild p).subMicro = s.subMicro := by unfold State.noticeBuild; (repeat' split) <;> simp
@[simp] theorem State.noticeBuild_tb (s : State) (p : Port) : (s.noticeBuild p).tb = s.tb := by unfold State.noticeBuild; (repeat' split) <;> simp
@[simp] theorem State.noticeBuild_gt (s : State) (p : Port) : (s.noticeBuild p).gt = s.gt := by unfold State.noticeBuild; (repeat' split) <;> simp
@[simp] theorem State.noticeBuild_cq (s : State) (p : Port) : (s.noticeBuild p).cq = s.cq := by unfold State.noticeBuild; (repeat' split) <;> simp
@[simp] theorem State.noticeBuild_fi (s : State) (p : Port) : (s.noticeBuild p).fi = s.fi := by unfold State.noticeBuild; (repeat' split) <;> simp
@[simp] theorem State.noticeBuild_sd (s : State) (p : Port) : (s.noticeBuild p).sd = s.sd := by unfold State.noticeBuild; (repeat' split) <;> simp
@[simp] theorem State.noticeBuild_hj (s : State) (p : Port) : (s.noticeBuild p).hj = s.hj := by unfold State.noticeBuild; (repeat' split) <;> simp
@[simp] theorem State.noticeBuild_ap (s : State) (p : Port) : (s.noticeBuild p).ap = s.ap := by unfold State.noticeBuild; (repeat' split) <;> simp
@[simp] theorem State.noticeBuild_sv (s : State) (p : Port) : (s.noticeBuild p).sv = s.sv := by unfold State.noticeBuild; (repeat' split) <;> simp
@[simp] theorem State.noticeBuild_pending (s : State) (p : Port) : (s.noticeBuild p).pending = s.pending := by unfold State.noticeBuild; (repeat' split) <;> simp
@[simp] theorem State.noticeBuild_choices (s : State) (p : Port) : (s.noticeBuild p).choices = s.choices := by unfold State.noticeBuild; (repeat' split) <;> simp

/-! Orders that can both occur -/

/-- The index and the overdue test of one microsecond, in the orders they can have. -/
theorem State.strokeSample_cases (s : State) (edge : Bool) :
    s.strokeSample edge = (s.indexSample edge).overdueTest ∨
      s.strokeSample edge = (s.chosen.indexSample edge).overdueTest ∨
      s.strokeSample edge = (s.chosen.overdueTest.indexSample edge).overdueTest := by
  unfold State.strokeSample
  (repeat' split) <;> simp

/-- The stop limit that comes with a tick is taken now, or not yet. -/
theorem State.limitFirst_cases (s : State) :
    s.limitFirst = s ∨ s.limitFirst = s.chosen ∨ s.limitFirst = s.chosen.stopLimit := by
  unfold State.limitFirst
  (repeat' split) <;> simp

/-- The STALL that comes with a tick is taken now, or not yet. -/
theorem State.stallFirst_cases (s : State) :
    s.stallFirst = s ∨ s.stallFirst = s.chosen ∨ s.stallFirst = s.chosen.stallTimeout := by
  unfold State.stallFirst
  (repeat' split) <;> simp

/-- A STALL that meets an INDEX at one sample only becomes due. -/
theorem State.stallMeets_cases (s before : State) :
    s.stallMeets before = s ∨
      s.stallMeets before = { s with sd := { s.sd with stallTimer := 0, stallDue := true } } := by
  unfold State.stallMeets
  split <;> simp

/-- An edge of CLKIN changes the missed-period count alone, and only in WATCHING (R161). -/
theorem State.clockEdge_eq (s : State) :
    s.clockEdge = { s with sv := { s.sv with
      missed := if s.sv.monitor = .watching then 0 else s.sv.missed } } := by
  unfold State.clockEdge
  split <;> simp_all

end Sys2Proof.Machine
end

