-- ==== Sys2Proof/Laws/Queue.lean ====
section
/-! SUPPORT. What CQ does with an accepted entry: the queue, the tail and the demand (R2, R13, R59), and
when the first two receipt checks pass (R8, R9). -/

namespace Sys2Proof.Machine

theorem State.acceptEntry_cq (s : State) (e : Entry) :
    (s.acceptEntry e).cq = { s.cq with
      entries := s.cq.entries ++ [e]
      seq := s.cq.seq + 1
      tail := e.stop
      tailHeading := e.exitHeading.getD s.cq.tailHeading
      tailKind := some e.kind
      inContour := match e.kind with
        | .opening => true
        | .traverse => s.cq.inContour
        | _ => s.cq.inContour && !e.endMark
      openTag := match e.kind with
        | .opening => e.tag
        | .traverse => s.cq.openTag
        | _ => if e.endMark then none else s.cq.openTag } := by
  unfold State.acceptEntry
  dsimp only
  split <;> simp <;> constructor <;> cases e.kind <;> rfl

theorem onlyNotices.acceptEntry (s : State) (e : Entry) : onlyNotices s (s.acceptEntry e) := by
  unfold State.acceptEntry
  dsimp only
  split
  · exact onlyNotices.recomputeDemand (s := { s with cq := _ }) (onlyNotices.refl s)
  · exact onlyNotices.refl s

/-- FI keeps all but the demand. -/
theorem State.acceptEntry_fi (s : State) (e : Entry) :
    (s.acceptEntry e).fi = { s.fi with demand := (s.acceptEntry e).fi.demand } := by
  unfold State.acceptEntry
  dsimp only
  split
  · simp [State.recomputeDemand_fi]
  · rfl

/-- Behind other entries an entry changes nothing of FI. -/
theorem State.acceptEntry_fi_behind (s : State) (e : Entry) (h : s.cq.entries ≠ []) :
    (s.acceptEntry e).fi = s.fi := by
  unfold State.acceptEntry
  dsimp only
  split
  · simp_all
  · rfl

theorem State.receiptGate_pass (s : State) (cut : Bool) (hf : s.fi.st.isFault = false)
    (hj : s.fi.st ≠ .jog) (hn : s.cq.entries.length < 48) (hc : s.cq.inContour = cut) :
    s.receiptGate cut = none := by
  simp [State.receiptGate, hf, hj, Config.queueCapacity, hc]
  omega

end Sys2Proof.Machine
end

