-- ==== Sys2Proof/Tests/Slice0.lean ====
section
/-! SUPPORT. Tests: the well-formedness checks, one step of a command against the figures of the spec's
worked sequences, and for each statement with hypotheses a state that meets them. Expected values are
the spec's own. -/

open Sys2Proof Sys2Proof.Machine

namespace Sys2Proof.Tests

/-! ### Small states -/

/-- The next state of a command. -/
def after (c : Instr) (s : State) : State :=
  match exec c s with
  | .next t => t
  | _ => s

/-- Grade 3 of the worked case (3.7). -/
def grade3 : Grade :=
  { bite := 1500, turn := 150, smooth := 50, pivot := 1500, crawl := 5000, minSpm := 3000,
    settle := 2 }

/-- OPEN tag 21, LINE 1, ARC 2 and LINE 3 of the worked sequence (1.11). -/
def open21 : Entry :=
  { seq := 0, start := ⟨100000, 50000⟩, stop := ⟨100000, 50000⟩, length := 0,
    body := .opening 3 200000 21 }

def line1 : Entry :=
  { seq := 1, start := ⟨100000, 50000⟩, stop := ⟨400000, 450000⟩, length := 500000,
    body := .line 21 5313 none false }

def arc2 : Entry :=
  { seq := 2, start := ⟨400000, 450000⟩, stop := ⟨392000, 506000⟩, length := 62831,
    body := .arc 21 5313 14313 (some 0) false
      { cx := 368000, cy := 474000, radius := 40000, ccw := true, sweep := 9000 } }

def line3 : Entry :=
  { seq := 3, start := ⟨392000, 506000⟩, stop := ⟨392000, 50000⟩, length := 456000,
    body := .line 21 27000 (some 12687) true }

/-- A TRAVERSE to the origin. -/
def traverse : Entry :=
  { seq := 0, start := ⟨100000, 50000⟩, stop := ⟨0, 0⟩, length := 111803,
    body := .traverse 20657 }

/-- FI in a state at the start of the worked sequence, with the permit that R158 gives it: grade 3
written, a 2,000,000, levels 3 and 1, override 90, the blade RUNNING at a period of 8,000 µs. -/
def inState (st : FiState) : State := { State.reset with
  gt := { State.reset.gt with
    grades := State.reset.gt.grades.set 3 (some grade3)
    settings := { State.reset.gt.settings with accel := 2000000 } }
  cq := { State.reset.cq with prime := 3, refill := 1, tail := ⟨100000, 50000⟩ }
  fi := { State.reset.fi with st := st, x := 100000, y := 50000 }
  sd := { State.reset.sd with running := true, period := some 8000, startPresent := true,
                              indexAge := 8000, edgeAge := 0 }
  hj := { State.reset.hj with override := 90 }
  sv := { State.reset.sv with permit := st != .offline && st != .stopped } }

/-- IDLE with an empty queue. -/
def idle : State := inState .idle

/-- A state with entries queued. -/
def withQueue (s : State) (es : List Entry) : State :=
  { s with cq := { s.cq with entries := es } }

/-- The contour record of contour 21 (R64). -/
def contour21 : Contour := { index := 3, grade := grade3, fTarget := 200000, offset := 0, tag := 21 }

/-- A state of contour 21 with an active entry. -/
def inContour (st : FiState) (active : Option Entry) (es : List Entry) : State :=
  let s := withQueue (inState st) es
  { s with fi := { s.fi with contour := some contour21, active := active, runEnable := true,
                             demand := 7200, heading := 5313, h := 5313 }
           cq := { s.cq with seq := 4, tail := ⟨392000, 50000⟩, tailHeading := 27000,
                             tailKind := some .line } }

/-- The cut of 4.15: 300,000 µm into LINE 1 at v 180,000, the budget just refreshed. -/
def cutting : State :=
  let s := inContour .cutNormal (some line1) [arc2, line3]
  { s with fi := { s.fi with x := 280000, y := 290000, v := 180000, done := 300000, budget := 1500 } }

/-- The tail left in a contour behind LINE 1 (1.11, event 3). -/
def behindLine1 : State :=
  let s := withQueue idle [open21, line1]
  { s with cq := { s.cq with seq := 2, tail := ⟨400000, 450000⟩, tailHeading := 5313,
                             tailKind := some .line, inContour := true, openTag := some 21 } }

/-- A jog on X toward POSITIVE with window 100 (6.6). -/
def jogX : JogMove := { axis := .x, positive := true, speed := 20000, window := 100, timer := 60 }

/-- FI in JOG with a phase. -/
def jogging (p : JogPhase) : State :=
  let s := inState .jog
  { s with hj := { s.hj with phase := p } }

/-- A state whose clock stands still, with the monitor in a given state. -/
def dark (m : Monitor) (st : FiState) : State :=
  let s := inState st
  { s with pins := { s.pins with clkin := false }, sv := { s.sv with monitor := m } }

/-- A fault record with a cause. -/
def record (c : Cause) : FaultRecord :=
  { cause := c, state := .cutNormal, tag := some 21, seq := some 1, x := 280000, y := 290000,
    h := 5313, ms := 60 }

/-- FAULT STOPPED with a recorded cause. -/
def stopped (c : Cause) : State :=
  let s := inState .stopped
  { s with sv := { s.sv with record := some (record c) } }

/-- The quick stop of 8.2 on LINE 1. -/
def stopping : State :=
  { cutting with fi := { cutting.fi with st := .stopping .cutNormal }
                 sv := { cutting.sv with record := some (record .index) } }

/-- A state with the job port replaced. -/
def withJob (f : PortState → PortState) (s : State) : State := { s with job := f s.job }

/-- The result and the fixed reply data of the job port's request. -/
def answer (s : State) : Option (Result × ReplyFlags × ReplyData) :=
  s.job.request.map fun r => (r.result, r.flags, r.data)

/-- CLAMPED alone. -/
def clamped : ReplyFlags := { clamped := true, inUse := false, notHeld := false }

/-! ### Well-formed commands -/

theorem test_wf_payload_20 : (Instr.hold .job (List.replicate 20 0)).wf = true := by decide

theorem test_wf_payload_21 : (Instr.hold .job (List.replicate 21 0)).wf = false := by decide

theorem test_wf_discard_needs_a_wrong_sum :
    (Instr.checkDiscard .job [0x19, 0, 0xE7]).wf = false ∧
      (Instr.checkDiscard .job [0x19, 0, 0xE8]).wf = true := by decide

theorem test_wf_discard_needs_a_delimited_telegram :
    (Instr.checkDiscard .job [0x19, 1, 0xE8]).wf = false ∧
      (Instr.checkDiscard .job [0x19]).wf = false := by decide

theorem test_wf_unknown_kind_is_unknown :
    (Instr.unknownKindTelegram .job 0x19 []).wf = false ∧
      (Instr.unknownKindTelegram .job 0x26 []).wf = true := by decide

theorem test_wf_crank_edge_has_an_edge :
    (Instr.crankEdge false false).wf = false ∧ (Instr.crankEdge true false).wf = true := by decide

/-! ### Path arithmetic (3.7) -/

theorem test_line1 : lineHeading ⟨100000, 50000⟩ ⟨400000, 450000⟩ = 5313 ∧
    lineLength ⟨100000, 50000⟩ ⟨400000, 450000⟩ = 500000 := by decide

theorem test_heading_hair_below_x : vectorHeading 4000000 (-1) = 0 := by decide

theorem test_arc2_bite : biteOf grade3 arc2 = 1047 := by decide

theorem test_arc2_ceiling : strokeCeiling 1047 (some 8000) = 130875 := by decide

theorem test_arc2_heading_half_way :
    headingAt arc2 31415 0 = 9813 := by decide

theorem test_demand : strokeDemand grade3 (withOverride 200000 90) = 7200 := by decide

theorem test_look_ahead : constraintSpeed 2000000 5000 8094 = 180002 ∧
    constraintSpeed 2000000 5000 8093 = 179991 ∧ constraintSpeed 2000000 0 8100 = 180000 := by decide

theorem test_junctions : junctionAngle 14313 27000 = 12687 ∧ junctionAngle 100 35900 = -200 := by
  decide

/-- The eighth period of 3.7's stroke on the arc. -/
theorem test_accumulator : accumulate 130875 125 = { v := 130875, rem := 0, whole := 131 } := by
  decide

/-! ### Requests -/

theorem test_online : (after (.online .job []) State.reset).fi.st = .idle ∧
    (after (.online .job []) State.reset).mpermit = true := by decide

/-- The first write of grade 3 (2.5): s_g is lowered, then p_g raised to it. -/
theorem test_set_grade :
    (after (.setGrade .job (natBytes 1 3 ++ natBytes 2 1500 ++ natBytes 2 150 ++ natBytes 2 250
        ++ natBytes 2 100 ++ natBytes 2 5000 ++ natBytes 2 3000 ++ natBytes 1 2))
      State.reset).gt.grades[3]? = some (some { grade3 with smooth := 200, pivot := 200 }) := by
  decide

/-- Step X = 1 lowers F_max to the linear ceiling (2.5). -/
theorem test_set_machine_step :
    let t := after (.setMachine .job (natBytes 1 6 ++ natBytes 4 1)) idle
    t.gt.settings.fMax = 500000 ∧ t.gt.settings.traverseFeed = 300000 ∧
      answer t = some (.accepted, clamped, .fixed (natBytes 1 6 ++ natBytes 4 1)) := by decide

/-- A Y_LIMIT of 500 is clamped to 1,000 and then refused (2.5). -/
theorem test_set_machine_limit :
    answer (after (.setMachine .job (natBytes 1 1 ++ natBytes 4 500)) idle) =
      some (.outsideWorkspace, noFlags, .fixed []) := by decide

theorem test_set_origin :
    let t := after (.setOrigin .job (natBytes 3 100001 ++ natBytes 3 50000)) idle
    t.cq.tail = ⟨100001, 50000⟩ ∧ t.ap.x.target = 50000 ∧ t.ap.x.output = 50000 := by decide

/-- Event 1 of 1.11; the demand follows the OPEN at the head (3.7). -/
theorem test_queue_open :
    let t := after (.queueOpen .job (natBytes 3 100000 ++ natBytes 3 50000 ++ natBytes 1 3
      ++ natBytes 3 200000 ++ natBytes 2 21)) idle
    t.cq.entries = [open21] ∧ t.cq.inContour = true ∧ t.fi.demand = 7200 := by decide

/-- Event 2 of 1.11. -/
theorem test_queue_line :
    let s := withQueue idle [open21]
    let t := after (.queueLine .job (natBytes 3 400000 ++ natBytes 3 450000 ++ [0]))
      { s with cq := { s.cq with seq := 1, tailKind := some .opening, inContour := true,
                                 openTag := some 21 } }
    t.cq.entries = [open21, line1] ∧ t.cq.tailHeading = 5313 := by decide

/-- Event 3 of 1.11. -/
theorem test_queue_arc :
    (after (.queueArc .job (natBytes 3 392000 ++ natBytes 3 506000 ++ natBytes 3 368000
        ++ natBytes 3 474000 ++ [1])) behindLine1).cq.entries = [open21, line1, arc2] := by decide

/-- Event 4 of 1.11: the reply carries the level, 2 here. -/
theorem test_queue_traverse_in_contour :
    answer (after (.queueTraverse .job (natBytes 3 0 ++ natBytes 3 0)) behindLine1) =
      some (.contourOpen, noFlags, .fixed [2]) := by decide

theorem test_queue_open_elsewhere :
    answer (after (.queueOpen .job (natBytes 3 100001 ++ natBytes 3 50000 ++ natBytes 1 3
      ++ natBytes 3 200000 ++ natBytes 2 21)) idle) = some (.startMismatch, noFlags, .fixed [0]) := by
  decide

/-- The hold of 4.15. -/
theorem test_hold : (after (.hold .panel []) cutting).fi.st = .holding .cutNormal ∧
    (after (.hold .panel []) cutting).fi.v = 180000 := by decide

/-- The override of 3.7's demand table. -/
theorem test_override : (after (.setOverride .panel (natBytes 2 20)) cutting).fi.demand = 3000 := by
  decide

/-- JOG_START from HELD (6.5): the held work is abandoned at the commanded position. -/
theorem test_jog_start :
    let s := inContour (.held .cutNormal) (some line1) [arc2, line3]
    let t := after (.jogStart .panel [0, 0, 0x20, 0x4E, 0]) { s with
      fi := { s.fi with x := 284806, y := 296408 }, hj := { s.hj with holds :=
        { s.hj.holds with panel := true } } }
    t.fi.st = .jog ∧ t.cq.tail = ⟨284806, 296408⟩ ∧ t.cq.abandoned = some 21 ∧
      t.hj.holds.panel = true := by decide

/-- A keep-alive at 10 ms ends the jog with EARLY (6.6). -/
theorem test_jog_keep_early :
    (after (.jogKeep .panel []) (jogging (.running { jogX with timer := 10 }))).hj.endCause =
      some .early := by decide

theorem test_blade_offset : (after (.setBladeOffset .blade (natBytes 2 36001)) idle).gt.offset = 1 := by
  decide

theorem test_not_permitted : (after (.online .panel []) State.reset).panel.request.map
    Request.result = some .notPermitted := by decide

/-- A request of the worked sequence 10.7 is stored as the telegram 0x19, 0, 0xE7. -/
theorem test_telegram : telegram 0x19 [] = [0x19, 0, 0xE7] := by decide

/-! ### The block's own steps -/

/-- The entry slew of 4.14: 5,310, then 5,313 and the take of LINE 1. -/
theorem test_entry_slew :
    let s := inContour .pivotEntry (some open21) [line1, arc2, line3]
    let t := after .feedPeriodExpiry { s with fi := { s.fi with h := 5310, budget := 1500 } }
    t.fi.st = .cutNormal ∧ t.fi.h = 5313 ∧ t.fi.budget = 1500 ∧ t.cq.entries.length = 2 := by decide

/-- One period on the line (7.9). -/
theorem test_expiry_line :
    let t := after .feedPeriodExpiry { cutting with ap := { cutting.ap with
      x := { cutting.ap.x with target := 140000, output := 140000 }
      y := { cutting.ap.y with target := 145000, output := 145000 } } }
    t.fi.x = 280108 ∧ t.fi.y = 290144 ∧ t.ap.x.laid = 54 ∧ t.ap.y.laid = 72 := by decide

/-- The twelfth expiry of the quick stop (8.2). -/
theorem test_expiry_budget :
    let t := after .feedPeriodExpiry { stopping with fi := { stopping.fi with v := 92000, budget := 48 } }
    t.fi.v = 48000 ∧ t.fi.budget = 0 := by decide

/-- The 85th index event of the pivot (4.14). -/
theorem test_pivot_corner :
    let s := inContour .pivotCorner (some line3) []
    let t := after .crankIndex { s with fi := { s.fi with h := 26913 } }
    t.fi.st = .pivotSettle ∧ t.fi.h = 27000 := by decide

/-- A slip (5.10): the count is realigned and no stroke counted. -/
theorem test_slip :
    let t := after .crankIndex { cutting with sd := { cutting.sd with crank := 100 } }
    t.sd.crank = 0 ∧ t.sd.slipTally = 1 ∧ t.fi.strokes = 0 ∧ t.fi.budget = 1500 := by decide

/-- CA rising while CB is low is forward with A_LEADS (R104). -/
theorem test_crank_forward : (after (.crankEdge true false) cutting).sd.crank = 1 ∧
    (after (.crankEdge false true) cutting).sd.crank = 255 := by decide

/-- RUN's dispatch and the take of the OPEN (4.14). -/
theorem test_open_take :
    let s := withQueue (inState .priming) [open21, line1, arc2]
    let t := after .openTake { s with fi := { s.fi with runEnable := true } }
    t.fi.st = .pivotEntry ∧ t.cq.entries.length = 2 ∧ t.fi.contour = some contour21 := by decide

/-- The last slots of 7.9: X's 54th step rises at 981 µs, Y's 72nd at 987 µs. -/
theorem test_slots : slotOffset 54 53 = 981 ∧ slotOffset 72 71 = 987 ∧ slotOffset 54 0 = 1 := by decide

/-- H owes −800 and lays 500 of them (7.9). -/
theorem test_backlog :
    let a := ({ AxisOut.reset with output := 1000, target := 1000, dir := true }).handOff 200 true
    a.laid = 500 ∧ a.dir = false ∧ a.backlog = 1 := by decide

/-- The clock returns (8.5): the 71 steps not emitted on X are in its drop count. -/
theorem test_clock_return :
    let t := after .clockReturn { cutting with
      pins := { cutting.pins with clkin := false }
      sv := { cutting.sv with monitor := .lost, armed := true }
      ap := { cutting.ap with x := { cutting.ap.x with target := 140131, output := 140060,
                                                       laid := 131, emitted := 60 } } }
    t.fi.st = .stopped ∧ t.ap.x.drop = 71 ∧ t.ap.x.output = 140131 ∧
      t.sv.record.map FaultRecord.cause = some .clockLoss := by decide

/-- The unfinished T13 of 9.9 is abandoned at the gap. -/
theorem test_gap_expiry :
    let s := withJob (fun q => { q with asm := { q.asm with assembling := true, chars := [0x19, 0] } })
      idle
    (after (.gapExpiry .job) s).job.tallies.gap = 1 ∧
      (after (.gapExpiry .job) s).job.asm.assembling = false := by decide

/-! ### States that meet the hypotheses of the statements, clause by clause -/

theorem witness_StepTakesFront :
    ({ idle with pending := [.dispatch] } : State).pending = .dispatch :: [] := rfl

/-- A moment of the idle step: the sixteenth CLKIN cycle of the last microsecond of a millisecond, with
nothing due. -/
def ticking : State := { cutting with subMicro := 15, tb := { cutting.tb with phase := 999 } }

theorem witness_StepsComplete :
    ((dark .disarmed .idle).pending = [] ∧ (dark .disarmed .idle).pins.clkin = false ∧
      (dark .disarmed .idle).sv.monitor ≠ .watching) ∧
    (∀ n ∈ [2, 3], let s := dark .watching .idle
      let t : State := { s with sv := { s.sv with missed := n } };
      t.pending = [] ∧ t.pins.clkin = false ∧ t.sv.monitor = .watching ∧ t.sv.missed = n) ∧
    (let s : State := { idle with sv := { idle.sv with monitor := .lost } };
      s.pending = [] ∧ s.pins.clkin = true ∧ s.sv.monitor = .lost) ∧
    (let s : State := { idle with sd := { idle.sd with stallDue := true } };
      s.pending = [] ∧ s.pins.clkin = true ∧ s.sv.monitor ≠ .lost ∧ s.dueSteps = [.stall]) ∧
    (ticking.pending = [] ∧ ticking.pins.clkin = true ∧ ticking.sv.monitor ≠ .lost ∧
      ticking.dueSteps = [] ∧ cutting.dueSteps = [] ∧ cutting.subMicro < 15 ∧ 15 ≤ ticking.subMicro) := by
  decide

/-- The microsecond at which the phase wraps (R98): the counts, the index age and a filter run. -/
theorem test_idle_tick :
    let s : State := { ticking with
      pins := { ticking.pins with holdn := false }
      sd := { ticking.sd with holdn := { raw := true, filtered := true, run := 2 }, indexAge := 500 } }
    let t := s.microsecond
    t.tb.us = s.tb.us + 1 ∧ t.tb.phase = 0 ∧ t.tb.ms = s.tb.ms + 1 ∧ t.sd.indexAge = 501 ∧
      t.sd.holdn = { raw := false, filtered := true, run := 3 } := by
  intro s t
  rcases h : s.passMicro.coin with _ | _ <;> simp only [t, State.microsecond, h] <;> decide

/-- R161: a stop of two periods leaves a count of 2; the next edge ends it, so a later stop is found only
after four more periods. In LOST the count stays at 4. -/
theorem test_edge_clears_missed :
    let s : State := { idle with
      subMicro := 0, sv := { idle.sv with armed := true, monitor := .watching, missed := 2 } }
    let still : State := { s.cycle with pins := { s.cycle.pins with clkin := false } }
    s.cycle.sv.missed = 0 ∧ still.idle.idle.idle.sv.monitor = .watching ∧
      still.idle.idle.idle.idle.sv.monitor = .lost ∧ still.idle.idle.idle.idle.sv.missed = 4 := by
  decide

theorem witness_ClockStill :
    (dark .disarmed .idle).pins.clkin = false ∧
      (∀ straps lines, Instr.dispatch ≠ .powerOn straps lines) ∧
      (∀ straps lines, Instr.dispatch ≠ .resetn straps lines) ∧
      Instr.dispatch ≠ .clockLossFound ∧ Instr.dispatch ≠ .clockReturn :=
  ⟨by decide, nofun, nofun, by decide, by decide⟩

theorem witness_Online :
    (State.reset.listens .job = true ∧ State.reset.fi.st = .offline) ∧
      (idle.listens .job = true ∧ idle.fi.st ≠ .offline) := by decide

theorem witness_RunAndPause :
    (idle.listens .job = true ∧ idle.fi.st ≠ .offline ∧ idle.fi.st.isFault = false) ∧
      (State.reset.listens .job = true ∧ State.reset.fi.st = .offline) ∧
      (stopping.listens .job = true ∧ stopping.fi.st.isFault = true ∧ stopping.fi.st ≠ .priming) ∧
      (cutting.listens .job = true ∧ cutting.fi.contour.isSome = true ∧
        cutting.fi.st.isFault = false) ∧
      (idle.fi.contour = none ∧ idle.fi.st ≠ .priming) ∧
      ((inState .priming).listens .job = true ∧ (inState .priming).fi.contour = none ∧
        (inState .priming).fi.st = .priming) := by decide

theorem witness_FlushRequest :
    (idle.listens .job = true ∧ idle.fi.st = .idle ∧ idle.fi.contour = none) ∧
      ((inState .priming).listens .job = true ∧ (inState .priming).fi.st = .priming) ∧
      (let s := inContour .starved none [];
        s.listens .job = true ∧ s.fi.st = .starved ∧ s.fi.contour.isSome = true) ∧
      (let s := inContour (.held .pivotEntry) (some open21) [line1];
        s.listens .job = true ∧ ∃ r, s.fi.st = .held r) ∧
      (cutting.listens .job = true ∧ cutting.fi.st ≠ .idle ∧ cutting.fi.st ≠ .priming ∧
        cutting.fi.st ≠ .starved ∧ ∀ r, cutting.fi.st ≠ .held r) :=
  ⟨by decide, by decide, by decide, ⟨by decide, _, rfl⟩, by decide, by decide, by decide, by decide,
    nofun⟩

theorem witness_ResetCut :
    (cutting.listens .job = true ∧ cutting.fi.st ≠ .offline ∧ cutting.fi.st.isFault = false ∧
        cutting.fi.contour.isSome = true) ∧
      (idle.listens .job = true ∧ idle.fi.st ≠ .offline ∧ idle.fi.st.isFault = false ∧
        idle.fi.contour = none) ∧
      (State.reset.listens .job = true ∧ State.reset.fi.st = .offline) ∧
      (stopping.listens .job = true ∧ stopping.fi.st.isFault = true) := by decide

/-- STALL with an edge age of 199 and of 200: the stall timeout is 200. -/
def stalled (age : Nat) : State :=
  let s := stopped .stall
  { s with sd := { s.sd with edgeAge := age } }

theorem witness_ClearFault :
    ((stopped .index).listens .job = true ∧ (stopped .index).fi.st = .stopped ∧
        (stopped .index).sv.record = some (record .index) ∧ (record .index).cause ≠ .stall) ∧
      ((stalled 199).listens .job = true ∧ (stalled 199).fi.st = .stopped ∧
        (stalled 199).sv.record = some (record .stall) ∧
        (stalled 199).sd.edgeAge < (stalled 199).gt.settings.stallTimeout) ∧
      ((stalled 200).listens .job = true ∧ (stalled 200).fi.st = .stopped ∧
        (stalled 200).sv.record = some (record .stall) ∧ (record .stall).cause = .stall ∧
        (stalled 200).sd.running = true ∧
        (stalled 200).gt.settings.stallTimeout ≤ (stalled 200).sd.edgeAge) ∧
      (let s : State := { stalled 200 with sd := { (stalled 200).sd with running := false } };
        s.listens .job = true ∧ s.fi.st = .stopped ∧ s.sv.record = some (record .stall) ∧
          s.sd.running = false) ∧
      (stopping.listens .job = true ∧ stopping.fi.st ≠ .stopped) := by decide

/-- R146: H turned by 300 after the last hand-off and before MPERMIT fell; after CLEAR_FAULT the turn is
in the counts with nothing owed, the drop count stands, and the first hand-off lays no step of H. -/
theorem test_rise_owes_nothing :
    let s : State := { stopped .index with
      fi := { (stopped .index).fi with h := 300 }
      ap := { (stopped .index).ap with h := { (stopped .index).ap.h with drop := 7 }, lastH := 0 } }
    let t := after (.clearFault .job []) s;
    t.ap.unwrapped = s.ap.unwrapped + 300 ∧ t.ap.lastH = 300 ∧ t.ap.h.owed = 0 ∧
      t.ap.h.drop = 7 ∧ t.handOff.ap.h.laid = 0 ∧ t.mpermit = true := by decide

/-- R156: a STALL of the tick taken before FI's work is taken before the tick at SV, so the stop timer
counts the first step of the stop. -/
theorem test_stall_before_stop_tick :
    let s : State := { cutting with sd := { cutting.sd with stallDue := true } }
    let t := s.stallTimeout.tickStop;
    (∃ m, t.fi.st = .stopping m) ∧ t.sv.stopTimer = 1 := ⟨⟨.cutNormal, by decide⟩, by decide⟩

theorem witness_ArmSyncLockLevels :
    (idle.listens .job = true ∧ idle.sv.armed = false) ∧
      (let s : State := { idle with sv := { idle.sv with armed := true, monitor := .watching } };
        s.listens .job = true ∧ s.sv.armed = true) ∧
      ((1 : Byte).toNat ≤ 1 ∧ 1 < (2 : Byte).toNat) := by decide

theorem witness_SetOrigin :
    (idle.listens .job = true ∧ 3200000 < 2 ^ 24 ∧ 2200000 < 2 ^ 24 ∧ idle.fi.st = .idle ∧
        idle.cq.entries = [] ∧ 3200000 ≤ idle.gt.settings.xLimit ∧
        2200000 ≤ idle.gt.settings.yLimit ∧ idle.mpermit = true) ∧
      (let s : State := { idle with sv := { idle.sv with monitor := .lost, armed := true } };
        s.listens .job = true ∧ s.fi.st = .idle ∧ s.mpermit = false) ∧
      (cutting.listens .job = true ∧ cutting.fi.st ≠ .idle) ∧
      ((withQueue idle [open21]).listens .job = true ∧ (withQueue idle [open21]).cq.entries ≠ []) ∧
      (idle.gt.settings.xLimit < 3200001 ∧ idle.gt.settings.yLimit < 2200001 ∧
        3200001 < 2 ^ 24 ∧ 2200001 < 2 ^ 24) := by decide

theorem witness_SetGrade :
    (cutting.listens .job = true ∧ cutting.fi.contour = some contour21 ∧ contour21.index = 3 ∧
        cutting.fi.contour.isSome = true) ∧
      ((withQueue idle [open21]).listens .job = true ∧
        (withQueue idle [open21]).fi.contour = none ∧
        (withQueue idle [open21]).cq.entries = open21 :: [] ∧
        open21.body = .opening 3 200000 21 ∧ 3 < (withQueue idle [open21]).gt.grades.length) ∧
      (idle.listens .job = true ∧ idle.cq.entries.head? = none ∧
        (withQueue idle [traverse]).cq.entries.head? = some traverse ∧
        traverse.kind ≠ .opening) ∧
      (15 ≤ 15 ∧ 15 < 16 ∧ 16 < 256 ∧ 65535 < 65536) := by decide

/-- The last entry of a contour is active, and the queue is empty behind its end. -/
def lastEntry : State := inContour .cutNormal (some line3) []

theorem witness_SetMachine :
    (cutting.listens .job = true ∧ cutting.fi.st ≠ .idle ∧ cutting.fi.st ≠ .offline) ∧
      ((withQueue idle [open21]).listens .job = true ∧ (withQueue idle [open21]).cq.entries ≠ []) ∧
      (State.reset.listens .job = true ∧ State.reset.fi.st = .offline ∧
        State.reset.cq.entries = []) ∧
      (idle.listens .job = true ∧ idle.fi.st = .idle ∧ idle.cq.entries = [] ∧ 13 < 14 ∧
        idle.gt.settings.clamp 0 99999 < idle.fi.x ∧ idle.gt.settings.clamp 1 500 < idle.cq.tail.y) ∧
      (idle.fi.x ≤ idle.gt.settings.clamp 0 100000 ∧ idle.cq.tail.x ≤ idle.gt.settings.clamp 0 100000 ∧
        idle.fi.y ≤ idle.gt.settings.clamp 1 50000 ∧ idle.cq.tail.y ≤ idle.gt.settings.clamp 1 50000) ∧
      (idle.gt.settings.stepX ≠ idle.gt.settings.clamp 6 1 ∧
        idle.gt.settings.stepY ≠ idle.gt.settings.clamp 7 50 ∧
        idle.gt.settings.stepH ≠ idle.gt.settings.clamp 8 10 ∧
        idle.gt.settings.get 12 = some (idle.gt.settings.clamp 12 4)) := by decide

theorem witness_SetBladeOffset :
    (idle.listens .blade = true ∧ 65535 < 65536 ∧ idle.fi.st = .idle) ∧
      (State.reset.listens .blade = true ∧ State.reset.fi.st = .offline) ∧
      (cutting.listens .blade = true ∧ cutting.fi.st ≠ .idle ∧ cutting.fi.st ≠ .offline) := by decide

/-- IDLE with `n` traverses queued. -/
def filled (n : Nat) : State := withQueue idle (List.replicate n traverse)

theorem witness_QueueTraverseOpen :
    ((filled 47).listens .job = true ∧ (filled 47).fi.st.isFault = false ∧
        (filled 47).fi.st ≠ .jog ∧ (filled 47).cq.entries.length < 48 ∧
        (filled 47).cq.inContour = false ∧ (filled 47).cq.entries ≠ []) ∧
      (3200000 ≤ (filled 47).gt.settings.xLimit ∧ 2200000 ≤ (filled 47).gt.settings.yLimit ∧
        (⟨3200000, 2200000⟩ : Point) ≠ (filled 47).cq.tail) ∧
      (idle.listens .job = true ∧ (⟨100000, 50000⟩ : Point) = idle.cq.tail ∧
        100000 ≤ idle.gt.settings.xLimit ∧ 50000 ≤ idle.gt.settings.yLimit ∧
        idle.gt.grades[3]? = some (some grade3) ∧ 3 < 256 ∧ 800001 < 2 ^ 24 ∧
        idle.cq.entries = [] ∧ idle.fi.contour = none) ∧
      (lastEntry.listens .job = true ∧ lastEntry.fi.st.isFault = false ∧ lastEntry.fi.st ≠ .jog ∧
        lastEntry.cq.inContour = false ∧ (⟨392000, 50000⟩ : Point) = lastEntry.cq.tail ∧
        lastEntry.gt.grades[3]? = some (some grade3) ∧ lastEntry.cq.entries = [] ∧
        lastEntry.fi.contour = some contour21) := by decide

/-- A contour open at the tail: the state behind LINE 1 with the three figures of an arc about a
centre. -/
theorem witness_QueueLineArc :
    (let s := behindLine1;
      s.listens .job = true ∧ s.fi.st.isFault = false ∧ s.fi.st ≠ .jog ∧ s.cq.entries.length < 48 ∧
        s.cq.inContour = true ∧ s.cq.openTag = some 21 ∧ 3200000 ≤ s.gt.settings.xLimit ∧
        2200000 ≤ s.gt.settings.yLimit ∧ (⟨3200000, 2200000⟩ : Point) ≠ s.cq.tail) ∧
      (let s := behindLine1
       let radius := arcDistance s.cq.tail 400000 451000
       let start := arcAngle s.cq.tail 400000 451000
       let sweep := sweepOf true start (arcAngle ⟨401000, 451000⟩ 400000 451000);
        s.gt.settings.holdsSweep 400000 451000 radius true start sweep ∧
        ((radius : Int) - arcDistance ⟨401000, 451000⟩ 400000 451000).natAbs ≤ 50 ∧
        1000 ≤ radius ∧ (roundDiv ((radius * sweep * 17453 : Nat) : Int) 100000000).toNat ≠ 0) := by
  unfold Settings.holdsSweep Settings.holdsPoint
  decide

/-- The leftmost centre R6 allows. -/
theorem witness_QueueLineArc_negative :
    let s := behindLine1
    let radius := arcDistance s.cq.tail (-8388608) 450000
    let start := arcAngle s.cq.tail (-8388608) 450000
    let sweep := sweepOf true start (arcAngle ⟨399994, 460000⟩ (-8388608) 450000);
    -(2 ^ 23) ≤ (-8388608 : Int) ∧
      s.gt.settings.holdsSweep (-8388608) 450000 radius true start sweep ∧
      ((radius : Int) - arcDistance ⟨399994, 460000⟩ (-8388608) 450000).natAbs ≤ 50 ∧
      1000 ≤ radius ∧ (roundDiv ((radius * sweep * 17453 : Nat) : Int) 100000000).toNat ≠ 0 := by
  unfold Settings.holdsSweep Settings.holdsPoint
  decide

theorem witness_ReceiptOrder_points :
    (idle.listens .job = true ∧ idle.fi.st.isFault = false ∧ idle.fi.st ≠ .jog ∧
        idle.cq.entries.length < 48 ∧ idle.cq.inContour = false ∧
        ¬ (3200001 ≤ idle.gt.settings.xLimit ∧ 2200000 ≤ idle.gt.settings.yLimit) ∧
        (⟨100000, 50000⟩ : Point) = idle.cq.tail ∧ (⟨100001, 50000⟩ : Point) ≠ idle.cq.tail ∧
        idle.gt.grades[4]? = some none ∧ idle.gt.grades[16]? = none) ∧
      (let s : State := { idle with cq := { idle.cq with tail := ⟨3200001, 0⟩ } };
        s.listens .job = true ∧ (⟨3200001, 0⟩ : Point) = s.cq.tail ∧
          s.gt.grades[3]? = some (some grade3) ∧ ¬ 3200001 ≤ s.gt.settings.xLimit) ∧
      (behindLine1.listens .job = true ∧ behindLine1.cq.inContour = true ∧
        ¬ 2200001 ≤ behindLine1.gt.settings.yLimit ∧
        (⟨400000, 450000⟩ : Point) = behindLine1.cq.tail) := by decide

/-- An arc from the tail of LINE 1 (its end, centre and direction) that is swept in the workspace, with
its end radius `apart` from its radius. -/
def sweptApart (p : Point) (cx cy : Int) (ccw : Bool) (radius apart : Nat) : Prop :=
  let s := behindLine1
  let start := arcAngle s.cq.tail cx cy;
  arcDistance s.cq.tail cx cy = radius ∧ p.x ≤ s.gt.settings.xLimit ∧ p.y ≤ s.gt.settings.yLimit ∧
    s.gt.settings.holdsSweep cx cy radius ccw start (sweepOf ccw start (arcAngle p cx cy)) ∧
    ((radius : Int) - arcDistance p cx cy).natAbs = apart

theorem witness_ReceiptOrder_arcs :
    (let s := behindLine1
     let start := arcAngle s.cq.tail 100000 450000;
      ¬ s.gt.settings.holdsSweep 100000 450000 (arcDistance s.cq.tail 100000 450000) true start
        (sweepOf true start (arcAngle ⟨100000, 150000⟩ 100000 450000))) ∧
      sweptApart ⟨402051, 450000⟩ 401000 450000 true 1000 51 ∧
      sweptApart ⟨401949, 450000⟩ 400999 450000 true 999 49 ∧
      sweptApart ⟨400025, 450019⟩ 399200 449400 true 1000 31 ∧
      roundDiv ((1000 * sweepOf true (arcAngle behindLine1.cq.tail 399200 449400)
        (arcAngle ⟨400025, 450019⟩ 399200 449400) * 17453 : Nat) : Int) 100000000 = 0 := by
  unfold sweptApart Settings.holdsSweep Settings.holdsPoint
  refine ⟨?_, ?_, ?_, ?_, ?_⟩ <;> decide

theorem witness_ReceiptOrder :
    (stopping.listens .job = true ∧ stopping.fi.st.isFault = true) ∧
      ((jogging .none).listens .job = true ∧ (jogging .none).fi.st = .jog) ∧
      ((filled 48).listens .job = true ∧ (filled 48).fi.st.isFault = false ∧
        (filled 48).fi.st ≠ .jog ∧ 48 ≤ (filled 48).cq.entries.length) ∧
      ((filled 47).listens .job = true ∧ (filled 47).fi.st.isFault = false ∧
        (filled 47).fi.st ≠ .jog ∧ (filled 47).cq.entries.length < 48 ∧
        (filled 47).cq.inContour = false) ∧
      (behindLine1.listens .job = true ∧ behindLine1.fi.st.isFault = false ∧
        behindLine1.fi.st ≠ .jog ∧ behindLine1.cq.entries.length < 48 ∧
        behindLine1.cq.inContour = true) := by decide

theorem witness_ReceiptOrder_commands :
    (let d : List Byte := List.replicate 7 0
     d.length = 7 ∧ (Instr.queueLine .job d, (0x12 : Byte), true, 7) ∈
      [(Instr.queueTraverse .job d, (0x10 : Byte), false, 6), (.queueOpen .job d, 0x11, false, 12),
        (.queueLine .job d, 0x12, true, 7), (.queueArc .job d, 0x13, true, 13)]) ∧
      (let d : List Byte := List.replicate 6 0
       d.length = 6 ∧ (Instr.queueTraverse .job d, (0x10 : Byte), false, 6) ∈
        [(Instr.queueTraverse .job d, (0x10 : Byte), false, 6), (.queueOpen .job d, 0x11, false, 12),
          (.queueLine .job d, 0x12, true, 7), (.queueArc .job d, 0x13, true, 13)]) := by decide

/-- A state with a hold-reason set. -/
def withHolds (h : HoldSet) (s : State) : State := { s with hj := { s.hj with holds := h } }

/-- The set with PANEL alone. -/
def panelOnly : HoldSet :=
  { job := false, blade := false, panel := true, line := false, slow := false, driveOff := false }

theorem witness_HoldRelease :
    (cutting.listens .panel = true ∧ cutting.hj.holds.has .panel = false ∧
        cutting.hj.holds.any = false) ∧
      (let s := withHolds panelOnly cutting;
        s.listens .panel = true ∧ s.hj.holds.has .panel = true ∧
          (s.hj.holds.put .panel false).any = false ∧ s.listens .job = true ∧
          s.hj.holds.has .job = false ∧ s.hj.holds.any = true) ∧
      (let s := withHolds { panelOnly with job := true }
          (inContour (.held .cutNormal) (some line1) [line3]);
        s.listens .panel = true ∧ s.hj.holds.has .panel = true ∧
          (s.hj.holds.put .panel false).any = true ∧ s.fi.st = .held .cutNormal) ∧
      ((jogging (.running jogX)).listens .job = true ∧
        (jogging (.running jogX)).hj.phase = .running jogX ∧ Port.job ≠ .panel ∧
        (jogging (.running jogX)).hj.holds.has .job = false) := by decide

theorem witness_BladeState :
    (1 < (2 : Byte).toNat ∧ (1 : Byte).toNat ≤ 1) ∧
      (cutting.listens .blade = true ∧ cutting.sd.running = decide ((1 : Byte) = 1) ∧
        cutting.sd.running ≠ decide ((0 : Byte) = 1) ∧ cutting.fi.contour.isSome = true ∧
        cutting.hj.holds.any = false ∧ cutting.fi.st = .cutNormal) ∧
      (idle.listens .blade = true ∧ idle.sd.running ≠ decide ((0 : Byte) = 1) ∧
        idle.fi.contour = none ∧ idle.hj.holds.driveOff = false) ∧
      (let s := withHolds { panelOnly with panel := false, driveOff := true }
          (inContour (.held .cutNormal) (some line1) [line3])
       let t : State := { s with sd := { s.sd with running := false } };
        t.listens .blade = true ∧ t.sd.running ≠ decide ((1 : Byte) = 1) ∧
          t.hj.holds.driveOff = true ∧ t.fi.st = .held .cutNormal) := by decide

theorem witness_SetOverride :
    (cutting.listens .panel = true ∧ 65535 < 65536 ∧ min 150 90 = cutting.hj.override) ∧
      (min 150 151 ≠ cutting.hj.override ∧ cutting.fi.st.capped = true ∧
        cutting.fi.contour = some contour21) ∧
      (idle.listens .panel = true ∧ min 150 150 ≠ idle.hj.override ∧ idle.fi.st.capped = false) := by
  decide

theorem witness_HoldnEdges :
    (cutting.pins.clkin = true ∧ cutting.sd.holdn.filtered = true ∧ cutting.hj.holds.line = false ∧
        cutting.hj.holds.any = false ∧ cutting.fi.st = .cutNormal) ∧
      ((jogging (.running jogX)).sd.holdn.filtered = true ∧
        (jogging (.running jogX)).hj.holds.line = false ∧
        (jogging (.running jogX)).hj.phase = .running jogX) ∧
      (let s := withHolds { panelOnly with panel := false, line := true } cutting;
        s.pins.clkin = true ∧ s.sd.holdn.filtered = true ∧ s.hj.holds.line = true) ∧
      (let s := withHolds { panelOnly with panel := false, line := true }
          (inContour (.held .cutNormal) (some line1) [line3])
       let t : State := { s with sd := { s.sd with holdn := Filter.first false } };
        t.pins.clkin = true ∧ t.sd.holdn.filtered = false ∧ t.hj.holds.line = true ∧
          t.fi.st = .held .cutNormal) := by decide

theorem witness_JogStart_codes :
    idle.listens .panel = true ∧ 2 < (3 : Byte).toNat ∧ ¬ 2 < (2 : Byte).toNat ∧
      1 < (2 : Byte).toNat ∧ ¬ 1 < (1 : Byte).toNat := by decide

/-- HELD on LINE 1 with no hold reason left but the panel's. -/
def heldCut : State := withHolds panelOnly (inContour (.held .cutNormal) (some line1) [arc2, line3])

/-- A state with the jog lock set. -/
def locked (s : State) : State := { s with hj := { s.hj with lock := true } }

theorem witness_JogStart :
    (idle.listens .panel = true ∧ 20000 < 2 ^ 24 ∧ idle.fi.st = .idle ∧ idle.cq.entries = [] ∧
        idle.hj.holds.job = false ∧ idle.hj.holds.blade = false ∧ idle.hj.holds.line = false) ∧
      (heldCut.listens .panel = true ∧ heldCut.fi.st = .held .cutNormal ∧ heldCut.hj.lock = false ∧
        heldCut.hj.holds.job = false ∧ heldCut.hj.holds.blade = false ∧
        heldCut.hj.holds.line = false) ∧
      ((withQueue idle [open21]).listens .panel = true ∧ (withQueue idle [open21]).fi.st = .idle ∧
        (withQueue idle [open21]).cq.entries ≠ []) ∧
      (let s := withHolds { panelOnly with job := true } heldCut;
        s.listens .panel = true ∧ s.fi.st = .held .cutNormal ∧
          ¬ (s.hj.holds.job = false ∧ s.hj.holds.blade = false ∧ s.hj.holds.line = false)) ∧
      ((locked heldCut).listens .panel = true ∧ (locked heldCut).fi.st = .held .cutNormal ∧
        (locked heldCut).hj.lock = true ∧ (locked heldCut).hj.holds.job = false ∧
        (locked heldCut).hj.holds.blade = false ∧ (locked heldCut).hj.holds.line = false) := by decide

theorem witness_JogStart_elsewhere :
    cutting.listens .panel = true ∧ cutting.fi.st ≠ .idle ∧ ∀ r, cutting.fi.st ≠ .held r :=
  ⟨by decide, by decide, nofun⟩

theorem witness_JogKeepEnd :
    (let s := jogging (.running { jogX with timer := 24 });
      s.listens .panel = true ∧ s.hj.phase = .running { jogX with timer := 24 } ∧ 24 < 100 / 4) ∧
      (let s := jogging (.running { jogX with timer := 25 });
        s.listens .panel = true ∧ s.hj.phase = .running { jogX with timer := 25 } ∧ 100 / 4 ≤ 25 ∧
          s.hj.endCause = none ∧ s.pins.clkin = true) ∧
      ((jogging .none).listens .panel = true ∧ (jogging .none).hj.phase = .none) ∧
      ((jogging (.ending jogX)).listens .panel = true ∧
        (jogging (.ending jogX)).hj.phase = .ending jogX) := by decide

/-- The missed keep-alive of 6.6: the tick at 240 brings the timer to 100 and ends the jog with
EXPIRED, behind an expiry that still moves at the jog speed. -/
theorem test_window_tick :
    let s := jogging (.running { jogX with timer := 99 })
    let t := after .feedPeriodExpiry { s with fi := { s.fi with x := 100000, v := 20000 } }
    t.fi.v = 20000 ∧ t.hj.endCause = some .expired ∧
      t.hj.phase = .ending { jogX with timer := 100 } := by decide

/-- FI at a place on X and a speed. -/
def atSpeed (s : State) (x v : Nat) : State := { s with fi := { s.fi with x := x, v := v } }

/-- A jog that runs on, that reaches the bound, that ends, an H jog, and the quick stop of a jog that
moves on and that ends: the speeds are those R131 to R133 and R93 give with a 2,000,000 and the quick
deceleration 8,000,000. -/
theorem witness_JogKeepEnd_motion :
    (let s := atSpeed (jogging (.running jogX)) 100000 18000;
      s.pins.clkin = true ∧ s.fi.st = .jog ∧ s.hj.phase = .running jogX ∧
        moveToward 18000 (min 20000 (isqrt (2 * 2000000 * (3200000 - 100000)))) 2000 = 20000) ∧
      (let s := atSpeed (jogging (.running jogX)) 3199998 2000;
        s.fi.st = .jog ∧ s.gt.settings.xLimit - s.fi.x = 2 ∧
          moveToward 2000 (min 20000 (isqrt (2 * 2000000 * 2))) 2000 / 1000 = 2) ∧
      (let s := atSpeed (jogging (.ending jogX)) 100000 2000;
        s.fi.st = .jog ∧ s.hj.phase = .ending jogX ∧ moveToward 2000 0 2000 = 0) ∧
      (let s := atSpeed (jogging (.running { jogX with axis := .h })) 100000 90;
        s.fi.st = .jog ∧ s.hj.phase = .running { jogX with axis := .h } ∧ s.fi.v = 90) ∧
      (let s := inState (.stopping .none)
       let t : State := { s with hj := { s.hj with phase := .ending jogX } };
        t.pins.clkin = true ∧ (∃ k, t.fi.st = .stopping k) ∧ t.hj.phase = .ending jogX ∧
          t.fi.st ≠ .jog ∧ moveToward 20000 0 8000 ≠ 0 ∧ moveToward 8000 0 8000 = 0) :=
  ⟨by decide, by decide, by decide, by decide, by decide, ⟨_, rfl⟩, by decide, by decide, by decide,
    by decide⟩

/-- A port that has lost a character. -/
def lossy (s : State) : State := withJob (fun q => { q with rx := { q.rx with loss := true } }) s

/-! Ports -/

/-- A handler that is BUSY with a HOLD. -/
def busyJob : State :=
  withJob (fun q => { q with request := some { kind := 0x19, result := .accepted, flags := noFlags,
                                               data := .fixed [1], written := false } }) idle

theorem witness_TelegramChecks :
    ((List.replicate 20 (0 : Byte)).length ≤ 20 ∧ idle.listens .panel = true ∧
        (Instr.online .panel [0], (0x01 : Byte), [Port.job], 0) ∈ requestRows .panel [0] ∧
        Port.panel ∉ [Port.job]) ∧
      (idle.listens .job = true ∧
        (Instr.online .job [0], (0x01 : Byte), [Port.job], 0) ∈ requestRows .job [0] ∧
        Port.job ∈ [Port.job] ∧ [(0 : Byte)].length ≠ 0) ∧
      (busyJob.pins.clkin = true ∧ busyJob.job.asm.slot = none ∧ busyJob.job.rxFifo = [] ∧
        busyJob.job.asm.assembling = false ∧ busyJob.mayTake .job = false) ∧
      ((lossy idle).job.asm.slot = none ∧ (lossy idle).job.rxFifo = [] ∧
        (lossy idle).job.asm.assembling = false ∧ (lossy idle).listens .job = false ∧
        (withJob (fun q => { q with rx := { q.rx with loss := false } }) (lossy idle)).listens .job =
          true) ∧
      (delimited [0x19, 0, 0xE8] = true ∧ charSum [0x19, 0, 0xE8] ≠ 0) ∧
      ((0x26 : Byte).toNat ∉ requestCodes) := by decide

/-- 9.9: the first character of a telegram after an overrun takes the loss flag with it (R177). -/
theorem test_loss_flag :
    (after (.hold .job []) (lossy idle)).job.rx.loss = false ∧
      (after (.hold .job []) (lossy idle)).hj.holds.job = true := by decide

theorem witness_Reads :
    idle.listens .job = true ∧ (6 : Byte).toNat ≤ 6 ∧ 6 < (7 : Byte).toNat ∧
      (15 : Byte).toNat ≤ 15 ∧ 15 < (16 : Byte).toNat ∧ (13 : Byte).toNat ≤ 13 ∧
      13 < (14 : Byte).toNat ∧ 3 < (4 : Byte).toNat ∧ 1 < (2 : Byte).toNat := by decide

/-- The SET_BAUD reply of 9.8 has left the line. -/
def switchReady : State :=
  withJob (fun q => { q with
    pendingDivisor := some 2
    tx := { q.tx with phase := .idle }
    request := some { kind := 0x27, result := .accepted, flags := noFlags, data := .fixed [2, 0],
                      written := true } }) idle

theorem witness_SetBaudSwitch :
    (idle.listens .job = true ∧ 65535 < 65536) ∧
      (switchReady.pins.clkin = true ∧ switchReady.job.pendingDivisor = some 2 ∧
        (∃ r, switchReady.job.request = some r ∧ r.written = true) ∧
        switchReady.job.tx.phase = .idle ∧ switchReady.job.tx.fifo = []) ∧
      idle.job.pendingDivisor = none :=
  ⟨by decide, ⟨by decide, by decide, ⟨_, rfl, rfl⟩, by decide, by decide⟩, by decide⟩

/-- A FREE handler with STATE and CONTOUR_DONE pending and a pass at a place, its FIFO holding `n`
characters. -/
def noticed (n pass : Nat) : State :=
  withJob (fun q => { q with
    notices := { q.notices with state := true, contourDone := true }
    noticePass := pass
    tx := { q.tx with fifo := List.replicate n { mark := false, value := 0 } } }) idle

theorem witness_ReplyAndNotice :
    (busyJob.pins.clkin = true ∧ busyJob.job.tx.phase ≠ .idle ∧
        ∃ r, busyJob.job.request = some r ∧ r.written = false ∧
          (busyJob.replyTelegrams .job r).flatten.length ≤ 64 - busyJob.job.tx.fifo.length) ∧
      (switchReady.pins.clkin = true ∧ switchReady.job.tx.shift = none ∧
        ∃ r, switchReady.job.request = some r ∧ r.written = true) ∧
      (idle.job.request = none ∧ ∀ k, idle.job.notices.has k = false) :=
  ⟨⟨by decide, by decide, _, rfl, rfl, by decide⟩, ⟨by decide, by decide, _, rfl, rfl⟩, by decide,
    fun k => by cases k <;> rfl⟩

theorem witness_ReplyAndNotice_notices :
    (∀ pass n, (noticed n pass).pins.clkin = true ∧ (noticed n pass).job.request = none ∧
        (noticed n pass).job.notices.has .state = true ∧
        (noticed n pass).job.notices.has .contourDone = true ∧
        (∀ k : Notice, k ≠ .state → k ≠ .contourDone →
          (noticed n pass).job.notices.has k = false)) ∧
      (idle.job.tx.phase ≠ .idle ∧ Notice.state.code = 0x60 ∧ Notice.contourDone.code = 0x62) ∧
      (((noticed 0 0).noticeTelegram .state).length ≤ 64 - (noticed 0 0).job.tx.fifo.length ∧
        64 - (noticed 64 0).job.tx.fifo.length < ((noticed 64 0).noticeTelegram .state).length) := by
  refine ⟨fun pass n => ⟨rfl, rfl, rfl, rfl, fun k => ?_⟩, by decide, by decide⟩
  cases k <;> first | exact fun _ _ => rfl | exact fun h => absurd rfl h | exact fun _ h => absurd rfl h

/-- A pass ends with its highest kind, and where the next kind does not fit; the next build then begins
again at the lowest kind (R197). -/
theorem test_notice_pass :
    (after (.noticeBuild .job) (noticed 0 0)).job.noticePass = 1 ∧
      (after (.noticeBuild .job) (noticed 0 1)).job.noticePass = 0 ∧
      (after (.noticeBuild .job) (noticed 0 1)).job.notices.has .state = true ∧
      (after (.noticeBuild .job) (noticed 54 0)).job.noticePass = 0 := by decide

/-- A pass ends where a kind made pending is then its lowest one and does not fit (R197): with FAULT
next in the pass and room for 5, CONTOUR_DONE ends it, and STATE waits for it no longer. -/
theorem test_notice_pass_raise :
    let s := withJob (fun q => { q with
      notices := { q.notices with fault := true }, noticePass := 1
      tx := { q.tx with fifo := List.replicate 59 { mark := false, value := 0 } } }) idle
    (s.raise .job .state).job.noticePass = 1 ∧ (s.raise .job .contourDone).job.noticePass = 0 ∧
      ((s.raise .job .contourDone).raise .job .state).job.nextNotice = some .state := by decide

theorem witness_TelegramForm :
    ∀ bytes, ReplyData.fixed (List.replicate 18 0) = .fixed bytes → bytes.length ≤ 18 := by
  intro bytes h
  cases h
  decide

theorem witness_Transmitters :
    idle.pins.clkin = true ∧ idle.job.tx.phase = .guard ∧ idle.job.tx.phase ≠ .sending ∧
      (withJob (fun q => { q with tx := { q.tx with phase := .sending } }) idle).job.tx.phase =
        .sending := by decide

/-- The job port's receiver in a phase, with `n` characters in its FIFO. -/
def receiving (phase : RxPhase) (n : Nat) : State :=
  withJob (fun q => { q with
    rx := { q.rx with phase := phase }
    rxFifo := List.replicate n { value := 0, mark := false, noise := false, framing := false,
                                 loss := false } }) idle

theorem witness_Receivers :
    ((receiving .start 0).pins.clkin = true ∧ (receiving .start 0).job.rx.phase = .start ∧
        2 ≤ [true, false, true].count true ∧ [false, true, false].count true < 2) ∧
      ((receiving .idle 0).job.rx.phase = .idle ∧ (receiving .idle 0).job.rx.highRun ≠ 3 ∧
        (withJob (fun q => { q with rx := { q.rx with highRun := 3 } })
          (receiving .idle 0)).job.rx.highRun = 3) ∧
      ((receiving .data 31).job.rx.phase = .data ∧ (receiving .data 31).job.rxFifo.length < 32 ∧
        (1 : Byte) ≠ 0) ∧
      ((receiving .data 32).job.rx.phase = .data ∧ 32 ≤ (receiving .data 32).job.rxFifo.length) ∧
      ((receiving .low 0).job.rx.phase ≠ .idle ∧ (receiving .low 0).job.rx.phase ≠ .start ∧
        (receiving .low 0).job.rx.phase ≠ .data) := by decide

theorem witness_BreakTest :
    ((receiving .low 31).pins.clkin = true ∧ (receiving .low 31).job.rx.phase = .low ∧
        (receiving .low 31).job.rxFifo.length < 32) ∧
      ((receiving .low 32).job.rx.phase = .low ∧ 32 ≤ (receiving .low 32).job.rxFifo.length) ∧
      ((receiving .brk 0).job.rx.phase = .brk ∧ (receiving .brk 0).job.rx.phase ≠ .low) ∧
      (let s := jogging (.running jogX)
       let t : State := { s with panel := { s.panel with rx := { s.panel.rx with phase := .low } } };
        t.pins.clkin = true ∧ (t.port .panel).rx.phase = .low ∧ t.hj.phase = .running jogX) := by
  decide

/-- A character without tags. -/
def plain (v : Byte) : RxChar :=
  { value := v, mark := false, noise := false, framing := false, loss := false }

/-- The job port's assembler with characters in assembly and one character to take. -/
def assembling (chars : List Byte) (c : RxChar) : State :=
  withJob (fun q => { q with
    rxFifo := [c], asm := { q.asm with assembling := true, chars := chars } }) idle

theorem witness_Assemblers :
    (let s := assembling [] { plain 0 with framing := true };
      s.pins.clkin = true ∧ s.job.asm.slot = none ∧
        s.job.rxFifo = { plain 0 with framing := true } :: [] ∧ s.job.asm.assembling = true) ∧
      ({ plain 0x19 with mark := true }.framing = false ∧
        { plain 0x19 with mark := true }.mark = true) ∧
      ((plain 21).framing = false ∧ (plain 21).mark = false ∧
        (assembling [0x19] (plain 21)).job.rxFifo = plain 21 :: [] ∧
        ([0x19] ++ [(21 : Byte)]).length = 2 ∧ 20 < (([0x19] ++ [(21 : Byte)]).getD 1 0).toNat) ∧
      ((([0x19, 0] ++ [(0xE7 : Byte)]).getD 1 0).toNat ≤ 20 ∧
        ([0x19, 0] ++ [(0xE7 : Byte)]).length =
          (([0x19, 0] ++ [(0xE7 : Byte)]).getD 1 0).toNat + 3) ∧
      ((([0x19] ++ [(20 : Byte)]).getD 1 0).toNat ≤ 20 ∧
        ([0x19] ++ [(20 : Byte)]).length ≠ (([0x19] ++ [(20 : Byte)]).getD 1 0).toNat + 3) ∧
      (idle.job.asm.assembling = false ∧ idle.job.rxFifo = []) := by decide

/-! Motion -/

theorem witness_ExpiryStill :
    (State.reset.pins.clkin = true ∧ State.reset.fi.st = .offline ∧ State.reset.hj.phase.code ≠ 1) ∧
      ((stopped .index).pins.clkin = true ∧ (stopped .index).fi.st = .stopped) ∧
      ((jogging (.running { jogX with timer := 98 })).hj.phase = .running { jogX with timer := 98 } ∧
        98 + 1 < 100) ∧
      ((jogging (.running { jogX with timer := 99 })).hj.phase = .running { jogX with timer := 99 } ∧
        100 ≤ 99 + 1) ∧
      stopping.fi.st = .stopping .cutNormal ∧
      (idle.pins.clkin = true ∧ idle.fi.st = .idle ∧ ∀ m, idle.fi.st ≠ .stopping m) ∧
      (heldCut.pins.clkin = true ∧ heldCut.fi.st = .held .cutNormal) :=
  ⟨by decide, by decide, by decide, by decide, by decide, ⟨by decide, by decide, nofun⟩, by decide⟩

/-- STALL_TIMEOUT with no STALL due is the tick at SD: after 199 ticks the edge age is 200, and the
expiry of the same tick raises it no more (R113). -/
theorem test_stall_tick_age :
    let s : State := { cutting with sd := { cutting.sd with running := true, stallTimer := 199,
                                                            edgeAge := 199 } }
    (after .stallTimeout s).sd.edgeAge = 200 ∧
      (after .feedPeriodExpiry { s with sd := { s.sd with stallTaken := true, edgeAge := 0 } }).sd.edgeAge
        = 0 := by decide

/-- The tick that brings the stall timer to the timeout of 200 leaves it at 0 with the STALL due, and a
later edge does not take the STALL away (R112). -/
theorem test_stall_due :
    let s := inContour .starved none []
    let t := after .feedPeriodExpiry { s with sd := { s.sd with stallTimer := 199 } };
    t.sd.stallDue = true ∧ t.sd.stallTimer = 0 ∧ t.tb.ms = 1 ∧
      (after .stallTimeout (after (.crankEdge true false) t)).sv.record.map FaultRecord.cause =
        some .stall := by decide

/-- One expiry inside an entry: the hypotheses of the statement, with the speed and the advance. -/
def inside (s : State) (e : Entry) (v whole : Nat) : Prop :=
  s.pins.clkin = true ∧ s.onPath ∧ s.fi.active = some e ∧ e.kind ≠ .opening ∧
    (s.motionOn e).v = v ∧ (s.motionOn e).whole = whole ∧ s.fi.done + (s.motionOn e).whole < e.length

/-- FI in a state of contour 21 with a path to cut, 100 µm into the entry. -/
def under (st : FiState) (e : Entry) (v budget : Nat) : State :=
  let s := inContour st (some e) [line3]
  { s with fi := { s.fi with v := v, done := 100, budget := budget } }

/-- TRAVERSING 100 µm into a traverse. -/
def crossing (v : Nat) : State :=
  let s := withQueue (inState .traversing) []
  { s with fi := { s.fi with v := v, done := 100, active := some traverse } }

/-- CUTTING on a line and on an arc; with a budget that cuts the advance and with none. -/
theorem witness_ExpiryCuts_cutting :
    inside cutting line1 180000 180 ∧ inside (under .cutNormal arc2 100000 1047) arc2 102000 102 ∧
      inside (under .cutNormal line1 180000 50) line1 50000 50 ∧
      inside (under .cutNormal line1 180000 0) line1 0 0 := by
  unfold inside State.onPath
  refine ⟨⟨rfl, ?_, ?_⟩, ⟨rfl, ?_, ?_⟩, ⟨rfl, ?_, ?_⟩, ⟨rfl, ?_, ?_⟩⟩ <;>
    first | exact .inr (.inl rfl) | decide

/-- TRAVERSING, HOLDING above 0 and to 0, and the quick stop above 0 and to 0. -/
theorem witness_ExpiryCuts_others :
    inside (crossing 100000) traverse 102000 102 ∧
      inside (under (.holding .cutNormal) line1 4000 1500) line1 2000 2 ∧
      inside (under (.holding .cutNormal) line1 2000 1500) line1 0 0 ∧
      inside (under (.stopping .cutNormal) line1 9000 1500) line1 1000 1 ∧
      inside (under (.stopping .cutNormal) line1 8000 1500) line1 0 0 := by
  unfold inside State.onPath
  refine ⟨⟨rfl, .inl rfl, ?_⟩, ⟨rfl, .inr (.inr (.inr (.inl ⟨_, rfl⟩))), ?_⟩,
    ⟨rfl, .inr (.inr (.inr (.inl ⟨_, rfl⟩))), ?_⟩,
    ⟨rfl, .inr (.inr (.inr (.inr ⟨⟨_, rfl⟩, rfl⟩))), ?_⟩,
    ⟨rfl, .inr (.inr (.inr (.inr ⟨⟨_, rfl⟩, rfl⟩))), ?_⟩⟩ <;> decide

/-- The arc of 1.11 with a distance of 0 and one beyond it, the start vector in range. -/
theorem witness_ExpiryCuts_arc :
    let start := under .cutNormal arc2 0 0
    inside { start with fi := { start.fi with done := 0 } } arc2 0 0 ∧
      inside (under .cutNormal arc2 100000 1047) arc2 102000 102 ∧
      arc2.body = .arc 21 5313 14313 (some 0) false
        { cx := 368000, cy := 474000, radius := 40000, ccw := true, sweep := 9000 } ∧
      ((400000 : Int) - 368000).natAbs ≤ 2 ^ 24 ∧ ((450000 : Int) - 474000).natAbs ≤ 2 ^ 24 := by
  unfold inside State.onPath
  refine ⟨⟨rfl, .inr (.inl rfl), ?_⟩, ⟨rfl, .inr (.inl rfl), ?_⟩, rfl, ?_, ?_⟩ <;> decide

/-- The last micrometre of an entry at v 1,000, with the queue that follows it. -/
def ending (st : FiState) (e : Entry) (es : List Entry) (budget : Nat) : State :=
  let s := inContour st (some e) es
  { s with fi := { s.fi with v := 1000, done := e.length - 1, budget := budget } }

/-- The expiry reaches the end of the active entry. -/
def reaches (s : State) (e : Entry) : Prop :=
  s.pins.clkin = true ∧ s.onPath ∧ s.fi.active = some e ∧ e.kind ≠ .opening ∧
    s.fi.done < e.length ∧ e.length ≤ s.fi.done + (s.motionOn e).whole

/-- The end of a TRAVERSE. -/
def crossed : State :=
  let s := crossing 1000
  { s with fi := { s.fi with done := 111802 } }

/-- A line with a junction angle to the one before it. -/
def joined (angle : Int) (length : Nat) : Entry :=
  { seq := 2, start := ⟨400000, 450000⟩, stop := ⟨400000 + length, 450000⟩, length := length,
    body := .line 21 0 (some angle) false }

/-- CUTTING LINE 1 one micrometre before a junction, at a speed and a budget. -/
def carrying (st : FiState) (angle : Int) (length v budget : Nat) : State :=
  let s := inContour st (some line1) [joined angle length]
  { s with fi := { s.fi with v := v, done := line1.length - 1, budget := budget } }

/-- The stop ends: of a TRAVERSE, of a contour, on an empty queue, at a PIVOT just above p_g in CUTTING
and in HOLDING. -/
theorem witness_EntryEnds_stop_ends :
    (reaches crossed traverse ∧ traverse.kind = .traverse) ∧
      (reaches (ending .cutNormal line3 [] 1) line3 ∧ line3.endMark = true ∧
        (ending .cutNormal line3 [] 1).fi.contour = some contour21) ∧
      (reaches (ending .cutNormal line1 [] 1) line1 ∧ line1.isCut = true ∧ line1.endMark = false ∧
        (ending .cutNormal line1 [] 1).cq.entries = []) ∧
      reaches (carrying .cutNormal (-1501) 500 3000 1500) line1 ∧
      reaches (carrying (.holding .cutNormal) (-1501) 500 3000 1500) line1 ∧
      (joined (-1501) 500).junction = some (-1501) ∧ 1500 < (-1501 : Int).natAbs := by
  unfold reaches State.onPath
  refine ⟨⟨⟨rfl, .inl rfl, ?_⟩, ?_⟩, ⟨⟨rfl, .inr (.inl rfl), ?_⟩, ?_⟩, ⟨⟨rfl, .inr (.inl rfl), ?_⟩, ?_⟩,
    ⟨rfl, .inr (.inl rfl), ?_⟩, ⟨rfl, .inr (.inr (.inr (.inl ⟨_, rfl⟩))), ?_⟩, ?_⟩ <;> decide

/-- The quick stop of 8.2 one micrometre from the end of its line, at v 10,000. -/
def stoppingAt (es : List Entry) : State :=
  let s := ending (.stopping .cutNormal) line1 es 1500
  { s with fi := { s.fi with v := 10000 } }

/-- The quick stop that ends at the end of an entry, on an empty queue and at a PIVOT; and the one that
carries its excess over a SMOOTH junction. -/
theorem witness_EntryEnds_stopping :
    (reaches (stoppingAt []) line1 ∧ (stoppingAt []).fi.st = .stopping .cutNormal ∧
        (stoppingAt []).cq.entries = []) ∧
      (reaches (stoppingAt [joined (-1501) 500]) line1 ∧ contour21.grade.pivot < (-1501 : Int).natAbs) ∧
      (reaches (stoppingAt [joined 50 500]) line1 ∧ (50 : Int).natAbs ≤ contour21.grade.smooth) := by
  unfold reaches State.onPath
  refine ⟨⟨⟨rfl, .inr (.inr (.inr (.inr ⟨⟨_, rfl⟩, rfl⟩))), ?_⟩, ?_⟩,
    ⟨⟨rfl, .inr (.inr (.inr (.inr ⟨⟨_, rfl⟩, rfl⟩))), ?_⟩, ?_⟩,
    ⟨rfl, .inr (.inr (.inr (.inr ⟨⟨_, rfl⟩, rfl⟩))), ?_⟩, ?_⟩ <;> decide

/-- The carry ends: SMOOTH at s_g, TURN at p_g, an excess the budget cuts, one that reaches the end of
the next entry too, and the hold at v 0. -/
theorem witness_EntryEnds_carry_ends :
    (reaches (carrying .cutNormal 50 500 100000 1500) line1 ∧
        (carrying .cutNormal 50 500 100000 1500).cq.entries = joined 50 500 :: [] ∧
        (joined 50 500).junction = some 50 ∧ (50 : Int).natAbs ≤ contour21.grade.smooth ∧
        ((carrying .cutNormal 50 500 100000 1500).motionOn line1).whole ≤ 500) ∧
      (reaches (carrying .cutNormal (-1500) 500 3000 1500) line1 ∧
        contour21.grade.smooth < (-1500 : Int).natAbs ∧
        (-1500 : Int).natAbs ≤ contour21.grade.pivot) ∧
      (reaches (carrying .cutNormal 50 5000 3000000 1600) line1 ∧
        biteOf contour21.grade (joined 50 5000) <
          ((carrying .cutNormal 50 5000 3000000 1600).motionOn line1).whole - 1) ∧
      (reaches (carrying .cutNormal 50 1 100000 1500) line1 ∧
        1 ≤ ((carrying .cutNormal 50 1 100000 1500).motionOn line1).whole - 1) := by
  unfold reaches State.onPath
  refine ⟨⟨⟨rfl, .inr (.inl rfl), ?_⟩, ?_⟩, ⟨⟨rfl, .inr (.inl rfl), ?_⟩, ?_⟩,
    ⟨⟨rfl, .inr (.inl rfl), ?_⟩, ?_⟩, ⟨rfl, .inr (.inl rfl), ?_⟩, ?_⟩ <;> decide

/-- The carry ends that leave v 0: HOLDING with an override of 0, and a quick stop whose remainder
alone reaches the end. -/
theorem witness_EntryEnds_carry_to_rest :
    (let s := carrying (.holding .cutNormal) 50 500 100000 1500
     let t : State := { s with hj := { s.hj with override := 0 } };
      reaches t line1 ∧ t.capFor (.holding .cutNormal) (some (joined 50 500)) = 0) ∧
      (let s := stoppingAt [joined 50 500]
       let t : State := { s with fi := { s.fi with v := 8000, rem := 5000 } };
        reaches t line1 ∧ (t.motionOn line1).v = 0) := by
  unfold reaches State.onPath
  refine ⟨⟨⟨rfl, .inr (.inr (.inr (.inl ⟨_, rfl⟩))), ?_⟩, ?_⟩,
    ⟨⟨rfl, .inr (.inr (.inr (.inr ⟨⟨_, rfl⟩, rfl⟩))), ?_⟩, ?_⟩⟩ <;> decide

/-- PIVOTING ENTRY with H before the heading of LINE 1. -/
def slewing (h : Nat) (es : List Entry) : State :=
  let s := inContour .pivotEntry (some open21) es
  { s with fi := { s.fi with h := h } }

theorem witness_EntrySlew :
    ((slewing 5222 [line1]).pins.clkin = true ∧ (slewing 5222 [line1]).fi.st = .pivotEntry ∧
        (slewing 5222 [line1]).fi.contour = some contour21 ∧
        (slewing 5222 [line1]).cq.entries = line1 :: [] ∧ line1.isCut = true ∧
        line1.entryHeading = some 5313 ∧
        turnStep ((5313 + contour21.offset) % 36000) 5222 90 ≠ (5313 + contour21.offset) % 36000) ∧
      (turnStep ((5313 + contour21.offset) % 36000) 5223 90 = (5313 + contour21.offset) % 36000 ∧
        (slewing 5223 [line1]).fi.v = 0 ∧ (slewing 5223 [line1]).gt.settings.slewH = 90) ∧
      (slewing 0 []).cq.entries = [] := by decide

/-- A state with run-enable set. -/
def enabled (s : State) : State := { s with fi := { s.fi with runEnable := true } }

theorem witness_Dispatch :
    (cutting.pins.clkin = true ∧ cutting.fi.st ≠ .idle) ∧
      (idle.pins.clkin = true ∧ idle.fi.v = 0 ∧ idle.fi.runEnable = false) ∧
      (let s := enabled (withQueue idle [open21]);
        s.fi.st = .idle ∧ s.fi.runEnable = true ∧ s.hj.holds.any = false ∧
          s.cq.entries = open21 :: [] ∧ open21.kind = .opening) ∧
      (let s := enabled (withQueue idle [traverse, open21]);
        s.fi.st = .idle ∧ s.fi.runEnable = true ∧ s.cq.entries = traverse :: [open21] ∧
          traverse.kind = .traverse ∧ [open21].length = s.cq.refill) := by decide

/-- PRIMING with the OPEN at the head and an index age. -/
def primed (age : Nat) : State :=
  let s := enabled (withQueue (inState .priming) [open21, line1, arc2])
  { s with sd := { s.sd with indexAge := age } }

theorem witness_OpenTake :
    ((primed 20000).pins.clkin = true ∧ (primed 20000).cq.entries = open21 :: [line1, arc2] ∧
        open21.body = .opening 3 200000 21 ∧ (primed 20000).gt.grades[3]? = some (some grade3) ∧
        (primed 20000).fi.st = .priming ∧
        (primed 20000).cq.prime ≤ (primed 20000).cq.entries.length ∧
        (primed 20000).sd.running = true ∧ (primed 20000).sd.period = some 8000 ∧ 8000 ≤ 50000 ∧
        (primed 20000).hj.holds.any = false ∧ (primed 20000).fi.runEnable = true ∧
        (primed 20000).sd.indexAge * grade3.minSpm ≤ 60000000) ∧
      (60000000 < (primed 20001).sd.indexAge * grade3.minSpm ∧
        (primed 20001).fi.st = .priming) ∧
      (let s := withQueue (inState .idle) [open21];
        s.pins.clkin = true ∧ s.cq.entries = open21 :: [] ∧ s.fi.st ≠ .priming) := by decide

theorem witness_StarvedResume :
    (let s := inContour .starved none [line3];
      s.pins.clkin = true ∧ s.fi.contour = some contour21 ∧ s.cq.entries = line3 :: [] ∧
        line3.isCut = true ∧ line3.entryHeading = some 27000 ∧ s.fi.v = 0 ∧ s.fi.st = .starved ∧
        line3.endMark = true ∧ s.hj.holds.any = false ∧
        classify contour21.grade line3.junction = .pivot) ∧
      (let s := inContour .starved none [arc2, line1, line1];
        s.fi.st = .starved ∧ s.cq.prime ≤ s.cq.entries.length ∧
          arc2.entryHeading = some 5313 ∧ classify contour21.grade arc2.junction = .smooth) ∧
      (let s := withHolds panelOnly (inContour .starved none [line3]);
        s.hj.holds.any = true ∧ s.fi.v = 0) := by decide

/-- A decoder at a since-index count and a back run, in a state of FI. -/
def cranked (since : Int) (back : Nat) (s : State) : State :=
  { s with sd := { s.sd with sinceIndex := since, backRun := back } }

theorem witness_CrankEdges :
    (let s := cranked 257 0 cutting;
      s.pins.clkin = true ∧ s.sd.sinceIndex ≠ 258 ∧ s.gt.settings.bLeads = false ∧
        decide ((!s.sd.ca.filtered) ≠ s.sd.cb.filtered) = true) ∧
      (let s := cranked 258 0 cutting;
        s.sd.sinceIndex = 258 ∧ s.sd.missingRun = 0 ∧ s.sd.missingRun ≠ 1) ∧
      (let s := cranked (-32768) 6 cutting;
        s.sd.backRun ≠ 7 ∧ s.sd.sinceIndex = -32768 ∧
          decide (s.sd.ca.filtered = !s.sd.cb.filtered) = false) ∧
      (let s := cranked 0 7 State.reset; s.sd.backRun = 7 ∧ s.fi.st = .offline) ∧
      (let s := cranked 0 7 cutting;
        s.sd.backRun = 7 ∧ s.fi.st ≠ .offline ∧ s.sv.record = none ∧ s.fi.v ≠ 0) ∧
      (let s := cranked 0 7 stopping;
        s.fi.st ≠ .offline ∧ s.sv.record.isSome = true) := by decide

/-- One missing index already in a row, and the count at 258. -/
def missed (s : State) : State :=
  { s with sd := { s.sd with sinceIndex := 258, missingRun := 1 } }

/-- The second missing index in each case of its report: OFFLINE, a record present, a first fault
from a moving FI, from one at rest and from a jog of H. -/
theorem witness_CrankEdges_missing :
    ((missed State.reset).sd.missingRun = 1 ∧ (missed State.reset).fi.st = .offline) ∧
      ((missed stopping).fi.st ≠ .offline ∧ (missed stopping).sv.record.isSome = true) ∧
      ((missed cutting).fi.st ≠ .offline ∧ (missed cutting).sv.record = none ∧
        (missed cutting).fi.v ≠ 0) ∧
      ((missed idle).sv.record = none ∧ (missed idle).fi.v = 0) ∧
      (let s := atSpeed (missed (jogging (.running { jogX with axis := .h }))) 100000 90;
        s.sv.record = none ∧ s.fi.v ≠ 0 ∧ s.fi.st = .jog ∧
          s.hj.phase = .running { jogX with axis := .h }) := by decide

/-- A decoder at a crank count and an index age, with SLOW and its clearing run. -/
def striking (crank : BitVec 8) (age : Nat) (slow : Bool) (clearing : Nat) (s : State) : State :=
  { s with sd := { s.sd with crank := crank, indexAge := age, slow := slow, clearing := clearing } }

/-- A decoder at a crank count and a slip run. -/
def indexed (crank : BitVec 8) (slips : Nat) (s : State) : State :=
  { s with sd := { s.sd with crank := crank, slipRun := slips } }

/-- A valid index with the rate at the grade's minimum, 3,000 a minute at 20,000 µs, and just below it;
the first and the second qualifying index with SLOW raised; one without a period; and one outside a
contour. -/
theorem witness_ValidIndex :
    (let s := striking 2 20000 false 0 cutting;
      s.pins.clkin = true ∧ s.sd.crank.toNat ≤ 2 ∧ s.fi.st.still = false ∧
        s.fi.contour = some contour21 ∧ s.sd.startPresent = true ∧
        contour21.grade.minSpm ≤ min 65535 (60000000 / s.sd.indexAge)) ∧
      (let s := striking 254 20001 false 0 cutting;
        254 ≤ s.sd.crank.toNat ∧ min 65535 (60000000 / s.sd.indexAge) < contour21.grade.minSpm) ∧
      ((striking 0 8000 true 0 heldCut).sd.slow = true ∧
        (striking 0 8000 true 1 heldCut).sd.slow = true ∧ heldCut.fi.st.still = true ∧
        heldCut.fi.v = 0) ∧
      (let s : State := { cutting with sd := { cutting.sd with startPresent := false } };
        s.sd.startPresent = false ∧ s.fi.contour = some contour21) ∧
      (idle.fi.contour = none ∧ idle.sd.crank.toNat ≤ 2 ∧ idle.fi.v = 0 ∧
        (atSpeed (crossing 100000) 100000 100000).fi.contour = none) := by decide

/-- The states in which a valid index turns H, counts SETTLE or refreshes the budget from the head
entry. -/
theorem witness_ValidIndex_states :
    ((inContour .cutCrawl (some line1) []).fi.st = .cutCrawl ∧
        (inContour (.holding .cutCrawl) (some line1) []).fi.st = .holding .cutCrawl ∧
        (inContour (.stopping .cutCrawl) (some line1) []).fi.st = .stopping .cutCrawl) ∧
      (let s := inContour .pivotCorner (some line3) [];
        s.fi.st = .pivotCorner ∧ s.fi.active.bind Entry.entryHeading = some 27000 ∧ s.fi.v = 0) ∧
      (inContour .pivotSettle (some line3) []).fi.st = .pivotSettle ∧
      (let s := inContour .starved none [line3];
        s.fi.st = .starved ∧ s.fi.active = none ∧ s.cq.entries.head?.filter Entry.isCut = some line3) ∧
      (let s := inContour .pivotEntry (some open21) [line1];
        s.fi.st = .pivotEntry ∧ s.fi.active.any Entry.isCut = false ∧
          s.cq.entries.head?.filter Entry.isCut = some line1) ∧
      (inContour (.held .pivotEntry) (some open21) [line1]).fi.st = .held .pivotEntry := by decide

/-- A valid index in STARVED refreshes the budget to the bite of the head entry and turns H (R70,
R82). -/
theorem test_index_starved :
    let s := inContour .starved none [line3]
    let t := after .crankIndex { s with fi := { s.fi with h := 5000, heading := 5313 } };
    t.fi.budget = 1500 ∧ t.fi.h = 5150 ∧ t.fi.strokes = 1 := by decide

theorem witness_SlipIndex :
    (3 ≤ (indexed 3 1 cutting).sd.crank.toNat ∧ (indexed 253 1 cutting).sd.crank.toNat ≤ 253 ∧
        (indexed 3 1 cutting).sd.slipRun ≠ 2 ∧ (indexed 3 1 cutting).pins.clkin = true) ∧
      ((indexed 3 2 State.reset).sd.slipRun = 2 ∧ (indexed 3 2 State.reset).fi.st = .offline) ∧
      ((indexed 3 2 stopping).fi.st ≠ .offline ∧ (indexed 3 2 stopping).sv.record.isSome = true) ∧
      ((indexed 3 2 cutting).sd.slipRun = 2 ∧ (indexed 3 2 cutting).fi.st ≠ .offline ∧
        (indexed 3 2 cutting).sv.record = none) := by decide

/-- A STALL that a tick has brought. -/
def stallWaits (s : State) : State := { s with sd := { s.sd with stallDue := true } }

/-- SLOW raised. -/
def slowed (s : State) : State := { s with sd := { s.sd with slow := true } }

theorem witness_BladeMonitors :
    (idle.pins.clkin = true ∧ idle.fi.contour = none ∧ idle.sd.stallDue = false) ∧
      ((slowed cutting).pins.clkin = true ∧ (slowed cutting).fi.contour = some contour21 ∧
        (slowed cutting).sd.slow = true) ∧
      (cutting.pins.clkin = true ∧ cutting.fi.contour = some contour21 ∧ cutting.sd.slow = false ∧
        cutting.hj.holds.slow = false ∧ cutting.hj.holds.any = false ∧
        0 < contour21.grade.minSpm ∧ cutting.sd.running = true ∧ cutting.sd.stallDue = false ∧
        cutting.sv.record = none ∧ cutting.fi.v ≠ 0 ∧ cutting.fi.st ≠ .jog) ∧
      (stopping.fi.contour.isSome = true ∧ stopping.sd.running = true ∧
        stopping.sv.record.isSome = true) ∧
      ((stallWaits idle).sd.stallDue = true ∧ (stallWaits idle).sv.record = none ∧
        (stallWaits idle).fi.v = 0) ∧
      (stallWaits (stopped .index)).sv.record.isSome = true := by decide

theorem witness_StopLimit :
    (stopping.pins.clkin = true ∧ stopping.fi.st = .stopping .cutNormal ∧
        stopping.sv.permit = true) ∧
      cutting.pins.clkin = true ∧ ∀ m, cutting.fi.st ≠ .stopping m :=
  ⟨by decide, by decide, nofun⟩

theorem witness_ClockLossAndReturn :
    ((dark .disarmed .idle).sv.monitor ≠ .watching ∧ (dark .disarmed .idle).sv.monitor ≠ .lost) ∧
      (let s : State := { cutting with
          sv := { cutting.sv with monitor := .watching, armed := true }
          ap := { cutting.ap with x := { cutting.ap.x with step := true } } };
        s.sv.monitor = .watching ∧ (s.ap.axis .x).step = true ∧ s.sv.permit = true) ∧
      ((dark .lost .offline).sv.monitor = .lost ∧ (dark .lost .offline).fi.st = .offline ∧
        (dark .lost .offline).sv.permit = false) ∧
      ((dark .lost .cutNormal).sv.monitor = .lost ∧ (dark .lost .cutNormal).fi.st ≠ .offline ∧
        (dark .lost .cutNormal).fi.st.isFault = false ∧ (dark .lost .cutNormal).sv.record = none ∧
        (dark .lost .cutNormal).sv.permit = true) ∧
      ((dark .lost (.stopping .cutNormal)).sv.monitor = .lost ∧
        (dark .lost (.stopping .cutNormal)).fi.st = .stopping .cutNormal ∧
        (dark .lost (.stopping .cutNormal)).sv.permit = true) ∧
      ((dark .lost .stopped).fi.st = .stopped ∧ (dark .lost .stopped).sv.permit = false) := by decide

theorem witness_StepSlot :
    (State.reset.pins.clkin = true ∧ State.reset.mpermit = false) ∧
      (let s : State := { cutting with ap := { cutting.ap with
          x := { cutting.ap.x with laid := 500, emitted := 499 } } };
        s.pins.clkin = true ∧ s.mpermit = true ∧ (s.ap.axis .x).emitted < (s.ap.axis .x).laid) ∧
      (cutting.ap.axis .y).laid ≤ (cutting.ap.axis .y).emitted := by decide

/-! Arithmetic -/

theorem witness_HandOff :
    let a := AxisOut.reset;
    ((500 : Int) - a.output).natAbs ≤ 500 ∧ 500 < ((501 : Int) - a.output).natAbs ∧
      500 < (501 : Int) - a.output ∧ (-501 : Int) - a.output < -500 ∧ (0 : Int) - a.output = 0 ∧
      0 < (a.handOff 1 true).laid := by decide

theorem witness_TurnSteps :
    (27000 < 36000 ∧ 26913 < 36000 ∧ (normalise ((27000 : Int) - 26850)).natAbs ≤ 150) ∧
      (150 < (normalise ((27000 : Int) - 26849)).natAbs ∧ 0 < normalise ((27000 : Int) - 26849)) ∧
      (150 < (normalise ((100 : Int) - 251)).natAbs ∧ normalise ((100 : Int) - 251) < 0) ∧
      ((18000 + 36000 - 0) % 36000 = 18000 ∧ 17999 < 18000) := by decide

theorem witness_HeadingReductions :
    (36000 : Int) ∣ 72000 ∧ (36000 : Int) ∣ (-18000) - 18000 := by decide

theorem witness_BrakingDistance : 0 < 2000000 ∧ 5000 ≤ 180000 ∧ 180000 ≤ 180000 := by decide

theorem witness_Roundings : 0 < 1 ∧ (4000000 : Int).natAbs < 2 ^ 24 ∧ (-1 : Int).natAbs < 2 ^ 24 := by
  decide

theorem witness_SpeedAndDistance :
    (10000 ≤ 10000 ∧ 5000000 ≤ 5000000 ∧ 100000 ≤ 100000 ∧ 20000000 ≤ 20000000) ∧
      (((178000 : Int) - 180000).natAbs ≤ 2000 ∧ 2000 < ((177999 : Int) - 180000).natAbs ∧
        177999 < 180000 ∧ 2000 < ((180000 : Int) - 177999).natAbs) ∧
      48 < (accumulate 84000 0).whole := by decide

theorem witness_StrokeQuantities :
    0 < grade3.bite ∧ line1.kind = .line ∧ arc2.body = .arc 21 5313 14313 (some 0) false
        { cx := 368000, cy := 474000, radius := 40000, ccw := true, sweep := 9000 } ∧
      traverse.kind = .traverse ∧ open21.kind = .opening ∧ (915 ≤ 915 ∧ 916 ≤ 916) ∧
      (4999 < 5000 ∧ 5000 ≤ 5000 ∧ 50000 ≤ 50000 ∧ 50000 < 50001) ∧
      strokeDemand grade3 180000 < 12000 ∧ grade3.minSpm < strokeDemand grade3 180000 := by decide

/-! Invariants -/

/-- A state with one expiry waiting. -/
def expiring (s : State) : State := { s with pending := [.feedPeriodExpiry] }

theorem witness_QueueKept :
    (expiring (withQueue { idle with cq := { idle.cq with seq := 2 } } [open21, line1])).queueSafe ∧
      ∃ t, step (expiring (withQueue { idle with cq := { idle.cq with seq := 2 } }
        [open21, line1])) = .next t :=
  ⟨⟨by decide, by decide, rfl⟩, _, rfl⟩

theorem witness_PermitKept :
    (expiring cutting).permitSafe ∧ ∃ t, step (expiring cutting) = .next t :=
  ⟨⟨by decide, by decide, by decide, by decide⟩, _, rfl⟩

theorem witness_DrivesKept :
    (expiring (stopped .index)).drivesSafe ∧ (expiring (stopped .index)).sv.permit = false ∧
      ∃ t, step (expiring (stopped .index)) = .next t :=
  ⟨fun _ => ⟨by decide, by decide, by decide⟩, by decide, _, rfl⟩

theorem witness_JogKept :
    (expiring (jogging (.running jogX))).jogSafe ∧ (expiring (jogging (.running jogX))).fi.st = .jog ∧
      ∃ t, step (expiring (jogging (.running jogX))) = .next t :=
  ⟨⟨fun _ => nofun, fun _ => .inl rfl⟩, by decide, _, rfl⟩

end Sys2Proof.Tests
end

section
/-! SUPPORT. What one step can do to the contour queue (R1, R2, R15, R20): entries leave it at the
head, one entry joins it with the next number, or it is emptied. -/

namespace Sys2Proof.Machine

/-! ### The numbers of the queue (R1, R2) -/

theorem numbered_cons {e : Entry} {l : List Entry} {n : Word16} (h : numbered (e :: l) n) :
    numbered l n := by
  cases l with
  | nil => trivial
  | cons _ _ => exact h.2

/-- Entries that leave at the head leave the numbers of the others as they are. -/
theorem numbered_of_suffix {l l' : List Entry} {n : Word16} (hs : l' <:+ l) (h : numbered l n) :
    numbered l' n := by
  induction l with
  | nil => rw [List.suffix_nil.mp hs]; trivial
  | cons e l ih =>
    rcases List.suffix_cons_iff.mp hs with rfl | hs
    · exact h
    · exact ih hs (numbered_cons h)

/-- An entry with the next number joins a numbered queue at the tail. -/
theorem numbered_concat {l : List Entry} {n : Word16} (h : numbered l n) {e : Entry}
    (he : e.seq = n) : numbered (l ++ [e]) (n + 1) := by
  induction l with
  | nil => simp [numbered, he]
  | cons a l ih =>
    cases l with
    | nil => exact ⟨by rw [he]; exact h, by simp [numbered, he]⟩
    | cons b l => exact ⟨h.1, ih h.2⟩

/-! ### Entries leave at the head -/

/-- From `r` to `s` entries have left the queue at its head only, and no number has been given
out. -/
def headTaken (r s : State) : Prop := s.cq.entries <:+ r.cq.entries ∧ s.cq.seq = r.cq.seq

theorem headTaken.refl (s : State) : headTaken s s := ⟨List.suffix_refl _, rfl⟩

/-- The queue alone matters. -/
theorem headTaken.of_cq {r s t : State} (h : headTaken r s) (hc : t.cq = s.cq) : headTaken r t := by
  rw [headTaken, hc]; exact h

theorem headTaken.dropHead {r s : State} (h : headTaken r s) : headTaken r s.dropHead := by
  rw [headTaken, State.dropHead_cq]
  exact ⟨(List.tail_suffix _).trans h.1, h.2⟩

theorem headTaken.takeEntry {r s : State} (h : headTaken r s) (e : Entry) :
    headTaken r (s.takeEntry e) := by
  rw [headTaken, State.takeEntry_cq]
  exact ⟨(List.tail_suffix _).trans h.1, h.2⟩

/-- The take of a cut entry that ends a slew or STARVED (R80, R83). -/
theorem headTaken.takeCut {r s : State} (h : headTaken r s) (e : Entry) (st : FiState) :
    headTaken r (((s.takeEntry e).limitBudget e).enter st) :=
  (h.takeEntry e).of_cq (by simp)

theorem headTaken.flush {r s : State} (h : headTaken r s) : headTaken r s.flush := by
  rw [headTaken, State.flush_cq]
  exact ⟨List.nil_suffix, h.2⟩

theorem headTaken.endStop {r s : State} (h : headTaken r s) : headTaken r s.endStop := by
  rw [headTaken, State.endStop_cq]
  exact ⟨List.nil_suffix, h.2⟩

/-! Faults (R152 to R157) -/

theorem headTaken.beginStop {r s : State} (h : headTaken r s) : headTaken r s.beginStop := by
  have h1 (v : Nat) : headTaken r { (s.endJog .fault).enter (.stopping s.fi.st.stopMode) with
      fi := { ((s.endJog .fault).enter (.stopping s.fi.st.stopMode)).fi with v := v } } :=
    h.of_cq (by simp)
  rw [State.beginStop_eq]
  dsimp only
  generalize (if s.hj.phase.turnsH = true ∧ s.fi.st = .jog then 0 else s.fi.v) = v
  split
  · exact (h1 v).endStop
  · exact h1 v

theorem headTaken.reportFault {r s : State} (h : headTaken r s) (c : Cause) :
    headTaken r (s.reportFault c) := by
  unfold State.reportFault
  split
  · exact headTaken.beginStop (h.of_cq (by simp))
  · exact h

theorem headTaken.reportCrank {r s : State} (h : headTaken r s) (c : Cause) :
    headTaken r (s.reportCrank c) := by
  unfold State.reportCrank
  split
  · exact h
  · exact h.reportFault c

/-! The path (R68, R80 to R84) -/

theorem headTaken.dispatchNow {r s : State} (h : headTaken r s) : headTaken r s.dispatchNow := by
  have henter (st : FiState) : headTaken r (s.enter st) := h.of_cq (by simp)
  unfold State.dispatchNow
  split
  · split
    · exact henter _
    · rename_i e _ _
      split
      · exact henter _
      · exact (h.takeEntry e).of_cq (by simp)
      · exact henter _
  · exact henter _

theorem headTaken.carryEnd {r s : State} (h : headTaken r s) (e next : Entry) (turn : Bool)
    (whole : Nat) : headTaken r (s.carryEnd e next turn whole).1 := by
  have h0 : headTaken r
      { s with fi := { s.fi with budget := s.fi.budget + (s.fi.done - e.length) } } := h
  have h1 := h0.takeEntry next
  simp only [State.carryEnd]
  split <;> split <;> exact h1.of_cq (by simp)

theorem headTaken.contourEnd {r s : State} (h : headTaken r s) : headTaken r s.contourEnd := by
  unfold State.contourEnd
  extract_lets tag dropped fi s1 s2 s3 fi3
  have h3 : headTaken r s3 := h.of_cq (by simp [s3, s2, s1, dropped])
  split
  · exact h3.of_cq (by simp)
  · exact h3.dispatchNow

theorem headTaken.startPivot {r s : State} (h : headTaken r s) (next : Entry) :
    headTaken r (s.startPivot next) := by
  simp only [State.startPivot]
  split <;> exact (h.takeEntry next).of_cq (by simp)

theorem headTaken.stopEnd {r s : State} (h : headTaken r s) (e : Entry) :
    headTaken r (s.stopEnd e) := by
  have h1 : headTaken r (s.stopAt e) := h.of_cq (by simp)
  simp only [State.stopEnd]
  split
  · exact h1
  split
  · exact headTaken.dispatchNow (h1.of_cq (by simp))
  split
  · exact h1.contourEnd
  split
  · exact h1.of_cq (by simp)
  · exact h1.startPivot _

theorem headTaken.runEnds {r : State} (fuel : Nat) {s : State} (h : headTaken r s) (whole : Nat) :
    headTaken r (State.runEnds fuel s whole) := by
  induction fuel generalizing s whole with
  | zero => exact h
  | succ fuel ih =>
    unfold State.runEnds
    split
    · exact h
    split
    · exact h.of_cq (by simp)
    split
    · exact ih (h.carryEnd ..) _
    · exact h.stopEnd _

theorem headTaken.move {r s : State} (h : headTaken r s) : headTaken r s.move :=
  headTaken.runEnds _ (h.of_cq (by simp)) _

theorem headTaken.slew {r s : State} (h : headTaken r s) : headTaken r s.slew := by
  unfold State.slew
  split
  · split
    · dsimp only
      split
      · refine headTaken.takeCut ?_ _ _
        exact h
      · exact h
    · exact h
  · exact h

/-! Jog and quick stop (R92, R93, R132, R136) -/

theorem headTaken.jogLinear {r s : State} (h : headTaken r s) (m : JogMove) (target step : Nat) :
    headTaken r (s.jogLinear m target step) := h

theorem headTaken.jogTurn {r s : State} (h : headTaken r s) (m : JogMove) (target : Nat) :
    headTaken r (s.jogTurn m target) := h

theorem headTaken.jogStep {r s : State} (h : headTaken r s) : headTaken r s.jogStep := by
  unfold State.jogStep
  split
  · exact h
  all_goals
    split
    · exact h.jogTurn _ _
    · exact h.jogLinear _ _ _

theorem headTaken.jogComplete {r s : State} (h : headTaken r s) : headTaken r s.jogComplete := by
  unfold State.jogComplete
  split
  · split
    · exact headTaken.of_cq
        (headTaken.flush (s := { s with hj := { s.hj with phase := .none } }) h) (by simp)
    · exact h
  · exact h

theorem headTaken.stopMove {r s : State} (h : headTaken r s) : headTaken r s.stopMove := by
  unfold State.stopMove
  split
  · split
    · exact h
    · exact h.jogLinear _ _ _
  · split
    · exact h.move
    · exact h

theorem headTaken.stopLimit {r s : State} (h : headTaken r s) : headTaken r s.stopLimit := by
  unfold State.stopLimit
  split
  · exact headTaken.endStop (s := { s with sv := { s.sv with stopTimer := 100 } }) h
  · exact h

/-! The expiry and the takes (R66 to R69, R79, R83) -/

theorem headTaken.feedWork {r s : State} (h : headTaken r s) : headTaken r s.feedWork := by
  have hmove : headTaken r s.move.handOff := h.move
  unfold State.feedWork
  split
  case h_1 | h_2 => exact h
  case h_3 => exact h.slew
  case h_4 | h_5 | h_6 => exact hmove
  case h_7 =>
    dsimp only
    split
    · split
      · exact hmove.of_cq (by simp)
      · exact hmove
    · exact hmove
  case h_8 => exact headTaken.jogComplete (s := s.jogStep.handOff) h.jogStep
  case h_9 =>
    dsimp only
    split
    · exact headTaken.endStop (s := s.stopMove.handOff) h.stopMove
    · exact h.stopMove
  case h_10 => exact h

theorem headTaken.feedPeriod {r s : State} (h : headTaken r s) : headTaken r s.feedPeriod :=
  (headTaken.feedWork (h.of_cq s.tick_cq)).of_cq (State.tickWindow_cq _)

theorem headTaken.openTake {r s : State} (h : headTaken r s) : headTaken r s.openTake := by
  have htake (e : Entry) (c : Contour) : headTaken r (s.takeOpen e c) := by
    simp only [State.takeOpen]
    split <;> exact h.dropHead.of_cq (by simp)
  unfold State.openTake
  (repeat' split)
  all_goals first | exact h | exact htake _ _

theorem headTaken.starvedResume {r s : State} (h : headTaken r s) :
    headTaken r s.starvedResume := by
  unfold State.starvedResume
  split
  · split
    · exact h.takeCut _ _
    · exact h
  · exact h

/-! The crank, the index and supervision (R104 to R109, R112, R162) -/

theorem headTaken.missIndex {r s : State} (h : headTaken r s) : headTaken r s.missIndex := by
  simp only [State.missIndex]
  split
  · refine headTaken.reportCrank ?_ _
    exact h
  · exact h

theorem headTaken.crankEdge {r s : State} (h : headTaken r s) (onA onB : Bool) :
    headTaken r (s.crankEdge onA onB) := by
  have h1 : headTaken r (s.crankSample onA onB) := h
  have hforward : headTaken r (s.crankSample onA onB).countForward := by
    simp only [State.countForward]
    split
    · refine headTaken.missIndex ?_
      exact h1
    · exact h1
  have hback : headTaken r (s.crankSample onA onB).countBack := by
    simp only [State.countBack]
    split
    · refine headTaken.reportCrank ?_ _
      exact h1
    · exact h1
  simp only [State.crankEdge]
  (repeat' split) <;> assumption

theorem headTaken.crankIndex {r s : State} (h : headTaken r s) : headTaken r s.crankIndex := by
  simp only [State.crankIndex]
  split
  · exact h.of_cq (by simp)
  · simp only [State.slipIndex]
    split
    · refine headTaken.reportCrank ?_ _
      exact h
    · exact h

theorem headTaken.stallTimeout {r s : State} (h : headTaken r s) : headTaken r s.stallTimeout := by
  unfold State.stallTimeout
  split
  · exact headTaken.reportFault (s := { s with sd := { s.sd with stallDue := false } }) h _
  split
  · refine headTaken.reportFault ?_ _
    exact h
  · exact h

theorem headTaken.stopDirect {r s : State} (h : headTaken r s) : headTaken r s.stopDirect :=
  headTaken.endStop (h.of_cq (State.endJog_cq _ _))

theorem headTaken.returnAction {r s : State} (h : headTaken r s) : headTaken r s.returnAction := by
  unfold State.returnAction
  split
  · exact h.of_cq (by simp)
  · exact headTaken.stopDirect (h.of_cq (by simp))
  · exact h.of_cq (by simp)
  · split <;> exact headTaken.stopDirect (h.of_cq (by simp))

theorem headTaken.clockReturned {r s : State} (h : headTaken r s) :
    headTaken r s.clockReturned := by
  have h1 : headTaken r
      { s with pins := { s.pins with clkin := true }, sv := { s.sv with missed := 0 } } := h
  simp only [State.clockReturned]
  split
  · exact h1.returnAction
  · exact h

/-! The block's own cycle (R98, R101, R171) -/

theorem headTaken.portCycle {r s : State} (h : headTaken r s) (p : Port) :
    headTaken r (s.portCycle p) := by
  have hsample {u : State} (hu : headTaken r u) : headTaken r (u.samplePort p) := by
    simp only [State.samplePort]
    split <;> exact hu.of_cq (by simp)
  have hrx : headTaken r (s.rxCycle p) := by
    simp only [State.rxCycle]
    split
    · exact hsample (h.of_cq (by simp))
    · exact h.of_cq (by simp)
  exact hrx.of_cq (by simp [State.portCycle])

theorem headTaken.strokeSample {r s : State} (h : headTaken r s) (edge : Bool) :
    headTaken r (s.strokeSample edge) := by
  have hindex {u : State} (hu : headTaken r u) : headTaken r (u.indexSample edge) := by
    unfold State.indexSample
    (repeat' split)
    · exact hu.crankIndex
    all_goals exact hu
  have hoverdue {u : State} (hu : headTaken r u) : headTaken r u.overdueTest := by
    unfold State.overdueTest
    split
    · exact hu.of_cq (by simp)
    · exact hu
  have hchosen : headTaken r s.chosen := h
  rcases s.strokeSample_cases edge with he | he | he <;> rw [he]
  · exact hoverdue (hindex h)
  · exact hoverdue (hindex hchosen)
  · exact hoverdue (hindex (hoverdue hchosen))

theorem headTaken.sampleInputs {r s : State} (h : headTaken r s) : headTaken r s.sampleInputs := by
  have hline {u : State} (hu : headTaken r u) (edge : Bool) : headTaken r (u.lineSample edge) := by
    unfold State.lineSample
    (repeat' split)
    · exact hu.of_cq (by simp)
    · exact hu.of_cq (by simp)
    · exact hu
  have hblade {u : State} (hu : headTaken r u) (onA onB edge : Bool) :
      headTaken r (u.bladeSample onA onB edge) := by
    unfold State.bladeSample
    split
    · exact (hu.crankEdge onA onB).strokeSample edge
    · exact hu.strokeSample edge
  unfold State.sampleInputs
  extract_lets k ca cb cz holdn sd s1
  have h1 : headTaken r s1 := h
  have hchosen : headTaken r s1.chosen := h
  (repeat' split)
  · exact hblade (hline hchosen _) _ _ _
  · exact hline (hblade hchosen _ _ _) _
  · exact hline (hblade h1 _ _ _) _

theorem headTaken.millisecond {r s : State} (h : headTaken r s) : headTaken r s.millisecond := by
  have hstall : headTaken r s.tickTime.tickDecoder.stallFirst := by
    have h0 : headTaken r s.tickTime.tickDecoder := h
    rcases State.stallFirst_cases s.tickTime.tickDecoder with he | he | he <;> rw [he]
    · exact h0
    · exact h0
    · exact headTaken.stallTimeout (s := s.tickTime.tickDecoder.chosen) h0
  have hlimit : headTaken r s.tickTime.tickDecoder.stallFirst.tickStop.limitFirst := by
    have h0 := hstall.of_cq (State.tickStop_cq _)
    rcases State.limitFirst_cases s.tickTime.tickDecoder.stallFirst.tickStop with he | he | he <;>
      rw [he]
    · exact h0
    · exact h0
    · exact headTaken.stopLimit
        (s := s.tickTime.tickDecoder.stallFirst.tickStop.chosen) h0
  exact hlimit.feedWork.of_cq (State.tickWindow_cq _)

theorem headTaken.microsecond {r s : State} (h : headTaken r s) : headTaken r s.microsecond := by
  have h1 : headTaken r s.passMicro := h
  have hchosen : headTaken r s.passMicro.chosen := h
  have hmeets {u : State} (hu : headTaken r u) (v : State) : headTaken r (u.stallMeets v) := by
    rcases u.stallMeets_cases v with he | he <;> rw [he] <;> exact hu
  have hwork : headTaken r
      (if 999 ≤ s.tb.phase then
        if s.passMicro.coin then
          (s.passMicro.chosen.sampleInputs.stallMeets s.passMicro).millisecond
        else s.passMicro.chosen.millisecond.sampleInputs
      else s.passMicro.sampleInputs) := by
    (repeat' split)
    · exact (hmeets hchosen.sampleInputs _).millisecond
    · exact hchosen.millisecond.sampleInputs
    · exact h1.sampleInputs
  exact hwork

theorem headTaken.cycle {r s : State} (h : headTaken r s) : headTaken r s.cycle := by
  have h0 : headTaken r s.clockEdge := h.of_cq (by rw [State.clockEdge_eq])
  have hports := ((h0.portCycle .job).portCycle .blade).portCycle .panel
  simp only [State.cycle]
  split
  · refine headTaken.microsecond ?_
    exact hports
  · exact hports

/-! ### One step of the queue -/

/-- What a step from `s` to `t` can do to the queue: take entries from its head, append one entry
with the next number where there is room (R1, R2), or empty it by a reset (R25). -/
inductive queueStep (s t : State) : Prop
  | taken (h : headTaken s t)
  | joined (e : Entry) (room : s.cq.entries.length < 48) (number : e.seq = s.cq.seq)
      (entries : t.cq.entries = s.cq.entries ++ [e]) (seq : t.cq.seq = s.cq.seq + 1)
  | reset (h : t.cq.entries = [])

/-- Whatever the state, `f` is one step of the queue. -/
def queueSteps (f : State → State) : Prop := ∀ s, queueStep s (f s)

/-- Each of the three keeps the queue safe (R1, R2). -/
theorem queueStep.queueSafe {s t : State} (h : queueStep s t) (hs : s.queueSafe) :
    t.queueSafe := by
  obtain ⟨hlength, hnumbered⟩ := hs
  cases h with
  | taken h =>
    refine ⟨h.1.length_le.trans hlength, ?_⟩
    rw [h.2]
    exact numbered_of_suffix h.1 hnumbered
  | joined e room number entries seq =>
    rw [State.queueSafe, entries, seq]
    exact ⟨by simpa using room, numbered_concat hnumbered number⟩
  | reset h =>
    rw [State.queueSafe, h]
    exact ⟨by simp, trivial⟩

/-- A step that leaves the queue as it is. -/
theorem queueStep.of_cq_eq {s t : State} (hc : t.cq = s.cq) : queueStep s t :=
  .taken ((headTaken.refl s).of_cq hc)

/-- The queue alone matters, before the step and after it. -/
theorem queueStep.congr {s s' t t' : State} (h : queueStep s t) (hs : s'.cq = s.cq)
    (ht : t'.cq = t.cq) : queueStep s' t' := by
  cases h with
  | taken h => exact .taken (by rw [headTaken, hs, ht]; exact h)
  | joined e room number entries seq =>
    exact .joined e (by rwa [hs]) (by rwa [hs]) (by rwa [hs, ht]) (by rwa [hs, ht])
  | reset h => exact .reset (by rwa [ht])

theorem queueStep.of_clocked {s t : State} {f : State → State} (h : clocked s f = .next t)
    (hf : queueSteps f) : queueStep s t := by
  obtain rfl : (if s.pins.clkin then f s else s) = t := by injection h
  split
  · exact hf s
  · exact .of_cq_eq rfl

theorem queueStep.of_arrive {take : State → State} (hf : queueSteps take) (s : State)
    (p : Port) (chars : List Byte) : queueStep s (s.arrive p chars take) := by
  simp only [State.arrive]
  (repeat' split)
  case isTrue.isTrue => exact (hf _).congr (by simp) rfl
  all_goals exact .of_cq_eq (by simp)

/-! ### The owners of the requests -/

/-- An entry that passes the first two checks joins with the next number (R2, R8, R9, R13). -/
theorem queueStep.of_acceptReply {s : State} {cut : Bool} (hg : s.receiptGate cut = none)
    (stop : Point) (length : Nat) (body : Body) (clamped : Bool) :
    queueStep s (s.acceptReply (s.prepared stop length body) clamped).1 := by
  have hroom : s.cq.entries.length < 48 := by
    by_contra hn
    simp only [State.receiptGate, Config.queueCapacity, Nat.not_lt.mp hn, if_true] at hg
    split at hg <;> cases hg
  refine .joined (s.prepared stop length body) hroom rfl ?_ ?_ <;>
    simp [State.acceptReply, State.acceptEntry_cq]

theorem ownTraverse_queueStep (d : List Byte) (s : State) : queueStep s (ownTraverse d s).1 := by
  simp only [ownTraverse]
  split
  · exact .of_cq_eq rfl
  · (repeat' split)
    case isFalse.isFalse => exact .of_acceptReply ‹_› _ _ _ _
    all_goals exact .of_cq_eq rfl

theorem ownOpen_queueStep (d : List Byte) (s : State) : queueStep s (ownOpen d s).1 := by
  simp only [ownOpen]
  split
  · exact .of_cq_eq rfl
  · (repeat' split)
    case isFalse.isFalse.isFalse => exact .of_acceptReply ‹_› _ _ _ _
    all_goals exact .of_cq_eq rfl

theorem ownLine_queueStep (d : List Byte) (s : State) : queueStep s (ownLine d s).1 := by
  simp only [ownLine]
  split
  · exact .of_cq_eq rfl
  · (repeat' split)
    case isFalse.isFalse => exact .of_acceptReply ‹_› _ _ _ _
    all_goals exact .of_cq_eq rfl

theorem ownArc_queueStep (d : List Byte) (s : State) : queueStep s (ownArc d s).1 := by
  simp only [ownArc]
  split
  · exact .of_cq_eq rfl
  · (repeat' split)
    case isFalse.isFalse.isFalse.isFalse => exact .of_acceptReply ‹_› _ _ _ _
    all_goals exact .of_cq_eq rfl

theorem ownMachine_queueStep (d : List Byte) (s : State) : queueStep s (ownMachine d s).1 := by
  simp only [ownMachine]
  (repeat' split) <;> exact .of_cq_eq (by simp)

theorem ownGrade_queueStep (d : List Byte) (s : State) : queueStep s (ownGrade d s).1 := by
  simp only [ownGrade]
  (repeat' split) <;> exact .of_cq_eq (by simp)

theorem ownOrigin_queueStep (d : List Byte) (s : State) : queueStep s (ownOrigin d s).1 := by
  simp only [ownOrigin]
  (repeat' split) <;> exact .taken (headTaken.refl s)

theorem ownOnline_queueStep (d : List Byte) (s : State) : queueStep s (ownOnline d s).1 := by
  simp only [ownOnline]
  split <;> exact .of_cq_eq (by simp)

theorem ownArm_queueStep (d : List Byte) (s : State) : queueStep s (ownArm d s).1 := by
  simp only [ownArm]
  split <;> exact .of_cq_eq rfl

theorem ownJogLock_queueStep (d : List Byte) (s : State) : queueStep s (ownJogLock d s).1 := by
  simp only [ownJogLock]
  split <;> exact .of_cq_eq rfl

theorem ownRun_queueStep (d : List Byte) (s : State) : queueStep s (ownRun d s).1 := by
  simp only [ownRun]
  split <;> exact .of_cq_eq rfl

theorem ownFlush_queueStep (d : List Byte) (s : State) : queueStep s (ownFlush d s).1 := by
  simp only [ownFlush]
  split
  · exact .taken ((headTaken.refl s).flush.of_cq (by simp))
  · exact .of_cq_eq rfl

theorem ownResetCut_queueStep (d : List Byte) (s : State) : queueStep s (ownResetCut d s).1 := by
  simp only [ownResetCut]
  split
  · exact .of_cq_eq rfl
  · exact .taken ((headTaken.refl s).flush.of_cq (by simp [State.resetCut]))

theorem ownClearFault_queueStep (d : List Byte) (s : State) :
    queueStep s (ownClearFault d s).1 := by
  have hflush : headTaken s
      (State.flush { s with sv := { s.sv with record := none, further := 0 } }) :=
    headTaken.flush (headTaken.refl s)
  simp only [ownClearFault]
  (repeat' split)
  · exact .of_cq_eq rfl
  · exact .of_cq_eq rfl
  · exact .taken (hflush.of_cq (by simp [State.clearFault]))

theorem ownBladeState_queueStep (d : List Byte) (s : State) :
    queueStep s (ownBladeState d s).1 := by
  simp only [ownBladeState]
  split <;> exact .of_cq_eq (by simp)

theorem ownOffset_queueStep (d : List Byte) (s : State) : queueStep s (ownOffset d s).1 := by
  simp only [ownOffset]
  split <;> exact .of_cq_eq rfl

/-- A jog from HELD flushes the held work, from IDLE it leaves the queue as it is (R129). -/
theorem headTaken.startJog (s : State) (axis : Axis) (positive : Bool) (speed : Nat) :
    headTaken s (s.startJog axis positive speed) := by
  have habandon : headTaken s s.abandon := by
    unfold State.abandon
    split
    · exact (headTaken.refl s).flush.of_cq (by simp)
    · exact headTaken.refl s
  exact habandon.of_cq (by simp [State.startJog])

theorem ownJogStart_queueStep (d : List Byte) (s : State) : queueStep s (ownJogStart d s).1 := by
  simp only [ownJogStart]
  split
  · exact .of_cq_eq rfl
  · (repeat' split)
    case isFalse.isFalse.isFalse.isFalse => exact .taken (.startJog s _ _ _)
    all_goals exact .of_cq_eq rfl

theorem ownJogKeep_queueStep (d : List Byte) (s : State) : queueStep s (ownJogKeep d s).1 := by
  simp only [ownJogKeep]
  split <;> exact .of_cq_eq (by simp)

theorem ownJogEnd_queueStep (d : List Byte) (s : State) : queueStep s (ownJogEnd d s).1 := by
  simp only [ownJogEnd]
  split <;> exact .of_cq_eq (by simp)

/-- The reads leave the state as it is. -/
theorem ownStatus_state (d : List Byte) (s : State) : (ownStatus d s).1 = s := by
  simp only [ownStatus]
  split <;> rfl

theorem ownReadGrade_state (d : List Byte) (s : State) : (ownReadGrade d s).1 = s := by
  simp only [ownReadGrade]
  (repeat' split) <;> rfl

theorem ownReadPort_state (d : List Byte) (s : State) : (ownReadPort d s).1 = s := by
  simp only [ownReadPort]
  split <;> rfl

/-! ### The requests, taken on arrival or from the slot -/

theorem queueStep.of_takeRequest {owner : State → State × Reply} {s : State}
    (ho : queueStep s (owner s).1) (p : Port) (kind : Byte) (roles : List Port) (n : Nat)
    (d turned : List Byte) : queueStep s (s.takeRequest p kind roles n d turned owner) := by
  unfold State.takeRequest
  (repeat' split)
  · exact .of_cq_eq (by simp)
  · exact .of_cq_eq (by simp)
  · exact ho.congr rfl (by simp)

theorem takeKind_queueSteps (p : Port) (kind : Byte) (d : List Byte) :
    queueSteps (takeKind p kind d) := by
  unfold takeKind
  split <;> intro s
  · exact .of_takeRequest (ownOnline_queueStep d s) ..
  · exact .of_takeRequest (ownMachine_queueStep d s) ..
  · exact .of_takeRequest (ownGrade_queueStep d s) ..
  · exact .of_takeRequest (owner := ownLevels d) (.taken (headTaken.refl s)) ..
  · exact .of_takeRequest (ownOrigin_queueStep d s) ..
  · exact .of_takeRequest (ownArm_queueStep d s) ..
  · exact .of_takeRequest (owner := ownSyncTime d) (.of_cq_eq rfl) ..
  · exact .of_takeRequest (ownJogLock_queueStep d s) ..
  · exact .of_takeRequest (ownTraverse_queueStep d s) ..
  · exact .of_takeRequest (ownOpen_queueStep d s) ..
  · exact .of_takeRequest (ownLine_queueStep d s) ..
  · exact .of_takeRequest (ownArc_queueStep d s) ..
  · exact .of_takeRequest (ownRun_queueStep d s) ..
  · exact .of_takeRequest (owner := ownPauseAfter d) (.of_cq_eq s.pauseRun_cq) ..
  · exact .of_takeRequest (ownFlush_queueStep d s) ..
  · exact .of_takeRequest (ownResetCut_queueStep d s) ..
  · exact .of_takeRequest (ownClearFault_queueStep d s) ..
  · exact .of_takeRequest (owner := ownHold p d) (.of_cq_eq (s.addHold_cq p)) ..
  · exact .of_takeRequest (owner := ownRelease p d) (.of_cq_eq (s.changeHolds_cq _)) ..
  · exact .of_takeRequest (ownBladeState_queueStep d s) ..
  · exact .of_takeRequest (ownOffset_queueStep d s) ..
  · exact .of_takeRequest (owner := ownOverride d) (.of_cq_eq (s.setOverride_cq _)) ..
  · exact .of_takeRequest (ownJogStart_queueStep d s) ..
  · exact .of_takeRequest (ownJogKeep_queueStep d s) ..
  · exact .of_takeRequest (ownJogEnd_queueStep d s) ..
  · exact .of_takeRequest (owner := ownProgress d) (.of_cq_eq rfl) ..
  · exact .of_takeRequest (owner := ownStatus d) (.of_cq_eq (by rw [ownStatus_state])) ..
  · exact .of_takeRequest (owner := ownStroke d) (.of_cq_eq rfl) ..
  · exact .of_takeRequest (owner := ownReadGrade d) (.of_cq_eq (by rw [ownReadGrade_state])) ..
  · exact .of_takeRequest (owner := ownReadPort d) (.of_cq_eq (by rw [ownReadPort_state])) ..
  · exact .of_takeRequest (owner := ownSetBaud p d) (.of_cq_eq (s.onPort_cq p _)) ..
  · exact .of_cq_eq (s.busy_cq p _ _)

/-- A request command takes the telegram of its kind. -/
theorem queueStep.of_request {p : Port} {kind : Byte} {d : List Byte} {s t : State}
    (h : (clocked s fun s => s.arrive p (telegram kind d) (takeKind p kind d)) = .next t) :
    queueStep s t :=
  .of_clocked h fun u => .of_arrive (takeKind_queueSteps p kind d) u p _

/-! ### The commands and the block's own step -/

theorem exec_queueStep (i : Instr) {s t : State} (h : exec i s = .next t) : queueStep s t := by
  cases i with
  | powerOn straps lines => cases h; exact .reset rfl
  | resetn straps lines => cases h; exact .reset rfl
  | online p d => exact .of_request (kind := 0x01) h
  | setMachine p d => exact .of_request (kind := 0x02) h
  | setGrade p d => exact .of_request (kind := 0x03) h
  | setLevels p d => exact .of_request (kind := 0x04) h
  | setOrigin p d => exact .of_request (kind := 0x05) h
  | armSupervision p d => exact .of_request (kind := 0x06) h
  | syncTime p d => exact .of_request (kind := 0x07) h
  | setJogLock p d => exact .of_request (kind := 0x08) h
  | queueTraverse p d => exact .of_request (kind := 0x10) h
  | queueOpen p d => exact .of_request (kind := 0x11) h
  | queueLine p d => exact .of_request (kind := 0x12) h
  | queueArc p d => exact .of_request (kind := 0x13) h
  | run p d => exact .of_request (kind := 0x14) h
  | pauseAfter p d => exact .of_request (kind := 0x15) h
  | flush p d => exact .of_request (kind := 0x16) h
  | resetCut p d => exact .of_request (kind := 0x17) h
  | clearFault p d => exact .of_request (kind := 0x18) h
  | hold p d => exact .of_request (kind := 0x19) h
  | release p d => exact .of_request (kind := 0x1A) h
  | bladeState p d => exact .of_request (kind := 0x1B) h
  | setBladeOffset p d => exact .of_request (kind := 0x1C) h
  | setOverride p d => exact .of_request (kind := 0x1D) h
  | jogStart p d => exact .of_request (kind := 0x1E) h
  | jogKeep p d => exact .of_request (kind := 0x1F) h
  | jogEnd p d => exact .of_request (kind := 0x20) h
  | readProgress p d => exact .of_request (kind := 0x21) h
  | readStatus p d => exact .of_request (kind := 0x22) h
  | readStroke p d => exact .of_request (kind := 0x23) h
  | readGrade p d => exact .of_request (kind := 0x24) h
  | readPort p d => exact .of_request (kind := 0x25) h
  | setBaud p d => exact .of_request (kind := 0x27) h
  | checkDiscard p chars =>
    refine .of_clocked (show execCheckDiscard p chars s = _ from h) fun u => ?_
    split
    · exact .of_arrive (fun v => .of_cq_eq (v.onPort_cq p _)) u p chars
    · exact .of_cq_eq rfl
  | unknownKindTelegram p kind d =>
    refine .of_clocked (show execUnknownKindTelegram p kind d s = _ from h) fun u => ?_
    split
    · exact .of_cq_eq rfl
    · exact .of_arrive (fun v => .of_cq_eq (v.busy_cq p _ _)) u p _
  | replyWrite p =>
    exact .of_clocked (show execReplyWrite p s = _ from h) fun u => .of_cq_eq (u.replyWrite_cq p)
  | noticeBuild p =>
    exact .of_clocked (show execNoticeBuild p s = _ from h) fun u => .of_cq_eq (u.noticeBuild_cq p)
  | baudSwitch p =>
    exact .of_clocked (show execBaudSwitch p s = _ from h) fun u => .of_cq_eq (u.onPort_cq p _)
  | guardEnd p =>
    exact .of_clocked (show execGuardEnd p s = _ from h) fun u => .of_cq_eq (u.onPort_cq p _)
  | rxCharacter p value mark stop noise =>
    exact .of_clocked (show execRxCharacter p value mark stop noise s = _ from h) fun u =>
      .of_cq_eq (by split <;> simp)
  | breakFound p =>
    exact .of_clocked (show execBreak p s = _ from h) fun u => .of_cq_eq (by split <;> simp)
  | assemblerTake p =>
    exact .of_clocked (show execAssemblerTake p s = _ from h) fun u => .of_cq_eq (u.onPort_cq p _)
  | gapExpiry p =>
    exact .of_clocked (show execGapExpiry p s = _ from h) fun u => .of_cq_eq (u.onPort_cq p _)
  | feedPeriodExpiry =>
    exact .of_clocked (show execFeedPeriodExpiry s = _ from h) fun u =>
      .taken (headTaken.refl u).feedPeriod
  | dispatch =>
    refine .of_clocked (show execDispatch s = _ from h) fun u => .taken ?_
    split
    · exact (headTaken.refl u).dispatchNow
    · exact headTaken.refl u
  | openTake =>
    exact .of_clocked (show execOpenTake s = _ from h) fun u => .taken (headTaken.refl u).openTake
  | starvedResume =>
    exact .of_clocked (show execStarvedResume s = _ from h) fun u =>
      .taken (headTaken.refl u).starvedResume
  | crankEdge onA onB =>
    refine .of_clocked (show execCrankEdge onA onB s = _ from h) fun u => .taken ?_
    split
    · exact (headTaken.refl u).crankEdge onA onB
    · exact headTaken.refl u
  | crankIndex =>
    exact .of_clocked (show execCrankIndex s = _ from h) fun u =>
      .taken (headTaken.refl u).crankIndex
  | slowOverdue =>
    exact .of_clocked (show execSlowOverdue s = _ from h) fun u => .of_cq_eq u.slowOverdue_cq
  | holdnFall =>
    exact .of_clocked (show execHoldnFall s = _ from h) fun u => .of_cq_eq (by split <;> simp)
  | holdnRise =>
    exact .of_clocked (show execHoldnRise s = _ from h) fun u => .of_cq_eq (by split <;> simp)
  | stallTimeout =>
    exact .of_clocked (show execStallTimeout s = _ from h) fun u =>
      .taken (headTaken.refl u).stallTimeout
  | windowExpiry =>
    exact .of_clocked (show execWindowExpiry s = _ from h) fun u => .of_cq_eq u.expireWindow_cq
  | stopLimitExpiry =>
    exact .of_clocked (show execStopLimitExpiry s = _ from h) fun u =>
      .taken (headTaken.refl u).stopLimit
  | clockLossFound => cases h; exact .of_cq_eq (by split <;> simp)
  | clockReturn => cases h; exact .taken (headTaken.refl s).clockReturned
  | characterSent p =>
    exact .of_clocked (show execCharacterSent p s = _ from h) fun u => .of_cq_eq (u.onPort_cq p _)
  | startBitVerify p s3 s5 s7 =>
    exact .of_clocked (show execStartBitVerify p s3 s5 s7 s = _ from h) fun u =>
      .of_cq_eq (by (repeat' split) <;> simp)
  | lowPhaseReturn p =>
    exact .of_clocked (show execLowPhaseReturn p s = _ from h) fun u =>
      .of_cq_eq (by split <;> simp)
  | breakPhaseEnd p =>
    exact .of_clocked (show execBreakPhaseEnd p s = _ from h) fun u => .of_cq_eq (by split <;> simp)
  | stepSlot axis =>
    exact .of_clocked (show execStepSlot axis s = _ from h) fun u => .of_cq_eq rfl

theorem takeSlot_queueStep (p : Port) (s : State) : queueStep s (s.takeSlot p) := by
  have htelegram (chars : List Byte) (u : State) : queueStep u (u.takeTelegram p chars) := by
    unfold State.takeTelegram
    split
    · exact .of_cq_eq (u.onPort_cq p _)
    · exact takeKind_queueSteps p _ _ u
  unfold State.takeSlot
  (repeat' split)
  · exact .of_cq_eq rfl
  · exact (htelegram _ _).congr (by simp) rfl
  · exact .of_cq_eq rfl

theorem Due.act_queueStep (d : Due) (s : State) : queueStep s (d.act s) := by
  cases d with
  | reply p => exact .of_cq_eq (s.replyWrite_cq p)
  | notice p => exact .of_cq_eq (s.noticeBuild_cq p)
  | baud p => exact .of_cq_eq (s.onPort_cq p _)
  | gap p => exact .of_cq_eq (s.onPort_cq p _)
  | assemble p => exact .of_cq_eq (s.onPort_cq p _)
  | slot p => exact takeSlot_queueStep p s
  | dispatch => exact .taken (headTaken.refl s).dispatchNow
  | openTake => exact .taken (headTaken.refl s).openTake
  | resume => exact .taken (headTaken.refl s).starvedResume
  | stall => exact .taken (headTaken.refl s).stallTimeout
  | stopLimit => exact .taken (headTaken.refl s).stopLimit

theorem idle_queueStep (s : State) : queueStep s s.idle := by
  have hmonitor : queueStep s s.monitorPeriod := by
    unfold State.monitorPeriod
    (repeat' split) <;> exact .of_cq_eq (by simp)
  have hdue (due : List Due) : queueStep s (s.takeDue due) := by
    unfold State.takeDue
    split
    · exact .of_cq_eq rfl
    · exact Due.act_queueStep _ s
    · exact (Due.act_queueStep _ s.chosen).congr rfl rfl
  unfold State.idle
  (repeat' split)
  · exact hmonitor
  · exact .taken (headTaken.refl s).clockReturned
  · exact .taken (headTaken.refl s).cycle
  · exact hdue _

/-- What any step does to the queue: the front command or the block's own work. -/
theorem step_queueStep {s t : State} (h : step s = .next t) : queueStep s t := by
  unfold step at h
  split at h
  · cases h
    exact idle_queueStep s
  · exact (exec_queueStep _ h).congr rfl rfl

/-- Settles O57: every step takes entries from the head, appends one with the next number where
there is room, or empties the queue. -/
theorem queueKept : Obligations.QueueKept := by
  intro s t hs h
  exact (step_queueStep h).queueSafe hs

end Sys2Proof.Machine
end

section
/-! SUPPORT. Frames and notices: what `keptBut` asks of operations that only raise notices, and
which operations answer a change of FI's state, of the hold-reason set and of D with their notice
(R59, R63, R119). -/

namespace Sys2Proof.Machine

/-! ### Passes of R197 -/

/-- From `r` to `s` every pass of R197 goes on or ends. -/
def passesKept (r s : State) : Prop :=
  ∀ q, (s.port q).noticePass = (r.port q).noticePass ∨ (s.port q).noticePass = 0

theorem passesKept.refl (s : State) : passesKept s s := fun _ => .inl rfl

theorem passesKept.raise {r s : State} (h : passesKept r s) (p : Port) (k : Notice) :
    passesKept r (s.raise p k) := by
  intro q
  rw [State.raise_port]
  split
  · subst q
    rcases PortState.raise_pass (s.port p) k with hk | hk
    · rw [hk]; exact h p
    · exact .inr hk
  · exact h q

theorem passesKept.raiseAll {r s : State} (h : passesKept r s) (k : Notice) :
    passesKept r (s.raiseAll k) := ((h.raise .job k).raise .blade k).raise .panel k

theorem passesKept.enter {r s : State} (h : passesKept r s) (st : FiState) :
    passesKept r (s.enter st) := by
  unfold State.enter
  dsimp only
  split
  · exact h
  · refine passesKept.raiseAll ?_ _
    exact h

theorem passesKept.putHolds {r s : State} (h : passesKept r s) (x : HoldSet) :
    passesKept r (s.putHolds x) := by
  unfold State.putHolds
  split
  · exact h
  · refine passesKept.raiseAll ?_ _
    exact h

theorem passesKept.changeHolds {r s : State} (h : passesKept r s) (x : HoldSet) :
    passesKept r (s.changeHolds x) := by
  have hhold {u : State} (hu : passesKept r u) : passesKept r u.holdFeed := by
    unfold State.holdFeed
    split <;> first | exact hu.enter _ | exact hu
  have hresume {u : State} (hu : passesKept r u) : passesKept r u.resumeFeed := by
    unfold State.resumeFeed
    split
    · exact hu.enter _
    · exact passesKept.enter (s := { u with fi := { u.fi with v := 0 } }) hu _
    · exact hu
  unfold State.changeHolds
  (repeat' split)
  · exact hhold (h.putHolds x)
  · exact hresume (h.putHolds x)
  · exact h.putHolds x

theorem passesKept.setSlow {r s : State} (h : passesKept r s) (slow : Bool) (clearing : Nat) :
    passesKept r (s.setSlow slow clearing) := by
  unfold State.setSlow
  dsimp only
  split
  · exact h
  · refine passesKept.changeHolds ?_ _
    exact h

theorem passesKept.recomputeDemand {r s : State} (h : passesKept r s) :
    passesKept r s.recomputeDemand := by
  unfold State.recomputeDemand
  split
  · exact h
  · refine passesKept.raise ?_ _ _
    exact h

theorem passesKept.dropHead {r s : State} (h : passesKept r s) : passesKept r s.dropHead := by
  unfold State.dropHead
  dsimp only
  split
  · refine passesKept.raise ?_ _ _
    exact h
  · exact h

theorem passesKept.takeEntry {r s : State} (h : passesKept r s) (e : Entry) :
    passesKept r (s.takeEntry e) :=
  passesKept.recomputeDemand (s := s.dropHead.makeActive e) h.dropHead

theorem passesKept.releaseContour {r s : State} (h : passesKept r s) :
    passesKept r s.releaseContour := by
  unfold State.releaseContour
  split
  · exact h
  · refine passesKept.putHolds ?_ _
    exact h

theorem passesKept.flush {r s : State} (h : passesKept r s) : passesKept r s.flush := by
  unfold State.flush
  refine passesKept.recomputeDemand (passesKept.releaseContour ?_)
  exact h

theorem passesKept.endStop {r s : State} (h : passesKept r s) : passesKept r s.endStop := by
  have hlower : passesKept r (s.enter .stopped).lowerPermit := by
    rw [State.lowerPermit_rest]
    exact h.enter .stopped
  unfold State.endStop
  refine passesKept.flush ?_
  exact hlower

/-! ### Frames -/

/-- What a port keeps beside its notices is its line and its request. -/
theorem PortState.silent_eq_of_line {q u : PortState} (hl : u.line = q.line)
    (hr : u.request = q.request) : u.silent = q.silent := by
  have h (v : PortState) : v.silent = { v.line with request := v.request } := rfl
  rw [h, h, hl, hr]

/-- The frame of an operation that only raises notices. -/
theorem keptBut_of_onlyNotices {touched : List Block} {s t : State} (ho : onlyNotices s t)
    (hp : passesKept s t) (hb : ∀ b, b ∉ touched → b ≠ .ports → b.same s t) :
    keptBut touched s t := by
  refine ⟨fun b h => ?_, fun q => ⟨ho.2.2 q, hp q⟩⟩
  by_cases hports : b = .ports
  · subst hports
    exact fun q => PortState.silent_eq_of_line (ho.2.1 q) (ho.1 q)
  · exact hb b h hports

theorem Block.same_busy {b : Block} {s t : State} (hp : b ≠ .ports) (hn : b ≠ .notices)
    (h : b.same s t) (p : Port) (kind : Byte) (r : Reply) : b.same s (t.busy p kind r) := by
  cases b <;> simp_all [Block.same]

/-- The frame of an answered request whose owner only raises notices: the handler's pass ends
(R197). -/
theorem keptBut_busy {touched : List Block} {s t : State} (ho : onlyNotices s t)
    (hp : passesKept s t) (hports : .ports ∈ touched) (hn : .notices ∈ touched)
    (hb : ∀ b, b ∉ touched → b.same s t) (p : Port) (kind : Byte) (r : Reply) :
    keptBut touched s (t.busy p kind r) := by
  refine ⟨fun b h => ?_, fun q => ⟨fun k hk => ?_, ?_⟩⟩
  · exact Block.same_busy (by rintro rfl; exact h hports) (by rintro rfl; exact h hn) (hb b h)
      p kind r
  · rw [State.busy_notices]
    exact ho.2.2 q k hk
  · by_cases hq : q = p
    · exact .inr (by simp [hq, State.busy])
    · rw [State.busy, State.setPort_port_ne _ _ hq]
      exact hp q

/-! ### STATE, DEMAND and REFILL pending -/

theorem stateNoticed.mono {s t u : State} (h : stateNoticed s t) (ho : onlyNotices t u)
    (hst : u.fi.st = t.fi.st) : stateNoticed s u := by
  rw [stateNoticed, hst]
  exact fun hc q => ho.2.2 q _ (h hc q)

theorem demandNoticed.mono {s t u : State} (h : demandNoticed s t) (ho : onlyNotices t u)
    (hd : u.fi.demand = t.fi.demand) : demandNoticed s u := by
  rw [demandNoticed, hd]
  exact fun hc => ho.2.2 _ _ (h hc)

theorem holdsNoticed.mono {s t u : State} (h : holdsNoticed s t) (ho : onlyNotices t u)
    (hh : u.hj.holds = t.hj.holds) : holdsNoticed s u := by
  rw [holdsNoticed, hh]
  exact fun hc q => ho.2.2 q _ (h hc q)

/-- FI's entering a state makes STATE pending where the state or the resume state changes (R63). -/
theorem stateNoticed_enter {s u : State} (hu : u.fi.st = s.fi.st) (st : FiState) :
    stateNoticed s (u.enter st) := by
  intro hc q
  rw [State.enter_fi] at hc
  have hne : ¬(st.code = u.fi.st.code ∧ st.resume = u.fi.st.resume) := by
    rw [hu]
    exact fun h => hc.elim (fun h1 => h1 h.1) (fun h2 => h2 h.2)
  simp [State.enter_has, hne]

/-- A recomputed D makes DEMAND pending where it changes (R59). -/
theorem demandNoticed_recomputeDemand {s u : State} (hu : u.fi.demand = s.fi.demand) :
    demandNoticed s u.recomputeDemand := by
  intro hc
  rw [State.recomputeDemand_fi] at hc
  have hne : u.demandNow ≠ u.fi.demand := by rw [hu]; exact hc
  simp [State.recomputeDemand_has, hne]

/-- A change of the set makes STATE pending everywhere (R119). -/
theorem holdsNoticed_putHolds {s u : State} (hu : u.hj.holds = s.hj.holds) (h : HoldSet) :
    holdsNoticed s (u.putHolds h) := by
  intro hc q
  rw [State.putHolds_hj] at hc
  have hne : h ≠ u.hj.holds := by rw [hu]; exact hc
  simp [State.putHolds_has, hne]

theorem stateNoticed.busy {s t : State} (h : stateNoticed s t) (p : Port) (kind : Byte)
    (r : Reply) : stateNoticed s (t.busy p kind r) := by simpa [stateNoticed] using h

theorem demandNoticed.busy {s t : State} (h : demandNoticed s t) (p : Port) (kind : Byte)
    (r : Reply) : demandNoticed s (t.busy p kind r) := by simpa [demandNoticed] using h

theorem holdsNoticed.busy {s t : State} (h : holdsNoticed s t) (p : Port) (kind : Byte)
    (r : Reply) : holdsNoticed s (t.busy p kind r) := by simpa [holdsNoticed] using h

end Sys2Proof.Machine
end

section
/-! SUPPORT. The flush of R20 and R90 and the end of the quick stop of R94, with the notices they
make pending; FLUSH (R21) and STOP_LIMIT_EXPIRY (R156). -/

namespace Sys2Proof.Machine

/-! ### The flush -/

theorem State.flush_cq_flushed (s : State) : s.flush.cq = s.cq.flushed s.fi := s.flush_cq

theorem State.flush_sd_released (s : State) : s.flush.sd = s.sd.released s.fi := s.flush_sd

theorem State.flush_hj_released (s : State) :
    s.flush.hj = { s.hj with holds := s.hj.holds.released s.fi } := by
  rw [State.flush_hj, HoldSet.released]
  split <;> rfl

theorem holdsNoticed_releaseContour {s u : State} (hu : u.hj.holds = s.hj.holds) :
    holdsNoticed s u.releaseContour := by
  unfold State.releaseContour
  split
  · exact fun hc => absurd hu hc
  · refine holdsNoticed_putHolds ?_ _
    exact hu

theorem holdsNoticed_flush {s u : State} (hu : u.hj.holds = s.hj.holds) :
    holdsNoticed s u.flush := by
  unfold State.flush
  refine (holdsNoticed_releaseContour ?_).mono (onlyNotices.refl _).recomputeDemand (by simp)
  exact hu

theorem demandNoticed_flush {s u : State} (hu : u.fi.demand = s.fi.demand) :
    demandNoticed s u.flush := by
  unfold State.flush
  exact demandNoticed_recomputeDemand (by simpa [State.releaseContour_fi] using hu)

/-! ### FLUSH -/

/-- FI after a flush that leaves it in IDLE (R90). -/
theorem State.flush_enter_idle_fi (s : State) : (s.flush.enter .idle).fi = s.fi.flushed .idle := by
  rw [State.enter_fi, State.flush_fi]
  rfl

theorem FiState.flushable_iff (st : FiState) :
    st.flushable = true ↔ st = .idle ∨ st = .priming ∨ st = .starved ∨ ∃ r, st = .held r := by
  cases st <;> simp [FiState.flushable]

/-- Settles O8: the flush and the entry of IDLE, each with its notices, or the refusal of R21. -/
theorem flushRequest : Obligations.FlushRequest := by
  intro s hs
  have hexec := exec_flush (d := []) hs (by simp [jobOnly]) rfl
  have honly : onlyNotices s (s.flush.enter .idle) := (onlyNotices.refl s).flush.enter _
  refine ⟨fun hst => ?_, fun ⟨hidle, hpriming, hstarved, hheld⟩ => ?_⟩
  · have hown : ownFlush [] s = (s.flush.enter .idle, accept [0]) := by
      rw [ownFlush, if_pos ((FiState.flushable_iff _).mpr hst), State.enter_cq, State.flush_cq]
      rfl
    rw [hown] at hexec
    refine ⟨_, hexec, ?_, ?_, ?_, ?_, ?_, ?_, ?_, ?_, ?_⟩
    · simpa using s.flush_cq_flushed
    · simpa using s.flush_enter_idle_fi
    · simpa using s.flush_sd_released
    · simpa using s.flush_hj_released
    · exact (stateNoticed_enter (by rw [State.flush_fi]) _).busy _ _ _
    · exact ((demandNoticed_flush rfl).mono ((onlyNotices.refl _).enter _)
        (by rw [State.enter_fi])).busy _ _ _
    · exact ((holdsNoticed_flush rfl).mono ((onlyNotices.refl _).enter _) (by simp)).busy _ _ _
    · exact answered_of_onlyNotices honly ..
    · refine keptBut_busy honly ((passesKept.refl s).flush.enter _) (by simp) (by simp) ?_ _ _ _
      intro b hb
      cases b <;> simp_all [Block.same]
  · have hst : s.fi.st.flushable = false := by
      rw [Bool.eq_false_iff, ne_eq, FiState.flushable_iff]
      rintro (h | h | h | ⟨r, h⟩)
      exacts [hidle h, hpriming h, hstarved h, hheld r h]
    rw [hexec, ownFlush, if_neg (by simp [hst])]

/-! ### STOP_LIMIT_EXPIRY -/

/-- The end of the quick stop leaves what R94 says (R20, R64, R145, R157). -/
theorem stoppedFrom_endStop (u : State) : stoppedFrom u u.endStop := by
  have hstopped : onlyNotices (u.enter .stopped) u.endStop := by
    unfold State.endStop
    refine onlyNotices.flush ?_
    exact (onlyNotices.refl _).lowerPermit
  refine ⟨u.endStop_fi, u.endStop_cq.trans (by rfl), ?_, ?_, u.endStop_sv, u.endStop_ap, ?_, ?_, ?_⟩
  · simp [State.endStop, State.flush_sd_released, State.enter_fi, Decoder.released]
  · simp [State.endStop, State.flush_hj_released, State.enter_fi, HoldSet.released]
  · exact (stateNoticed_enter rfl .stopped).mono hstopped
      (by simp [State.endStop_fi, State.enter_fi])
  · exact demandNoticed_flush (by simp [State.enter_fi])
  · exact holdsNoticed_flush (by simp)

/-- Settles O46: in STOPPING the end of the quick stop, with the stop timer at 100, else nothing. -/
theorem stopLimit : Obligations.StopLimit := by
  intro s hclk
  have hexec : exec .stopLimitExpiry s = .next s.stopLimit := clocked_run s _ hclk
  refine ⟨fun hst => ?_, fun m hst => ?_⟩
  · rw [hexec, State.stopLimit]
    split
    · rename_i m hm
      exact absurd hm (hst m)
    · rfl
  · have hstop : s.stopLimit =
        State.endStop { s with sv := { s.sv with stopTimer := 100 } } := by
      rw [State.stopLimit, hst]
    rw [hexec, hstop]
    refine ⟨_, rfl, stoppedFrom_endStop _, ?_⟩
    refine keptBut_of_onlyNotices ?_ ?_ ?_
    · exact onlyNotices.endStop (s := { s with sv := _ }) (onlyNotices.refl s)
    · exact passesKept.endStop (s := { s with sv := _ }) (passesKept.refl s)
    · intro b hb _
      cases b <;> simp_all [Block.same]

end Sys2Proof.Machine
end

section
/-! SUPPORT. What FI's takes from the head leave: the level, D and the notices (R15, R19, R58, R59);
DISPATCH (R77) and OPEN_TAKE (R78, R79). -/

namespace Sys2Proof.Machine

/-! ### D from its source (R57, R58) -/

theorem State.demandNow_eq_demandOf (s : State) :
    s.demandNow = s.demandOf s.fi.contour s.cq.entries := by
  unfold State.demandNow State.demandOf sourceDemand
  cases s.fi.contour with
  | some c => rfl
  | none =>
    cases s.cq.entries with
    | nil => rfl
    | cons e rest => obtain ⟨_, _, _, _, body⟩ := e; cases body <;> rfl

/-- D after the head has left and `e` is active. -/
theorem State.takeEntry_demand (s : State) (e : Entry) :
    (s.takeEntry e).fi.demand = s.demandOf s.fi.contour s.cq.entries.tail := by
  rw [State.takeEntry_fi, State.demandNow_eq_demandOf]
  simp [State.demandOf, State.dropHead_cq, State.makeActive]

theorem demandNoticed_takeEntry (s : State) (e : Entry) : demandNoticed s (s.takeEntry e) :=
  demandNoticed_recomputeDemand (by simp [State.makeActive])

/-! ### REFILL at the downward crossing (R19) -/

theorem refillNoticed.mono {s t u : State} (h : refillNoticed s t) (ho : onlyNotices t u)
    (hc : u.cq.entries = t.cq.entries) : refillNoticed s u := by
  rw [refillNoticed, hc]
  exact fun hlt hlevel => ho.2.2 _ _ (h hlt hlevel)

theorem refillNoticed_dropHead (s : State) : refillNoticed s s.dropHead := by
  intro hlt hlevel
  rw [State.dropHead_cq] at hlt hlevel
  simp only [List.length_tail] at hlt hlevel
  have hcross : s.cq.refill < s.cq.entries.length ∧ s.cq.entries.length - 1 ≤ s.cq.refill := by
    omega
  simp [State.dropHead_has, hcross]

theorem refillNoticed_takeEntry (s : State) (e : Entry) : refillNoticed s (s.takeEntry e) :=
  (refillNoticed_dropHead s).mono
    (onlyNotices.recomputeDemand (s := s.dropHead.makeActive e) (onlyNotices.refl _))
    (by simp [State.takeEntry])

theorem pendingAll.mono {t u : State} {k : Notice} (h : pendingAll t k) (ho : onlyNotices t u) :
    pendingAll u k := fun q => ho.2.2 q k (h q)

/-! ### DISPATCH -/

/-- Entering the state FI is in, where v is 0 already, changes nothing. -/
theorem State.enter_self {s : State} {st : FiState} (hst : s.fi.st = st) (hv : s.fi.v = 0) :
    s.enter st = s := by
  have hfi : ({ s.fi with st := st, v := if st.still then 0 else s.fi.v } : Interpolator) =
      s.fi := by
    rw [hv, ← hst, ite_self, ← hv]
  simp only [State.enter, hst, and_self, if_true, hfi]

/-- Without run-enable, with a hold reason or with nothing queued the dispatch leaves FI in IDLE
(R77). -/
theorem State.dispatchNow_idle {s : State}
    (h : s.fi.runEnable = false ∨ s.hj.holds.any = true ∨ s.cq.entries = []) :
    s.dispatchNow = s.enter .idle := by
  unfold State.dispatchNow
  split
  · rename_i hrun
    have hq : s.cq.entries = [] := by
      rcases h with h | h | h
      · simp [h] at hrun
      · simp [h] at hrun
      · exact h
    rw [hq]
  · rfl

section Dispatched

variable {s : State} {e : Entry} {rest : List Entry} (hrun : s.fi.runEnable = true)
  (hholds : s.hj.holds.any = false) (hq : s.cq.entries = e :: rest)

include hrun hholds hq

theorem State.dispatchNow_opening (hk : e.kind = .opening) : s.dispatchNow = s.enter .priming := by
  simp [State.dispatchNow, hrun, hholds, hq, hk]

theorem State.dispatchNow_traverse (hk : e.kind = .traverse) :
    s.dispatchNow = State.enter
      { s.takeEntry e with fi := { (s.takeEntry e).fi with v := 0 } } .traversing := by
  simp [State.dispatchNow, hrun, hholds, hq, hk]

end Dispatched

/-- Settles O39: the three conditions of R77, and what the take of a TRAVERSE leaves. -/
theorem dispatch : Obligations.Dispatch := by
  intro s hclk
  have hexec : exec .dispatch s = .next (if s.fi.st = .idle then s.dispatchNow else s) :=
    clocked_run s _ hclk
  refine ⟨fun hnone => ?_, fun e rest hst hrun hholds hq => ?_⟩
  · rw [hexec]
    split
    · rename_i hst
      obtain hne | ⟨hv, hstays⟩ := hnone
      · exact absurd hst hne
      · rw [State.dispatchNow_idle hstays, State.enter_self hst hv]
    · rfl
  rw [hexec, if_pos hst]
  refine ⟨fun hk => ?_, fun hk => ?_⟩
  · rw [State.dispatchNow_opening hrun hholds hq hk]
    refine ⟨_, rfl, State.enter_fi s _,
      State.enter_pendingAll s _ (by simp [hst, FiState.code]), ?_⟩
    refine keptBut_of_onlyNotices ((onlyNotices.refl s).enter _) ((passesKept.refl s).enter _) ?_
    intro b hb _
    cases b <;> simp_all [Block.same]
  · rw [State.dispatchNow_traverse hrun hholds hq hk]
    set u : State := { s.takeEntry e with fi := { (s.takeEntry e).fi with v := 0 } } with hu
    have hentered : onlyNotices u (u.enter .traversing) := (onlyNotices.refl u).enter _
    have hfi : u.fi = { (s.takeEntry e).fi with v := 0 } := rfl
    have hcq : u.cq = { s.cq with entries := rest } :=
      (State.takeEntry_cq s e).trans (by rw [hq]; rfl)
    have hdemand : u.fi.demand = s.demandOf s.fi.contour rest :=
      (State.takeEntry_demand s e).trans (by rw [hq]; rfl)
    refine ⟨_, rfl, ?_, ?_, State.enter_pendingAll u _ ?_, ?_, ?_, ?_⟩
    · rw [State.enter_fi, ← hdemand, hfi, State.takeEntry_fi]
      rfl
    · rw [State.enter_cq, hcq]
    · simp [hfi, State.takeEntry_fi, hst, FiState.code]
    · exact demandNoticed.mono (t := u) (demandNoticed_takeEntry s e) hentered
        (by rw [State.enter_fi])
    · exact refillNoticed.mono (t := u) (refillNoticed_takeEntry s e) hentered (by simp)
    · refine keptBut_of_onlyNotices ?_ ?_ ?_
      · exact onlyNotices.enter (s := u) ((onlyNotices.refl s).takeEntry e) _
      · exact passesKept.enter (s := u) ((passesKept.refl s).takeEntry e) _
      · intro b hb _
        cases b <;> simp_all [Block.same]

end Sys2Proof.Machine
end

section
/-! SUPPORT. OPEN_TAKE (R78, R79): its conditions, what FI and SD hold right after the take, and the
overdue test that may raise SLOW at once (R112, R114, R116). -/

namespace Sys2Proof.Machine

/-! ### The conditions of R78 -/

theorem ContourQueue.primed_iff (q : ContourQueue) :
    q.primed = true ↔ q.prime ≤ q.entries.length ∨ ∃ e ∈ q.entries, e.endMark = true := by
  simp [ContourQueue.primed]

theorem usablePeriod_iff (period : Option Nat) :
    usablePeriod period = true ↔ ∃ p, period = some p ∧ p ≤ 50000 := by
  cases period <;> simp [usablePeriod]

theorem State.openReady_iff (s : State) :
    s.openReady = true ↔ s.fi.st = .priming ∧
      (s.cq.prime ≤ s.cq.entries.length ∨ ∃ e ∈ s.cq.entries, e.endMark = true) ∧
      s.sd.running = true ∧ (∃ p, s.sd.period = some p ∧ p ≤ 50000) ∧ s.hj.holds.any = false ∧
      s.fi.runEnable = true := by
  simp only [State.openReady, Bool.and_eq_true, decide_eq_true_eq, ContourQueue.primed_iff,
    usablePeriod_iff, Bool.not_eq_true', and_assoc]

/-! ### The take -/

/-- The state right after the take of an OPEN, before the overdue test of R116. -/
def State.openTaken (s : State) (e : Entry) (c : Contour) : State :=
  let s1 := s.dropHead.makeActive e
  let s2 : State := { s1 with
    fi := { s1.fi with contour := some c, strokes := 0 }
    sd := { s1.sd with stallTimer := 0, slow := false, clearing := 0 } }
  s2.recomputeDemand.enter .pivotEntry

theorem State.takeOpen_eq (s : State) (e : Entry) (c : Contour) :
    s.takeOpen e c =
      if (s.openTaken e c).overdue then (s.openTaken e c).raiseSlow else s.openTaken e c := rfl

/-- With an OPEN that names a VALID record at the head the take waits for the conditions of R78
alone. -/
theorem State.openTake_eq {s : State} {e : Entry} {rest : List Entry} {g target : Nat}
    {tag : Word16} {r : Grade} (hq : s.cq.entries = e :: rest) (hbody : e.body = .opening g target tag)
    (hg : s.gt.grades[g]? = some (some r)) :
    s.openTake = if s.openReady then
      s.takeOpen e { index := g, grade := r, fTarget := target, offset := s.gt.offset, tag := tag }
    else s := by
  simp only [State.openTake, hq, hbody, hg]

section Taken

variable (s : State) (e : Entry) (c : Contour)

theorem State.openTaken_fi (hopen : e.entryHeading = none) :
    (s.openTaken e c).fi = { s.fi with
      st := .pivotEntry, v := 0, active := some e, done := 0, contour := some c, strokes := 0
      demand := strokeDemand c.grade (c.fTarget * s.hj.override / 100) } := by
  simp [State.openTaken, State.enter_fi, State.recomputeDemand_fi, State.makeActive,
    State.demandNow, withOverride, hopen, FiState.still]

theorem State.openTaken_sd :
    (s.openTaken e c).sd = { s.sd with stallTimer := 0, slow := false, clearing := 0 } := by
  simp [State.openTaken]

theorem State.openTaken_cq :
    (s.openTaken e c).cq = { s.cq with entries := s.cq.entries.tail } := by
  simp [State.openTaken, State.dropHead_cq]

theorem State.openTaken_hj : (s.openTaken e c).hj = s.hj := by simp [State.openTaken]

theorem onlyNotices_openTaken : onlyNotices s (s.openTaken e c) := by
  unfold State.openTaken
  refine (onlyNotices.recomputeDemand ?_).enter _
  exact (onlyNotices.refl s).dropHead

theorem passesKept_openTaken : passesKept s (s.openTaken e c) := by
  unfold State.openTaken
  refine (passesKept.recomputeDemand ?_).enter _
  exact (passesKept.refl s).dropHead

theorem pendingAll_openTaken (hst : s.fi.st = .priming) :
    pendingAll (s.openTaken e c) .state := by
  unfold State.openTaken
  exact State.enter_pendingAll _ _
    (by simp [State.recomputeDemand_fi, State.makeActive, hst, FiState.code])

theorem demandNoticed_openTaken : demandNoticed s (s.openTaken e c) := by
  unfold State.openTaken
  refine demandNoticed.mono (demandNoticed_recomputeDemand ?_) ((onlyNotices.refl _).enter _) ?_
  · simp [State.makeActive]
  · rw [State.enter_fi]

theorem refillNoticed_openTaken : refillNoticed s (s.openTaken e c) := by
  refine (refillNoticed_dropHead s).mono ?_ (by rw [State.openTaken_cq, State.dropHead_cq])
  unfold State.openTaken
  refine (onlyNotices.recomputeDemand ?_).enter _
  exact onlyNotices.refl s.dropHead

/-- The frame of the take, whatever the overdue test then does. -/
theorem Block.same_openTaken {b : Block} (hb : b ∉ [Block.cq, .fi, .sd, .notices])
    (hports : b ≠ .ports) : b.same s (s.openTaken e c) := by
  cases b <;> simp_all [Block.same, State.openTaken]

/-- The overdue test of R114 right after the take. -/
theorem State.openTaken_overdue (hopen : e.entryHeading = none) :
    (s.openTaken e c).overdue = decide (60000000 < s.sd.indexAge * c.grade.minSpm) := by
  simp only [State.overdue, State.openTaken_fi s e c hopen, State.openTaken_sd]

end Taken

/-! ### SLOW raised at the take (R86, R116, R122) -/

section Slow

variable {u : State} (hslow : u.sd.slow = false)

include hslow

theorem State.raiseSlow_eq :
    u.raiseSlow = State.changeHolds { u with sd := { u.sd with slow := true, clearing := 0 } }
      { u.hj.holds with slow := true } := by
  simp [State.raiseSlow, State.setSlow, hslow]

theorem State.raiseSlow_hj :
    u.raiseSlow.hj = { u.hj with holds := { u.hj.holds with slow := true } } := by
  rw [State.raiseSlow_eq hslow, State.changeHolds_hj]

theorem State.raiseSlow_sd : u.raiseSlow.sd = { u.sd with slow := true, clearing := 0 } := by
  rw [State.raiseSlow_eq hslow, State.changeHolds_sd]

/-- In ENTRY the first hold reason holds FI there (R86). -/
theorem State.raiseSlow_fi_pivotEntry (hst : u.fi.st = .pivotEntry)
    (hholds : u.hj.holds.any = false) :
    u.raiseSlow.fi = { u.fi with st := .held .pivotEntry, v := 0 } := by
  have hany : ({ u.hj.holds with slow := true } : HoldSet).any = true := by simp [HoldSet.any]
  rw [State.raiseSlow_eq hslow, State.changeHolds_fi, if_pos ⟨hholds, hany⟩, State.holdFeed]
  simp [hst, State.enter_fi, FiState.still]

end Slow

theorem onlyNotices_raiseSlow (u : State) : onlyNotices u u.raiseSlow :=
  (onlyNotices.refl u).setSlow _ _

/-- Settles O40: under the conditions of R78 the OPEN is taken, and held at once by an overdue
blade; otherwise the state stays. -/
theorem openTake : Obligations.OpenTake := by
  intro s e rest g target tag r hclk hq hbody hg primed usable taken
  have hexec : exec .openTake s = .next s.openTake := clocked_run s _ hclk
  rw [hexec, State.openTake_eq hq hbody hg]
  have hopen : e.entryHeading = none := by simp [Entry.entryHeading, hbody]
  set c : Contour :=
    { index := g, grade := r, fTarget := target, offset := s.gt.offset, tag := tag }
  set u := s.openTaken e c with hu
  have hoverdue : u.overdue = decide (60000000 < s.sd.indexAge * r.minSpm) :=
    State.openTaken_overdue s e c hopen
  have hfi : u.fi = { taken with st := .pivotEntry } := State.openTaken_fi s e c hopen
  have hsd := State.openTaken_sd s e c
  have hhj := State.openTaken_hj s e c
  have hcq : u.cq = { s.cq with entries := rest } :=
    (State.openTaken_cq s e c).trans (by rw [hq]; rfl)
  refine ⟨fun hst hprimed hrunning husable hholds hrun => ?_, fun hmissing => ?_⟩
  · have hready := (State.openReady_iff s).mpr ⟨hst, hprimed, hrunning, husable, hholds, hrun⟩
    have hstate := pendingAll_openTaken s e c hst
    have hdemand := demandNoticed_openTaken s e c
    have hrefill := refillNoticed_openTaken s e c
    rw [if_pos hready, State.takeOpen_eq, ← hu, hoverdue]
    refine ⟨fun hage => ?_, fun hage => ?_⟩
    · rw [if_neg (by simpa using hage)]
      exact ⟨u, rfl, hfi, hsd, hhj, hcq, hstate, hdemand, hrefill,
        keptBut_of_onlyNotices (onlyNotices_openTaken s e c) (passesKept_openTaken s e c)
          fun b hb hports => Block.same_openTaken s e c hb hports⟩
    · rw [if_pos (by simpa using hage)]
      have hslow : u.sd.slow = false := by rw [hsd]
      have honly := onlyNotices_raiseSlow u
      have hheld : u.raiseSlow.fi = { taken with st := .held .pivotEntry } := by
        rw [State.raiseSlow_fi_pivotEntry hslow (by rw [hfi]) (by rw [hhj, hholds]), hfi]
      refine ⟨u.raiseSlow, rfl, hheld, ?_, ?_, ?_, hstate.mono honly, ?_, ?_, ?_⟩
      · rw [State.raiseSlow_sd hslow, hsd]
      · rw [State.raiseSlow_hj hslow, hhj]
      · rw [State.raiseSlow_cq, hcq]
      · exact hdemand.mono honly (by rw [hheld, hfi])
      · exact hrefill.mono honly (by rw [State.raiseSlow_cq])
      · refine keptBut_of_onlyNotices ((onlyNotices_openTaken s e c).setSlow _ _)
          ((passesKept_openTaken s e c).setSlow _ _) fun b hb hports => ?_
        have hsame := Block.same_openTaken s e c (b := b) (by simp_all) hports
        cases b <;> simp_all [Block.same]
  · rw [if_neg]
    rw [State.openReady_iff]
    rintro ⟨hst, hprimed, hrunning, husable, hholds, hrun⟩
    rcases hmissing with h | h | h | h | h | h
    · exact h hst
    · exact h hprimed
    · simp [hrunning] at h
    · exact h husable
    · simp [hholds] at h
    · simp [hrun] at h

end Sys2Proof.Machine
end

section
/-! SUPPORT. Resets (R25, R40, R97, R102, R118, R138, R151, R160, R168, R171, R185, R199) and the
job port's small requests (R17, R99, R130, R160). -/

namespace Sys2Proof.Machine

/-! ### Resets -/

/-- Settles O4, field by field of the reset state. -/
theorem resetValues : Obligations.ResetValues := by
  refine ⟨by decide, by decide, by decide, by decide, ?filters, by decide, by decide, by decide,
    by decide, by decide, ?ports⟩
  case filters =>
    intro f level h
    simp only [List.mem_cons, List.not_mem_nil, or_false, Prod.mk.injEq] at h
    rcases h with ⟨rfl, rfl⟩ | ⟨rfl, rfl⟩ | ⟨rfl, rfl⟩ | ⟨rfl, rfl⟩ <;> decide
  case ports =>
    have hnone (k : Notice) : (PortState.reset 8).notices.has k = false := by cases k <;> rfl
    intro p
    have hport : State.reset.port p = PortState.reset 8 := by cases p <;> rfl
    rw [hport]
    exact ⟨by decide, by decide, by decide, by decide, rfl, rfl, hnone⟩

/-- A reset leaves the values of the tables with the arm latch it is given. -/
theorem State.afterReset_atReset (s : State) (straps : Straps) (lines : Lines)
    (armed clkin : Bool) : atReset straps lines armed (s.afterReset straps lines armed clkin) := by
  have hport (p : Port) : (s.afterReset straps lines armed clkin).port p =
      PortState.reset (initialDivisor straps.baudsel1 straps.baudsel0) := by cases p <;> rfl
  refine ⟨rfl, rfl, rfl, rfl, rfl, rfl, rfl, rfl, fun p => (hport p).trans ?_⟩
  obtain ⟨supv, baudsel1, baudsel0⟩ := straps
  cases baudsel1 <;> cases baudsel0 <;> rfl

/-- Settles O5: POWER_ON and RESETN are one reset with their own arm latch. -/
theorem resetCommands : Obligations.ResetCommands := by
  intro straps lines s
  exact ⟨⟨_, rfl, s.afterReset_atReset straps lines _ _⟩,
    ⟨_, rfl, s.afterReset_atReset straps lines _ _⟩⟩

/-- Settles O56: each invariant at the reset state. -/
theorem invariantsAtReset : Obligations.InvariantsAtReset := by
  have hqueue : State.reset.queueSafe := ⟨by decide, trivial⟩
  have hpermit : State.reset.permitSafe := ⟨by decide, by decide, by decide, by decide⟩
  have hdrives : State.reset.drivesSafe := fun _ => ⟨by decide, by decide, by decide⟩
  have hjog : State.reset.jogSafe := ⟨by decide, fun h => absurd rfl h⟩
  exact ⟨hqueue, hpermit, hdrives, hjog⟩

/-! ### ARM_SUPERVISION, SYNC_TIME, SET_JOG_LOCK, SET_LEVELS -/

theorem ownArm_disarmed {s : State} (h : s.sv.armed = false) (d : List Byte) :
    ownArm d s = ({ s with sv := { s.sv with armed := true, monitor := .watching, missed := 0 } },
      accept [1]) := by
  rw [ownArm, if_neg (by simp [h])]
  rfl

theorem ownArm_armed {s : State} (h : s.sv.armed = true) (d : List Byte) :
    ownArm d s = (s, accept [1]) := by
  rw [ownArm, if_pos h]
  rfl

theorem ownJogLock_accepts {b : Byte} (hb : b.toNat ≤ 1) (s : State) :
    ownJogLock [b] s = ({ s with hj := { s.hj with lock := decide (b = 1) } }, accept [b]) := by
  have hcases : b = 0 ∨ b = 1 := by
    have h : b.toNat = 0 ∨ b.toNat = 1 := by omega
    exact h.imp (fun h => BitVec.eq_of_toNat_eq h) (fun h => BitVec.eq_of_toNat_eq h)
  rcases hcases with rfl | rfl <;> rfl

theorem ownJogLock_refuses {b : Byte} (hb : 1 < b.toNat) (s : State) :
    ownJogLock [b] s = (s, refuse .unknownKind) := by
  rw [ownJogLock, field_byte, if_pos hb]

/-- A clamp as the three cases of its value. -/
theorem clampTo_eq {lo hi : Nat} (h : lo ≤ hi) (v : Nat) :
    clampTo lo hi v = if v < lo then lo else if hi < v then hi else v := by
  unfold clampTo
  split
  · omega
  split <;> omega

theorem ownLevels_eq (prime refill : Byte) (s : State) :
    ownLevels [prime, refill] s =
      (let prime' := if prime.toNat < 1 then 1 else if 48 < prime.toNat then 48 else prime.toNat
       let refill' := if 47 < refill.toNat then 47 else refill.toNat
       ({ s with cq := { s.cq with prime := prime', refill := refill' } },
        acceptFlags (clampedIf (decide (prime' ≠ prime.toNat ∨ refill' ≠ refill.toNat)))
          (natBytes 1 prime' ++ natBytes 1 refill'))) := by
  have hrefill : min 47 refill.toNat = if 47 < refill.toNat then 47 else refill.toNat := by
    split <;> omega
  simp only [ownLevels, field_byte, field_cons, clampTo_eq (show 1 ≤ 48 by decide), hrefill]

/-- Settles O11: each of the four owners, with its answer. -/
theorem armSyncLockLevels : Obligations.ArmSyncLockLevels := by
  intro s b prime refill hs prime' refill'
  have hjob : Port.job ∈ jobOnly := by simp [jobOnly]
  have harm := exec_armSupervision (d := []) hs hjob rfl
  have hlock := exec_setJogLock (d := [b]) hs hjob rfl
  refine ⟨fun h => ?_, fun h => ?_, exec_syncTime hs hjob rfl, fun h => ?_, fun h => ?_, ?_⟩
  · rw [harm, ownArm_disarmed h]
  · rw [harm, ownArm_armed h]
  · rw [hlock, ownJogLock_accepts h]
  · rw [hlock, ownJogLock_refuses h]
  · rw [exec_setLevels hs hjob rfl, ownLevels_eq]

end Sys2Proof.Machine
end

section
/-! SUPPORT. The payloads of the queue requests and of SET_ORIGIN (R190, R202): their fields read
back. -/

namespace Sys2Proof.Machine

/-! ### Signed fields (R190) -/

/-- A whole number written in `w` bytes reads back modulo 256 ^ w. -/
theorem leValue_leBytes (w : Nat) (v : Int) : (leValue (leBytes w v) : Int) = v % 256 ^ w := by
  induction w generalizing v with
  | zero => simp [leBytes, leValue]
  | succ w ih =>
    have hbyte : ((BitVec.ofInt 8 v).toNat : Int) = v % 256 := by
      rw [BitVec.toNat_ofInt, Int.toNat_of_nonneg (Int.emod_nonneg _ (by norm_num))]
      norm_num
    have hsplit : v % (256 * 256 ^ w) = v % 256 + 256 * (v / 256 % 256 ^ w) := by
      rw [Int.emod_def, Int.emod_def v 256, Int.emod_def (v / 256),
        Int.ediv_ediv_of_nonneg (by norm_num)]
      ring
    rw [pow_succ', hsplit, ← ih, ← hbyte]
    simp [leBytes, leValue]

/-- A signed field reads back over its two's complement range. -/
theorem signedField_leBytes {v : Int} (hlo : -(2 ^ 23) ≤ v) (hhi : v < 2 ^ 23) (rest : List Byte) :
    signedField (leBytes 3 v ++ rest) 0 3 = v := by
  have hread : (field (leBytes 3 v ++ rest) 0 3 : Int) = v % 2 ^ 24 := by
    rw [field_prefix _ _ _ _ (by simp), field, List.drop_zero, List.take_of_length_le (by simp),
      leValue_leBytes]
    norm_num
  simp only [signedField]
  split <;> omega

/-! ### A point, and what follows it -/

section Point

variable {x y : Nat} (rest : List Byte)

theorem field_point_x (hx : x < 2 ^ 24) : field (natBytes 3 x ++ natBytes 3 y ++ rest) 0 3 = x := by
  rw [List.append_assoc, field_natBytes_append, Nat.mod_eq_of_lt (by omega)]

theorem field_point_y (hy : y < 2 ^ 24) : field (natBytes 3 x ++ natBytes 3 y ++ rest) 3 3 = y := by
  rw [List.append_assoc, field_append _ _ _ _ (by simp), natBytes_length, field_natBytes_append,
    Nat.mod_eq_of_lt (by omega)]

theorem field_behind_point (k w : Nat) :
    field (natBytes 3 x ++ natBytes 3 y ++ rest) (6 + k) w = field rest k w := by
  rw [field_append _ _ _ _ (by simp), List.length_append, natBytes_length, natBytes_length,
    Nat.add_sub_cancel_left]

theorem signedField_behind_point (k w : Nat) :
    signedField (natBytes 3 x ++ natBytes 3 y ++ rest) (6 + k) w = signedField rest k w := by
  rw [signedField, field_behind_point, signedField]

end Point

theorem signedField_append (a b : List Byte) (k w : Nat) (h : a.length ≤ k) :
    signedField (a ++ b) k w = signedField b (k - a.length) w := by
  rw [signedField, field_append _ _ _ _ h, signedField]

end Sys2Proof.Machine
end

section
/-! SUPPORT. SET_ORIGIN (R24, R147). -/

namespace Sys2Proof.Machine

/-- The state with the origin set so that the commanded point is (x, y) (R24, R147). -/
def State.originSet (s : State) (x y : Nat) : State :=
  { s with
    fi := { s.fi with x := x, y := y }
    cq := { s.cq with tail := ⟨x, y⟩, tailKind := none }
    ap := { s.ap with
      x := s.ap.x.shift (targetOf x s.gt.settings.stepX) s.mpermit
      y := s.ap.y.shift (targetOf y s.gt.settings.stepY) s.mpermit } }

theorem ownOrigin_eq {x y : Nat} (hx : x < 2 ^ 24) (hy : y < 2 ^ 24) (s : State) :
    ownOrigin (natBytes 3 x ++ natBytes 3 y) s =
      if s.fi.st ≠ .idle ∨ s.cq.entries ≠ [] then (s, refuse .wrongState)
      else if s.gt.settings.xLimit < x ∨ s.gt.settings.yLimit < y then (s, refuse .outsideWorkspace)
      else (s.originSet x y, accept []) := by
  have hfx : field (natBytes 3 x ++ natBytes 3 y) 0 3 = x := by
    simpa using field_point_x (y := y) [] hx
  have hfy : field (natBytes 3 x ++ natBytes 3 y) 3 3 = y := by
    simpa using field_point_y (x := x) [] hy
  simp only [ownOrigin, hfx, hfy]
  rfl

/-- With MPERMIT high an axis keeps what it owes (R147). -/
theorem AxisOut.shift_permitted (a : AxisOut) (target : Int) :
    a.shift target true =
      { a with target := target, output := a.output + (target - a.target) } := rfl

/-- With MPERMIT low an axis owes nothing (R145). -/
theorem AxisOut.shift_low (a : AxisOut) (target : Int) :
    (a.shift target false).output = (a.shift target false).target := rfl

theorem keptBut_originSet (s : State) (x y : Nat) (kind : Byte) (r : Reply) :
    keptBut [.fi, .cq, .ap, .ports, .notices] s ((s.originSet x y).busy .job kind r) := by
  refine keptBut_busy (t := s.originSet x y) (onlyNotices.refl s) (passesKept.refl s) (by simp)
    (by simp) ?_ _ _ _
  intro b hb
  cases b <;> simp_all [Block.same, State.originSet]

/-- Settles O12: the three answers of SET_ORIGIN. -/
theorem setOrigin : Obligations.SetOrigin := by
  intro s x y hs hx hy
  have hexec := exec_setOrigin (d := natBytes 3 x ++ natBytes 3 y) hs (by simp [jobOnly]) (by simp)
  rw [ownOrigin_eq hx hy] at hexec
  refine ⟨fun hst hq hxl hyl => ?_, fun hstate => ?_, fun hst hq hlimit => ?_⟩
  · rw [if_neg (by simp [hst, hq]), if_neg (by omega)] at hexec
    have hax : (s.originSet x y).ap.x =
        s.ap.x.shift (targetOf x s.gt.settings.stepX) s.mpermit := rfl
    have hay : (s.originSet x y).ap.y =
        s.ap.y.shift (targetOf y s.gt.settings.stepY) s.mpermit := rfl
    refine ⟨_, hexec, ?_⟩
    simp only [State.busy_fi, State.busy_cq, State.busy_ap, hax, hay]
    refine ⟨rfl, rfl, rfl, rfl, fun hm => ?_, fun hm => ?_, rfl, rfl, ?_, ?_,
      keptBut_originSet s x y _ _⟩
    · rw [hm]
      exact ⟨AxisOut.shift_permitted _ _, AxisOut.shift_permitted _ _⟩
    · rw [hm]
      exact ⟨AxisOut.shift_low _ _, AxisOut.shift_low _ _⟩
    · exact answered_of_onlyNotices (t := s.originSet x y) (onlyNotices.refl s) _ _ _
    · exact fun q => State.busy_notices _ _ _ _ _
  · rw [hexec, if_pos hstate]
  · rw [hexec, if_neg (by simp [hst, hq]), if_pos hlimit]

end Sys2Proof.Machine
end

section
/-! SUPPORT. The receipt of path entries (R3 to R13): the workspace and the arcs as the rules give
them, the receipt gate, and each owner by its checks in their order. -/

namespace Sys2Proof.Machine

/-! ### The workspace and the arcs as the rules give them (R11, R45 to R49) -/

theorem State.inWorkspace_iff (s : State) (x y : Int) :
    s.inWorkspace x y = true ↔ s.gt.settings.holdsPoint x y := by
  simp [State.inWorkspace, Settings.holdsPoint, and_assoc]

theorem State.inWorkspace_nat (s : State) (x y : Nat) :
    s.inWorkspace x y = true ↔ x ≤ s.gt.settings.xLimit ∧ y ≤ s.gt.settings.yLimit := by
  simp [State.inWorkspace_iff, Settings.holdsPoint]

theorem reduceHeading_eq_arcOffset (ccw : Bool) (start angle : Nat) :
    reduceHeading (if ccw then (angle : Int) - start else (start : Int) - angle) =
      arcOffset ccw start angle := by
  cases ccw <;> rfl

theorem arcSweep_eq_sweepOf (ccw : Bool) (start stop : Nat) :
    arcSweep ccw start stop = sweepOf ccw start stop := by
  simp only [arcSweep, sweepOf, reduceHeading_eq_arcOffset]

theorem arcTangent_eq_tangentAt (ccw : Bool) (angle : Nat) :
    arcTangent ccw angle = tangentAt ccw angle := by
  cases ccw <;> rfl

theorem vectorLength_eq_arcDistance (p : Point) (cx cy : Int) :
    vectorLength ((p.x : Int) - cx) ((p.y : Int) - cy) = arcDistance p cx cy := by
  simp only [vectorLength, arcDistance, pow_two]

/-- The derived fields of an arc at receipt are those of its three points (R45 to R47). -/
theorem arcReceipt_eq (start stop : Point) (cx cy : Int) (ccw : Bool) :
    arcReceipt start stop cx cy ccw =
      { shape := { cx := cx, cy := cy, radius := arcDistance start cx cy, ccw := ccw
                   sweep := sweepOf ccw (arcAngle start cx cy) (arcAngle stop cx cy) }
        startAngle := arcAngle start cx cy
        endRadius := arcDistance stop cx cy
        entryHeading := tangentAt ccw (arcAngle start cx cy)
        exitHeading := tangentAt ccw (arcAngle stop cx cy) } := by
  simp only [arcReceipt, arcSweep_eq_sweepOf, arcTangent_eq_tangentAt, vectorLength_eq_arcDistance]
  rfl

/-- The receipt tests exactly the axis-extreme points an arc reaches (R11, R49). -/
theorem State.arcExtremes_inWorkspace (s : State) (shape : ArcShape) (start : Nat) :
    ((arcExtremes shape start).all fun pt => s.inWorkspace pt.1 pt.2) = true ↔
      s.gt.settings.holdsSweep shape.cx shape.cy shape.radius shape.ccw start shape.sweep := by
  have hreach (a : Nat) (pt : Int × Int) :
      ((if arcReaches shape.ccw start shape.sweep a then [pt] else []).all
        fun pt => s.inWorkspace pt.1 pt.2) = true ↔
      (arcOffset shape.ccw start a ≤ shape.sweep → s.gt.settings.holdsPoint pt.1 pt.2) := by
    rw [arcReaches, reduceHeading_eq_arcOffset, ← State.inWorkspace_iff]
    split <;> simp_all
  simp only [arcExtremes, List.all_append, Bool.and_eq_true, hreach, Settings.holdsSweep, and_assoc]

/-- The end point of an arc and the axis-extreme points it reaches lie in the workspace (R11,
R49). -/
def State.arcInside (s : State) (stop : Point) (shape : ArcShape) (start : Nat) : Bool :=
  (((stop.x : Int), (stop.y : Int)) :: arcExtremes shape start).all
    fun pt => s.inWorkspace pt.1 pt.2

theorem State.arcInside_iff (s : State) (x y : Nat) (shape : ArcShape) (start : Nat) :
    s.arcInside ⟨x, y⟩ shape start = true ↔
      (x ≤ s.gt.settings.xLimit ∧ y ≤ s.gt.settings.yLimit) ∧
        s.gt.settings.holdsSweep shape.cx shape.cy shape.radius shape.ccw start shape.sweep := by
  rw [State.arcInside, List.all_cons, Bool.and_eq_true, State.inWorkspace_nat,
    State.arcExtremes_inWorkspace]

/-- A record is INVALID, or there is none of that index (R10, R26). -/
theorem grade_isNone_iff (g : Option (Option Grade)) :
    g.join.isNone = true ↔ ¬∃ r, g = some (some r) := by
  cases g with
  | none => simp
  | some r => cases r <;> simp

/-! ### The first two checks (R8, R9) -/

theorem State.receiptGate_wrongState {s : State} (h : s.fi.st.isFault = true ∨ s.fi.st = .jog)
    (cut : Bool) : s.receiptGate cut = some .wrongState := by
  rw [State.receiptGate, if_pos (by simpa using h)]

section Gate

variable {s : State} (hfault : s.fi.st.isFault = false) (hjog : s.fi.st ≠ .jog)

include hfault hjog

theorem State.receiptGate_queueFull (hfull : 48 ≤ s.cq.entries.length) (cut : Bool) :
    s.receiptGate cut = some .queueFull := by
  simp [State.receiptGate, Config.queueCapacity, hfault, hjog, hfull]

theorem State.receiptGate_noContour (hroom : s.cq.entries.length < 48)
    (hin : s.cq.inContour = false) : s.receiptGate true = some .noContour := by
  simp [State.receiptGate, Config.queueCapacity, hfault, hjog, Nat.not_le.mpr hroom, hin]

theorem State.receiptGate_contourOpen (hroom : s.cq.entries.length < 48)
    (hin : s.cq.inContour = true) : s.receiptGate false = some .contourOpen := by
  simp [State.receiptGate, Config.queueCapacity, hfault, hjog, Nat.not_le.mpr hroom, hin]

end Gate

theorem ownTraverse_of_gate {s : State} {r : Result} (h : s.receiptGate false = some r)
    (d : List Byte) : ownTraverse d s = s.refuseEntry r := by simp only [ownTraverse, h]

theorem ownOpen_of_gate {s : State} {r : Result} (h : s.receiptGate false = some r)
    (d : List Byte) : ownOpen d s = s.refuseEntry r := by simp only [ownOpen, h]

theorem ownLine_of_gate {s : State} {r : Result} (h : s.receiptGate true = some r)
    (d : List Byte) : ownLine d s = s.refuseEntry r := by simp only [ownLine, h]

theorem ownArc_of_gate {s : State} {r : Result} (h : s.receiptGate true = some r)
    (d : List Byte) : ownArc d s = s.refuseEntry r := by simp only [ownArc, h]

/-! ### The further checks, in the order of R9 to R12 -/

section Owners

variable {s : State} {x y : Nat} (hx : x < 2 ^ 24) (hy : y < 2 ^ 24)

include hx hy

theorem ownTraverse_eq (hgate : s.receiptGate false = none) :
    ownTraverse (natBytes 3 x ++ natBytes 3 y) s =
      if ¬(x ≤ s.gt.settings.xLimit ∧ y ≤ s.gt.settings.yLimit) then s.refuseEntry .outsideWorkspace
      else if (⟨x, y⟩ : Point) = s.cq.tail then s.refuseEntry .zeroLength
      else s.acceptReply (s.prepared ⟨x, y⟩ (lineLength s.cq.tail ⟨x, y⟩)
        (.traverse (lineHeading s.cq.tail ⟨x, y⟩))) false := by
  have hfx : field (natBytes 3 x ++ natBytes 3 y) 0 3 = x := by
    simpa using field_point_x (y := y) [] hx
  have hfy : field (natBytes 3 x ++ natBytes 3 y) 3 3 = y := by
    simpa using field_point_y (x := x) [] hy
  simp only [ownTraverse, hgate, hfx, hfy, Bool.not_eq_true', ← Bool.not_eq_true,
    State.inWorkspace_nat]

theorem ownOpen_eq (hgate : s.receiptGate false = none) {g f : Nat} (hg : g < 256)
    (hf : f < 2 ^ 24) (tag : Word16) :
    ownOpen (natBytes 3 x ++ natBytes 3 y ++ natBytes 1 g ++ natBytes 3 f
        ++ natBytes 2 tag.toNat) s =
      (let target := if f < 1000 then 1000 else if 800000 < f then 800000 else f
       if (⟨x, y⟩ : Point) ≠ s.cq.tail then s.refuseEntry .startMismatch
       else if (s.gt.grades[g]?).join.isNone then s.refuseEntry .gradeInvalid
       else if ¬(x ≤ s.gt.settings.xLimit ∧ y ≤ s.gt.settings.yLimit) then
         s.refuseEntry .outsideWorkspace
       else s.acceptReply (s.prepared s.cq.tail 0 (.opening g target tag))
         (decide (target ≠ f))) := by
  set rest : List Byte := natBytes 1 g ++ (natBytes 3 f ++ natBytes 2 tag.toNat) with hrest
  have hpayload : natBytes 3 x ++ natBytes 3 y ++ natBytes 1 g ++ natBytes 3 f
      ++ natBytes 2 tag.toNat = natBytes 3 x ++ natBytes 3 y ++ rest := by
    simp [hrest, List.append_assoc]
  have hgrade : field (natBytes 3 x ++ natBytes 3 y ++ rest) 6 1 = g := by
    rw [field_behind_point rest 0 1, hrest, field_natBytes_append, Nat.mod_eq_of_lt (by omega)]
  have htarget : field (natBytes 3 x ++ natBytes 3 y ++ rest) 7 3 = f := by
    rw [field_behind_point rest 1 3, hrest, field_append _ _ _ _ (by simp), natBytes_length,
      field_natBytes_append, Nat.mod_eq_of_lt (by omega)]
  have htag : BitVec.ofNat 16 (field (natBytes 3 x ++ natBytes 3 y ++ rest) 10 2) = tag := by
    rw [field_behind_point rest 4 2, hrest, field_append _ _ _ _ (by simp),
      field_append _ _ _ _ (by simp)]
    simp [Nat.mod_eq_of_lt tag.isLt]
  rw [hpayload]
  simp only [ownOpen, hgate, field_point_x rest hx, field_point_y rest hy, hgrade, htarget, htag,
    clampTo_eq (show 1000 ≤ 800000 by decide)]
  by_cases htail : (⟨x, y⟩ : Point) = s.cq.tail
  · simp only [← htail, Bool.not_eq_true', ← Bool.not_eq_true, State.inWorkspace_nat]
  · simp only [ne_eq, htail, not_false_eq_true, if_true]

theorem ownLine_eq (hgate : s.receiptGate true = none) (options : Byte) :
    ownLine (natBytes 3 x ++ natBytes 3 y ++ [options]) s =
      (let heading := lineHeading s.cq.tail ⟨x, y⟩
       if ¬(x ≤ s.gt.settings.xLimit ∧ y ≤ s.gt.settings.yLimit) then
         s.refuseEntry .outsideWorkspace
       else if (⟨x, y⟩ : Point) = s.cq.tail then s.refuseEntry .zeroLength
       else s.acceptReply (s.prepared ⟨x, y⟩ (lineLength s.cq.tail ⟨x, y⟩)
         (.line (s.cq.openTag.getD 0) heading (s.junctionAt heading) (options.getLsbD 1)))
         false) := by
  have hoptions : field (natBytes 3 x ++ natBytes 3 y ++ [options]) 6 1 = options.toNat := by
    rw [field_behind_point [options] 0 1, field_byte]
  simp only [ownLine, hgate, field_point_x [options] hx, field_point_y [options] hy, hoptions,
    BitVec.testBit_toNat, Bool.not_eq_true', ← Bool.not_eq_true, State.inWorkspace_nat]

theorem ownArc_eq (hgate : s.receiptGate true = none) {cx cy : Int} (hcx : -(2 ^ 23) ≤ cx)
    (hcx' : cx < 2 ^ 23) (hcy : -(2 ^ 23) ≤ cy) (hcy' : cy < 2 ^ 23) (options : Byte) :
    ownArc (natBytes 3 x ++ natBytes 3 y ++ leBytes 3 cx ++ leBytes 3 cy ++ [options]) s =
      (let ccw := options.getLsbD 0
       let radius := arcDistance s.cq.tail cx cy
       let start := arcAngle s.cq.tail cx cy
       let stop := arcAngle ⟨x, y⟩ cx cy
       let sweep := sweepOf ccw start stop
       let length := (roundDiv ((radius * sweep * 17453 : Nat) : Int) 100000000).toNat
       let shape : ArcShape := { cx := cx, cy := cy, radius := radius, ccw := ccw, sweep := sweep }
       if !s.arcInside ⟨x, y⟩ shape start then s.refuseEntry .outsideWorkspace
       else if 50 < ((radius : Int) - arcDistance ⟨x, y⟩ cx cy).natAbs then
         s.refuseEntry .arcMismatch
       else if radius < 1000 then s.refuseEntry .arcTooSmall
       else if length = 0 then s.refuseEntry .zeroLength
       else s.acceptReply (s.prepared ⟨x, y⟩ length
         (.arc (s.cq.openTag.getD 0) (tangentAt ccw start) (tangentAt ccw stop)
           (s.junctionAt (tangentAt ccw start)) (options.getLsbD 1) shape)) false) := by
  set rest : List Byte := leBytes 3 cx ++ (leBytes 3 cy ++ [options]) with hrest
  have hpayload : natBytes 3 x ++ natBytes 3 y ++ leBytes 3 cx ++ leBytes 3 cy ++ [options] =
      natBytes 3 x ++ natBytes 3 y ++ rest := by simp [hrest, List.append_assoc]
  have hfcx : signedField (natBytes 3 x ++ natBytes 3 y ++ rest) 6 3 = cx := by
    rw [signedField_behind_point rest 0 3, hrest, signedField_leBytes hcx hcx']
  have hfcy : signedField (natBytes 3 x ++ natBytes 3 y ++ rest) 9 3 = cy := by
    rw [signedField_behind_point rest 3 3, hrest, signedField_append _ _ _ _ (by simp),
      leBytes_length, signedField_leBytes hcy hcy']
  have hoptions : field (natBytes 3 x ++ natBytes 3 y ++ rest) 12 1 = options.toNat := by
    rw [field_behind_point rest 6 1, hrest, field_append _ _ _ _ (by simp),
      field_append _ _ _ _ (by simp), leBytes_length, leBytes_length, field_byte]
  rw [hpayload]
  simp only [ownArc, hgate, field_point_x rest hx, field_point_y rest hy, hfcx, hfcy, hoptions,
    BitVec.testBit_toNat, arcReceipt_eq]
  rfl

end Owners

end Sys2Proof.Machine
end

section
/-! SUPPORT. The queue requests' answers: the refusals of R8 to R12 in their order, and the entries
accepted (R13, R59). -/

namespace Sys2Proof.Machine

/-! ### The refusals in their order -/

/-- A refused entry leaves no trace but its answer (R8). -/
theorem exec_refuseEntry {s : State} {c : Instr} {kind : Byte} {answer : State × Reply}
    (hexec : exec c s = .next (answer.1.busy .job kind answer.2)) {r : Result}
    (hr : answer = s.refuseEntry r) :
    exec c s = .next (s.busy .job kind
      { result := r, flags := noFlags, data := .fixed (natBytes 1 s.cq.entries.length) }) := by
  rw [hexec, hr]
  rfl

/-- A request that the first two checks refuse (R8, R9). -/
theorem exec_of_gate {s : State} (hs : s.listens .job = true) {d : List Byte} {c : Instr}
    {kind : Byte} {cut : Bool} {n : Nat} (hd : d.length = n)
    (hc : (c, kind, cut, n) ∈ [(Instr.queueTraverse .job d, (0x10 : Byte), false, 6),
      (.queueOpen .job d, 0x11, false, 12), (.queueLine .job d, 0x12, true, 7),
      (.queueArc .job d, 0x13, true, 13)]) {r : Result} (hg : s.receiptGate cut = some r) :
    exec c s = .next (s.busy .job kind
      { result := r, flags := noFlags, data := .fixed (natBytes 1 s.cq.entries.length) }) := by
  have hjob : Port.job ∈ jobOnly := by simp [jobOnly]
  simp only [List.mem_cons, List.not_mem_nil, or_false, Prod.mk.injEq] at hc
  rcases hc with ⟨rfl, rfl, rfl, rfl⟩ | ⟨rfl, rfl, rfl, rfl⟩ | ⟨rfl, rfl, rfl, rfl⟩ |
    ⟨rfl, rfl, rfl, rfl⟩
  · exact exec_refuseEntry (exec_queueTraverse hs hjob hd) (ownTraverse_of_gate hg d)
  · exact exec_refuseEntry (exec_queueOpen hs hjob hd) (ownOpen_of_gate hg d)
  · exact exec_refuseEntry (exec_queueLine hs hjob hd) (ownLine_of_gate hg d)
  · exact exec_refuseEntry (exec_queueArc hs hjob hd) (ownArc_of_gate hg d)

/-- Settles O19: the first two checks for each kind, then the checks of each kind in turn. -/
theorem receiptOrder : Obligations.ReceiptOrder := by
  refine ⟨fun s c kind cut n d hs hd hc => ?_, ?_⟩
  · have hgate {r : Result} (hg : s.receiptGate cut = some r) := exec_of_gate hs hd hc hg
    refine ⟨fun h => hgate (State.receiptGate_wrongState h cut),
      fun hf hj hfull => hgate (State.receiptGate_queueFull hf hj hfull cut),
      fun hf hj hroom hcut hin => hgate ?_, fun hf hj hroom hcut hin => hgate ?_⟩
    · rw [hcut, State.receiptGate_noContour hf hj hroom hin]
    · rw [hcut, State.receiptGate_contourOpen hf hj hroom hin]
  intro s x y g f cx cy options tag hs hx hy hg hf hcx hcx' hcy hcy' hfault hjog hroom point inside
    refused
  have hjob : Port.job ∈ jobOnly := by simp [jobOnly]
  have hgate (cut : Bool) (hin : s.cq.inContour = cut) : s.receiptGate cut = none :=
    State.receiptGate_pass s cut hfault hjog hroom hin
  refine ⟨fun hin => ?traverse, fun hin => ?opening, fun hin => ?line, fun hin => ?arc⟩
  case traverse =>
    have hown := ownTraverse_eq hx hy (hgate false hin)
    have hexec := exec_queueTraverse (d := point) hs hjob (by simp [point])
    refine ⟨fun hout => exec_refuseEntry hexec ?_, fun hinside htail => exec_refuseEntry hexec ?_⟩
    · rw [hown, if_pos hout]
    · rw [hown, if_neg (not_not.mpr hinside), if_pos htail]
  case opening =>
    have hown := ownOpen_eq hx hy (hgate false hin) hg hf tag
    have hexec := exec_queueOpen hs hjob
      (d := point ++ natBytes 1 g ++ natBytes 3 f ++ natBytes 2 tag.toNat) (by simp [point])
    refine ⟨fun htail => exec_refuseEntry hexec ?_, fun htail hvalid => exec_refuseEntry hexec ?_,
      fun htail hvalid hout => exec_refuseEntry hexec ?_⟩
    · rw [hown]
      exact if_pos htail
    · rw [hown]
      dsimp only
      rw [if_neg (not_not.mpr htail), if_pos ((grade_isNone_iff _).mpr hvalid)]
    · rw [hown]
      dsimp only
      rw [if_neg (not_not.mpr htail), if_neg (fun h => (grade_isNone_iff _).mp h hvalid),
        if_pos hout]
  case line =>
    have hown := ownLine_eq hx hy (hgate true hin) options
    have hexec := exec_queueLine (d := point ++ [options]) hs hjob (by simp [point])
    refine ⟨fun hout => exec_refuseEntry hexec ?_, fun hinside htail => exec_refuseEntry hexec ?_⟩
    · rw [hown]
      exact if_pos hout
    · rw [hown]
      dsimp only
      rw [if_neg (not_not.mpr hinside), if_pos htail]
  case arc =>
    intro c ccw radius start sweep swept apart
    have hown := ownArc_eq hx hy (hgate true hin) hcx hcx' hcy hcy' options
    have hexec := exec_queueArc (d := point ++ leBytes 3 cx ++ leBytes 3 cy ++ [options]) hs hjob
      (by simp [point])
    have hinside := s.arcInside_iff x y
      { cx := cx, cy := cy, radius := radius, ccw := ccw, sweep := sweep } start
    have hshort (h : roundDiv ((radius * sweep * 17453 : Nat) : Int) 100000000 = 0) :
        (roundDiv ((radius * sweep * 17453 : Nat) : Int) 100000000).toNat = 0 := by rw [h]; rfl
    dsimp only at hown
    refine ⟨fun hout => exec_refuseEntry hexec (hown.trans ?_),
      fun hswept hapart => exec_refuseEntry hexec (hown.trans ?_),
      fun hswept hapart hsmall => exec_refuseEntry hexec (hown.trans ?_),
      fun hswept hapart hbig hlength => exec_refuseEntry hexec (hown.trans ?_)⟩
    · rw [if_pos]
      rw [Bool.not_eq_true', ← Bool.not_eq_true, hinside]
      exact hout
    all_goals rw [if_neg (by rw [Bool.not_eq_true', hinside.mpr hswept]; simp)]
    · exact if_pos hapart
    · rw [if_neg (Nat.not_lt.mpr hapart)]
      exact if_pos hsmall
    · rw [if_neg (Nat.not_lt.mpr hapart), if_neg (Nat.not_lt.mpr hbig), if_pos (hshort hlength)]

/-! ### Accepted entries -/

theorem State.acceptReply_eq (s : State) (e : Entry) (clamped : Bool) :
    s.acceptReply e clamped = (s.acceptEntry e, acceptFlags (clampedIf clamped)
      (natBytes 2 e.seq.toNat ++ natBytes 1 (s.cq.entries.length + 1))) := by
  rw [State.acceptReply, State.acceptEntry_cq]
  simp

/-- FI keeps all but D, which an entry at the head of an empty queue sets (R58, R59). -/
theorem State.acceptEntry_fi_demand (s : State) (e : Entry) :
    (s.acceptEntry e).fi = { s.fi with demand :=
      if s.cq.entries = [] then s.demandOf s.fi.contour [e] else s.fi.demand } := by
  by_cases hq : s.cq.entries = []
  · simp [State.acceptEntry, hq, State.recomputeDemand_fi, State.demandNow_eq_demandOf,
      State.demandOf]
  · rw [State.acceptEntry_fi_behind s e hq, if_neg hq]

theorem demandNoticed_acceptEntry (s : State) (e : Entry) : demandNoticed s (s.acceptEntry e) := by
  unfold State.acceptEntry
  dsimp only
  split
  · refine demandNoticed_recomputeDemand ?_
    rfl
  · exact fun hc => absurd rfl hc

theorem passesKept_acceptEntry (s : State) (e : Entry) : passesKept s (s.acceptEntry e) := by
  unfold State.acceptEntry
  dsimp only
  split
  · refine passesKept.recomputeDemand ?_
    exact passesKept.refl s
  · exact passesKept.refl s

theorem keptBut_acceptEntry (s : State) (e : Entry) (kind : Byte) (r : Reply) :
    keptBut [.cq, .fi, .ports, .notices] s ((s.acceptEntry e).busy .job kind r) := by
  refine keptBut_busy (onlyNotices.acceptEntry s e) (passesKept_acceptEntry s e) (by simp) (by simp)
    ?_ _ _ _
  intro b hb
  unfold State.acceptEntry
  dsimp only
  split <;> cases b <;> simp_all [Block.same]

/-- The next state of an accepted entry. -/
theorem exec_acceptReply {s : State} {c : Instr} {kind : Byte} {answer : State × Reply} {e : Entry}
    {clamped : Bool} (hexec : exec c s = .next (answer.1.busy .job kind answer.2))
    (ha : answer = s.acceptReply e clamped) :
    exec c s = .next ((s.acceptEntry e).busy .job kind (acceptFlags (clampedIf clamped)
      (natBytes 2 e.seq.toNat ++ natBytes 1 (s.cq.entries.length + 1)))) := by
  rw [hexec, ha, State.acceptReply_eq]

/-- Settles O17: the entry each of the two requests appends, with D, the answer and the frame. -/
theorem queueTraverseOpen : Obligations.QueueTraverseOpen := by
  intro s x y g f tag hs hx hy hg hf hfault hjog hroom hin
  have hjob : Port.job ∈ jobOnly := by simp [jobOnly]
  have hgate := State.receiptGate_pass s false hfault hjog hroom hin
  refine ⟨fun hxl hyl htail => ?_, fun htail hxl hyl r hr => ?_⟩
  · intro e
    have hown : ownTraverse (natBytes 3 x ++ natBytes 3 y) s = s.acceptReply e false := by
      rw [ownTraverse_eq hx hy hgate, if_neg (not_not.mpr ⟨hxl, hyl⟩), if_neg htail]
      rfl
    refine ⟨_, exec_acceptReply (exec_queueTraverse hs hjob (by simp)) hown, ?_, ?_, ?_, ?_, ?_⟩
    · rw [State.busy_cq, State.acceptEntry_cq]
      rfl
    · rw [State.busy_fi, State.acceptEntry_fi_demand]
    · exact (demandNoticed_acceptEntry s e).busy _ _ _
    · exact answered_of_onlyNotices (onlyNotices.acceptEntry s e) _ _ _
    · exact keptBut_acceptEntry s e _ _
  · intro target e
    have hown : ownOpen (natBytes 3 x ++ natBytes 3 y ++ natBytes 1 g ++ natBytes 3 f
        ++ natBytes 2 tag.toNat) s = s.acceptReply e (decide (target ≠ f)) := by
      rw [ownOpen_eq hx hy hgate hg hf tag]
      dsimp only
      rw [if_neg (not_not.mpr htail), if_neg (fun h => (grade_isNone_iff _).mp h ⟨r, hr⟩),
        if_neg (not_not.mpr ⟨hxl, hyl⟩)]
      rfl
    refine ⟨_, exec_acceptReply (exec_queueOpen hs hjob (by simp)) hown, ?_, fun hq => ?_,
      fun hq hc => ?_, fun hq c hc => ?_, ?_, ?_, ?_⟩
    · rw [State.busy_cq, State.acceptEntry_cq]
      rfl
    · rw [State.busy_fi, State.acceptEntry_fi_behind s e hq]
    · rw [State.busy_fi, State.acceptEntry_fi_demand, if_pos hq, hc]
      simp [State.demandOf, sourceDemand, e, hr]
    · rw [State.busy_fi, State.acceptEntry_fi_demand, if_pos hq, hc]
      rfl
    · exact (demandNoticed_acceptEntry s e).busy _ _ _
    · exact answered_of_onlyNotices (onlyNotices.acceptEntry s e) _ _ _
    · exact keptBut_acceptEntry s e _ _

/-- The junction angle of R5. -/
theorem State.junctionAt_eq (s : State) (heading : Nat) :
    s.junctionAt heading =
      if s.cq.tailKind = some .line ∨ s.cq.tailKind = some .arc then
        some (normalise ((heading : Int) - s.cq.tailHeading))
      else none := by
  unfold State.junctionAt
  split <;> simp_all [junctionAngle]

/-- Settles O18: the entry each of the two requests appends, with the open contour's tag, the
junction angle and the END mark. -/
theorem queueLineArc : Obligations.QueueLineArc := by
  intro s x y cx cy options tag hs hx hy hcx hcx' hcy hcy' hfault hjog hroom hin htag hxl hyl ccw
    last junction reply after
  have hjob : Port.job ∈ jobOnly := by simp [jobOnly]
  have hgate := State.receiptGate_pass s true hfault hjog hroom hin
  have hafter (e : Entry) (kind : EntryKind) (hkind : e.kind = kind)
      (hcut : kind = .line ∨ kind = .arc) (hstop : e.stop = ⟨x, y⟩) (hmark : e.endMark = last)
      (heading : Nat) (hexit : e.exitHeading = some heading) (code : Byte) (r : Reply) :
      after ((s.acceptEntry e).busy .job code r) e heading kind := by
    refine ⟨?_, ?_, (demandNoticed_acceptEntry s e).busy _ _ _, keptBut_acceptEntry s e _ _⟩
    · rw [State.busy_cq, State.acceptEntry_cq]
      rcases hcut with rfl | rfl <;> simp [hkind, hstop, hmark, hexit, hin, htag]
    · rw [State.busy_fi, State.acceptEntry_fi_demand]
  refine ⟨fun htail => ?_, ?_⟩
  · intro heading
    have hown := ownLine_eq hx hy hgate options
    dsimp only at hown
    rw [if_neg (not_not.mpr ⟨hxl, hyl⟩), if_neg htail, htag, State.junctionAt_eq] at hown
    refine ⟨_, exec_acceptReply (exec_queueLine hs hjob (by simp)) hown, ?_, ?_⟩
    · exact answered_of_onlyNotices (onlyNotices.acceptEntry s _) _ _ _
    · exact hafter _ .line rfl (.inl rfl) rfl rfl heading rfl _ _
  · intro radius start stop sweep length entry exit hsweep hapart hbig hlength
    have hinside := s.arcInside_iff x y
      { cx := cx, cy := cy, radius := radius, ccw := ccw, sweep := sweep } start
    have hown := ownArc_eq hx hy hgate hcx hcx' hcy hcy' options
    dsimp only at hown
    rw [if_neg (by rw [Bool.not_eq_true', hinside.mpr ⟨⟨hxl, hyl⟩, hsweep⟩]; simp),
      if_neg (Nat.not_lt.mpr hapart), if_neg (Nat.not_lt.mpr hbig), if_neg hlength, htag,
      State.junctionAt_eq] at hown
    refine ⟨_, exec_acceptReply (exec_queueArc hs hjob (by simp)) hown, ?_, ?_⟩
    · exact answered_of_onlyNotices (onlyNotices.acceptEntry s _) _ _ _
    · exact hafter _ .arc rfl (.inr rfl) rfl rfl exit rfl _ _

end Sys2Proof.Machine
end

section
/-! SUPPORT. SET_GRADE (R27, R29, R30): the record its payload carries, the clamps, and D where its
source is the record written. -/

namespace Sys2Proof.Machine

/-! ### The record in a payload (R26, R27) -/

/-- A field behind a written number. -/
theorem field_behind_natBytes {w k : Nat} (h : w ≤ k) (v : Nat) (rest : List Byte) (n : Nat) :
    field (natBytes w v ++ rest) k n = field rest (k - w) n := by
  rw [field_append _ _ _ _ (by simpa using h), natBytes_length]

/-- The fields of a record have a place in their characters (R190). -/
def Grade.fits (g : Grade) : Prop :=
  g.bite < 65536 ∧ g.turn < 65536 ∧ g.smooth < 65536 ∧ g.pivot < 65536 ∧ g.crawl < 65536 ∧
    g.minSpm < 65536 ∧ g.settle < 256

/-- The record of a payload is the one written behind its index. -/
theorem receivedGrade_bytes {g : Grade} (hg : g.fits) (index : Nat) :
    receivedGrade (natBytes 1 index ++ g.bytes) = g := by
  obtain ⟨hb, ht, hs, hp, hc, hm, hn⟩ := hg
  simp [receivedGrade, Grade.bytes, field_behind_natBytes, Nat.mod_eq_of_lt, *]

theorem clampTo_eq_max_min {lo hi : Nat} (h : lo ≤ hi) (v : Nat) :
    clampTo lo hi v = max lo (min hi v) := by
  rw [clampTo, min_max_distrib_left, min_eq_right h]

/-- The clamps of R27, each as the nearest value of its range. -/
theorem clampGrade_eq (g : Grade) :
    clampGrade g =
      { bite := max 50 (min 4000 g.bite), turn := max 5 (min 1000 g.turn), smooth := min 200 g.smooth
        pivot := max (min 200 g.smooth) (min 9000 g.pivot), crawl := max 500 (min 20000 g.crawl)
        minSpm := max 1200 (min 12000 g.minSpm), settle := min 15 g.settle } := by
  have hpivot : min 200 g.smooth ≤ 9000 := by omega
  simp [clampGrade, clampTo_eq_max_min, hpivot]

/-! ### The record stored, and D (R30, R58, R59) -/

/-- The state with a record stored. -/
def State.gradeStored (s : State) (index : Nat) (g : Grade) : State :=
  { s with gt := { s.gt with grades := s.gt.grades.set index (some g) } }

/-- The state with a record stored and D recomputed where the record is its source (R30). -/
def State.gradeSet (s : State) (index : Nat) (g : Grade) : State :=
  if s.demandReads index then (s.gradeStored index g).recomputeDemand else s.gradeStored index g

/-- The answer to a record received for an index of the table (R27, R29). -/
def State.gradeReply (s : State) (index : Nat) (received : Grade) : Reply :=
  let stored := clampGrade received
  acceptFlags
    { clamped := decide (stored ≠ received), inUse := s.latches index, notHeld := false }
    (natBytes 1 index ++ stored.bytes)

theorem ownGrade_eq {index : Nat} (hi : index < 256) {g : Grade} (hg : g.fits) (s : State) :
    ownGrade (natBytes 1 index ++ g.bytes) s =
      if 15 < index then (s, refuse .gradeInvalid)
      else (s.gradeSet index (clampGrade g), s.gradeReply index g) := by
  have hindex : field (natBytes 1 index ++ g.bytes) 0 1 = index := by
    rw [field_natBytes_append, Nat.mod_eq_of_lt (by omega)]
  simp only [ownGrade, receivedGrade_bytes hg, hindex]
  rfl

theorem State.latches_iff (s : State) (index : Nat) :
    s.latches index = true ↔ ∃ c, s.fi.contour = some c ∧ c.index = index := by
  simp [State.latches, Option.any_eq_true]

/-- D reads the table record of an index exactly where no copy is latched and an OPEN naming it stands
at the head (R58). -/
theorem State.demandReads_iff (s : State) (index : Nat) :
    s.demandReads index = true ↔ s.fi.contour = none ∧
      ∃ e ft tag, s.cq.entries.head? = some e ∧ e.body = .opening index ft tag := by
  unfold State.demandReads
  cases s.fi.contour with
  | some c => simp
  | none =>
    cases s.cq.entries with
    | nil => simp
    | cons e rest => cases hbody : e.body <;> simp [hbody]

@[simp] theorem State.gradeSet_gt (s : State) (index : Nat) (g : Grade) :
    (s.gradeSet index g).gt = { s.gt with grades := s.gt.grades.set index (some g) } := by
  unfold State.gradeSet
  split
  · rw [State.recomputeDemand_gt]
    rfl
  · rfl

/-- FI keeps all where D reads another source. -/
theorem State.gradeSet_fi_of_not_reads {s : State} {index : Nat} (h : ¬ s.demandReads index = true)
    (g : Grade) : (s.gradeSet index g).fi = s.fi := by
  rw [State.gradeSet, if_neg h]
  rfl

/-- FI takes D from the record written where an OPEN naming it stands at the head. -/
theorem State.gradeSet_fi_of_opening {s : State} {e : Entry} {rest : List Entry} {index ft : Nat}
    {tag : Word16} (hc : s.fi.contour = none) (hq : s.cq.entries = e :: rest)
    (he : e.body = .opening index ft tag) (hlen : index < s.gt.grades.length) (g : Grade) :
    (s.gradeSet index g).fi =
      { s.fi with demand := strokeDemand g (ft * s.hj.override / 100) } := by
  have hreads : s.demandReads index = true :=
    (s.demandReads_iff index).mpr ⟨hc, e, ft, tag, by simp [hq], he⟩
  have hnow : (s.gradeStored index g).demandNow = strokeDemand g (ft * s.hj.override / 100) := by
    obtain ⟨seq, start, stop, length, body⟩ := e
    obtain rfl : body = _ := he
    simp [State.demandNow, State.gradeStored, hc, hq, hlen, withOverride]
  rw [State.gradeSet, if_pos hreads, State.recomputeDemand_fi, hnow]
  rfl

theorem onlyNotices.gradeSet (s : State) (index : Nat) (g : Grade) :
    onlyNotices s (s.gradeSet index g) := by
  have hstored : onlyNotices s (s.gradeStored index g) := onlyNotices.refl s
  unfold State.gradeSet
  split
  · exact hstored.recomputeDemand
  · exact hstored

theorem passesKept_gradeSet (s : State) (index : Nat) (g : Grade) :
    passesKept s (s.gradeSet index g) := by
  have hstored : passesKept s (s.gradeStored index g) := passesKept.refl s
  unfold State.gradeSet
  split
  · exact hstored.recomputeDemand
  · exact hstored

theorem demandNoticed_gradeSet (s : State) (index : Nat) (g : Grade) :
    demandNoticed s (s.gradeSet index g) := by
  unfold State.gradeSet
  split
  · exact demandNoticed_recomputeDemand (u := s.gradeStored index g) rfl
  · exact fun hchanged => absurd rfl hchanged

theorem keptBut_gradeSet (s : State) (index : Nat) (g : Grade) (kind : Byte) (r : Reply) :
    keptBut [.gt, .fi, .ports, .notices] s ((s.gradeSet index g).busy .job kind r) := by
  refine keptBut_busy (onlyNotices.gradeSet s index g) (passesKept_gradeSet s index g) (by simp)
    (by simp) (fun b hb => ?_) _ _ _
  unfold State.gradeSet
  split <;> cases b <;> simp_all [Block.same, State.gradeStored]

/-- Settles O13: the owner of SET_GRADE with the record it stores, D by its source, and the refusal of
an index outside the table. -/
theorem setGrade : Obligations.SetGrade := by
  intro s index b h g p v m n hs hindex hb hh hg hp hv hm hn d stored
  let received : Grade :=
    { bite := b, turn := h, smooth := g, pivot := p, crawl := v, minSpm := m, settle := n }
  have hd : d = natBytes 1 index ++ received.bytes := by simp [d, received, Grade.bytes]
  have hstored : clampGrade received = stored := clampGrade_eq received
  have hexec := exec_setGrade (d := d) hs (by simp [jobOnly]) (by simp [d])
  rw [hd, ownGrade_eq hindex (g := received) ⟨hb, hh, hg, hp, hv, hm, hn⟩, hstored, ← hd] at hexec
  refine ⟨fun hin => ?_, fun hout => ?_⟩
  · rw [if_neg (Nat.not_lt.mpr hin)] at hexec
    refine ⟨_, s.gradeReply index received, hexec, ?_, ?_, ?_, ?_, ?_, ?_⟩
    · rw [State.busy_gt, State.gradeSet_gt]
    · exact answered_of_onlyNotices (onlyNotices.gradeSet s index stored) _ _ _
    · rfl
    · rw [← hstored]
      exact decide_eq_true_iff
    · exact s.latches_iff index
    rw [State.busy_fi]
    refine ⟨fun hc => State.gradeSet_fi_of_not_reads (fun hr => ?_) _,
      fun e rest ft tag hc hq he hlen => State.gradeSet_fi_of_opening hc hq he hlen _,
      fun hhead => State.gradeSet_fi_of_not_reads (fun hr => ?_) _,
      (demandNoticed_gradeSet s index stored).busy _ _ _, keptBut_gradeSet s index stored _ _⟩
    · obtain ⟨hnone, -⟩ := (s.demandReads_iff index).mp hr
      simp [hnone] at hc
    · obtain ⟨-, e, ft, tag, he, hbody⟩ := (s.demandReads_iff index).mp hr
      exact hhead e ft tag he hbody
  · rw [hexec, if_pos hout]

end Sys2Proof.Machine
end

section
/-! SUPPORT. SET_MACHINE (R32 to R37, R103, R148): the ranges of the settings, the tests in their
order, and what an accepted write leaves. -/

namespace Sys2Proof.Machine

/-! ### The settings (R32, R34, R35) -/

/-- Settles O15: each range as the cases of the value, under the ceilings of R35. -/
theorem settingRanges : Obligations.SettingRanges := by
  intro m value ranged linear
  have hclamp {lo hi : Nat} (h : lo ≤ hi) : clampTo lo hi value = ranged lo hi := clampTo_eq h value
  have hleads : min 1 value = ranged 0 1 := by rw [← hclamp (by decide), clampTo, Nat.zero_max]
  exact ⟨hclamp (by decide), hclamp (by decide), hclamp (by decide), hclamp (by decide),
    congrArg (min · linear) (hclamp (by decide)), congrArg (min · linear) (hclamp (by decide)),
    hclamp (by decide), hclamp (by decide), hclamp (by decide),
    congrArg (min · (500 * m.stepH)) (hclamp (by decide)), hclamp (by decide), hclamp (by decide),
    hclamp (by decide), hleads⟩

/-- The table names the selectors up to 13 (R32). -/
theorem Settings.get_isSome_iff (m : Settings) (selector : Nat) :
    (m.get selector).isSome = true ↔ selector ≤ 13 := by
  by_cases h : selector ≤ 13
  · interval_cases selector <;> simp [Settings.get]
  · obtain ⟨k, rfl⟩ : ∃ k, selector = k + 14 := ⟨selector - 14, by omega⟩
    simp [Settings.get]

/-- A stored value is the effective one; the crank direction has the values 0 and 1 (R32). -/
theorem Settings.get_put (m : Settings) {selector value : Nat} (hs : selector ≤ 13)
    (hleads : selector = 13 → value ≤ 1) : (m.put selector value).get selector = some value := by
  by_cases h13 : selector = 13
  · have hvalue : value = 0 ∨ value = 1 := by have := hleads h13; omega
    subst h13
    rcases hvalue with rfl | rfl <;> rfl
  · have hlt : selector < 13 := by omega
    interval_cases selector <;> rfl

theorem Settings.get_put_clamp (m : Settings) {selector : Nat} (hs : selector ≤ 13) (value : Nat) :
    (m.put selector (m.clamp selector value)).get selector = some (m.clamp selector value) :=
  m.get_put hs (by rintro rfl; exact Nat.min_le_left 1 value)

/-! ### The blocks that act on a write (R37, R103, R148) -/

/-- The filters restart exactly at a write of K (R103). -/
theorem State.settingActs_sd (s : State) (selector before after : Nat) :
    (s.settingActs selector before after).sd =
      if selector = 12 then s.restartFilters.sd else s.sd := by
  unfold State.settingActs
  split
  · rfl
  split
  · rfl
  unfold State.recount
  split <;> rfl

/-- Only a step size recounts an axis (R148). -/
theorem State.recount_of_not_step {selector : Nat} (h : selector < 6 ∨ 8 < selector) (s : State) :
    s.recount selector = s := by
  unfold State.recount
  split
  · omega
  · omega
  · omega
  · rfl

/-- AP acts where the stored value differs from the one before (R148). -/
theorem State.settingActs_ap (s : State) (selector before after : Nat) :
    (s.settingActs selector before after).ap =
      if before = after then s.ap else (s.recount selector).ap := by
  unfold State.settingActs
  split
  · rename_i h12
    rw [State.recount_of_not_step (by omega), ite_self]
    rfl
  · exact apply_ite State.ap _ _ _

/-- The acts touch only SD and AP. -/
theorem State.settingActs_rest (s : State) (selector before after : Nat) :
    s.settingActs selector before after =
      { s with sd := (s.settingActs selector before after).sd
               ap := (s.settingActs selector before after).ap } := by
  unfold State.settingActs
  split
  · rfl
  split
  · rfl
  unfold State.recount
  split <;> rfl

/-! ### The tests of R33, in their order -/

/-- The payload of SET_MACHINE (R202). -/
def machinePayload (selector value : Nat) : List Byte := natBytes 1 selector ++ natBytes 4 value

/-- FI stands in IDLE or OFFLINE and the queue is empty, as a write of a setting asks (R33). -/
def State.settable (s : State) : Prop :=
  (s.fi.st = .idle ∨ s.fi.st = .offline) ∧ s.cq.entries = []

/-- A limit is refused below the position and below the tail (R36). -/
theorem State.limitRefused_iff (s : State) (selector value : Nat) :
    s.limitRefused selector value = true ↔
      (selector = 0 ∧ (value < s.fi.x ∨ value < s.cq.tail.x)) ∨
        (selector = 1 ∧ (value < s.fi.y ∨ value < s.cq.tail.y)) := by
  unfold State.limitRefused
  split <;> simp_all

/-- The state after an accepted write: the value stored, the speeds clamped again, and the acts of the
other blocks (R35, R37). -/
def State.machineSet (s : State) (selector before value : Nat) : State :=
  ({ s with gt := { s.gt with settings := s.gt.settings.put selector value } } : State).settingActs
    selector before value

/-- The answer to an accepted write (R34, R35). -/
def Settings.putReply (m : Settings) (selector value : Nat) : Reply :=
  let stored := m.clamp selector value
  acceptFlags
    (clampedIf (decide (stored ≠ value) ||
      (decide (6 ≤ selector ∧ selector ≤ 8) && m.lowered (m.put selector stored))))
    (natBytes 1 selector ++ natBytes 4 stored)

/-- CLAMPED marks a value clamped, or a speed that a step size has lowered (R34, R35). -/
theorem Settings.putReply_clamped_iff (m : Settings) (selector value : Nat) :
    (m.putReply selector value).flags.clamped = true ↔
      m.clamp selector value ≠ value ∨ (6 ≤ selector ∧ selector ≤ 8 ∧
        ((m.put selector (m.clamp selector value)).fMax < m.fMax ∨
          (m.put selector (m.clamp selector value)).traverseFeed < m.traverseFeed ∨
          (m.put selector (m.clamp selector value)).slewH < m.slewH)) := by
  simp [Settings.putReply, acceptFlags, clampedIf, Settings.lowered, and_assoc, or_assoc]

theorem ownMachine_wrongState {s : State} (h : ¬ s.settable) (d : List Byte) :
    ownMachine d s = (s, refuse .wrongState) := by
  rw [ownMachine]
  exact if_pos (not_and_or.mp h)

section Owner

variable {s : State} {selector value : Nat} (hsel : selector < 256) (hval : value < 2 ^ 32)
  (hopen : s.settable)

include hsel in
theorem field_machinePayload_selector : field (machinePayload selector value) 0 1 = selector := by
  rw [machinePayload, field_natBytes_append, Nat.mod_eq_of_lt (by omega)]

include hval in
theorem field_machinePayload_value : field (machinePayload selector value) 1 4 = value := by
  rw [machinePayload, field_behind_natBytes le_rfl, Nat.sub_self, field_natBytes,
    Nat.mod_eq_of_lt (by omega)]

include hsel hopen in
theorem ownMachine_unknown (h : 13 < selector) :
    ownMachine (machinePayload selector value) s = (s, refuse .unknownKind) := by
  have hget : s.gt.settings.get selector = none := by
    rw [← Option.not_isSome_iff_eq_none, Settings.get_isSome_iff]
    omega
  simp only [ownMachine, field_machinePayload_selector hsel, hget]
  exact if_neg (by simp [hopen.1, hopen.2])

include hsel hval hopen

/-- A selector of the table, by the test of R36. -/
theorem ownMachine_known {before : Nat} (hget : s.gt.settings.get selector = some before) :
    ownMachine (machinePayload selector value) s =
      (let stored := s.gt.settings.clamp selector value
       if s.limitRefused selector stored then (s, refuse .outsideWorkspace)
       else (s.machineSet selector before stored, s.gt.settings.putReply selector value)) := by
  simp only [ownMachine, field_machinePayload_selector hsel, field_machinePayload_value hval, hget]
  exact if_neg (by simp [hopen.1, hopen.2])

theorem ownMachine_outside (hle : selector ≤ 13)
    (h : s.limitRefused selector (s.gt.settings.clamp selector value) = true) :
    ownMachine (machinePayload selector value) s = (s, refuse .outsideWorkspace) := by
  obtain ⟨before, hget⟩ :=
    Option.isSome_iff_exists.mp ((s.gt.settings.get_isSome_iff selector).mpr hle)
  rw [ownMachine_known hsel hval hopen hget]
  exact if_pos h

theorem ownMachine_accepts {before : Nat} (hget : s.gt.settings.get selector = some before)
    (h : ¬ s.limitRefused selector (s.gt.settings.clamp selector value) = true) :
    ownMachine (machinePayload selector value) s =
      (s.machineSet selector before (s.gt.settings.clamp selector value),
        s.gt.settings.putReply selector value) := by
  rw [ownMachine_known hsel hval hopen hget]
  exact if_neg h

end Owner

/-! ### What an accepted write leaves -/

theorem State.machineSet_rest (s : State) (selector before value : Nat) :
    s.machineSet selector before value =
      { s with gt := { s.gt with settings := s.gt.settings.put selector value }
               sd := (s.machineSet selector before value).sd
               ap := (s.machineSet selector before value).ap } :=
  State.settingActs_rest _ _ _ _

@[simp] theorem State.machineSet_gt (s : State) (selector before value : Nat) :
    (s.machineSet selector before value).gt =
      { s.gt with settings := s.gt.settings.put selector value } := by
  rw [State.machineSet_rest]

theorem State.machineSet_sd (s : State) (selector before value : Nat) :
    (s.machineSet selector before value).sd =
      if selector = 12 then s.restartFilters.sd else s.sd :=
  State.settingActs_sd _ _ _ _

theorem State.machineSet_ap_same (s : State) (selector value : Nat) :
    (s.machineSet selector value value).ap = s.ap := by
  rw [State.machineSet, State.settingActs_ap, if_pos rfl]

theorem State.machineSet_ap_of_not_step {selector : Nat} (h : selector < 6 ∨ 8 < selector)
    (s : State) (before value : Nat) : (s.machineSet selector before value).ap = s.ap := by
  rw [State.machineSet, State.settingActs_ap, State.recount_of_not_step h, ite_self]

/-- A changed step size recounts its axis (R148). -/
theorem State.machineSet_ap_recount {s : State} {selector before value : Nat}
    (hget : s.gt.settings.get selector = some before)
    (hne : s.gt.settings.get selector ≠ some value) :
    (s.machineSet selector before value).ap =
      (({ s with gt := { s.gt with settings := s.gt.settings.put selector value } } :
        State).recount selector).ap := by
  have hchanged : before ≠ value := fun h => hne (hget.trans (congrArg some h))
  rw [State.machineSet, State.settingActs_ap, if_neg hchanged]

theorem onlyNotices.machineSet (s : State) (selector before value : Nat) :
    onlyNotices s (s.machineSet selector before value) := by
  rw [State.machineSet_rest]
  exact onlyNotices.refl s

theorem keptBut_machineSet (s : State) (selector before value : Nat) (kind : Byte) (r : Reply) :
    keptBut [.gt, .sd, .ap, .ports, .notices] s
      ((s.machineSet selector before value).busy .job kind r) := by
  have hpass : passesKept s (s.machineSet selector before value) := by
    rw [State.machineSet_rest]
    exact passesKept.refl s
  refine keptBut_busy (onlyNotices.machineSet s selector before value) hpass (by simp) (by simp)
    (fun b hb => ?_) _ _ _
  rw [State.machineSet_rest]
  cases b <;> simp_all [Block.same]

/-- An accepted write makes nothing pending. -/
theorem noticesKept_machineSet (s : State) (selector before value : Nat) (kind : Byte) (r : Reply) :
    noticesKept s ((s.machineSet selector before value).busy .job kind r) := by
  intro q
  rw [State.busy_notices, State.machineSet_rest]
  cases q <;> rfl

/-- Settles O14: the tests of R33 and R36 in their order, then the settings, SD and AP that an
accepted write leaves. -/
theorem setMachine : Obligations.SetMachine := by
  intro s selector value hs hsel hval d m stored stepped settings recounted
  have hanswer {answer : State × Reply} (h : ownMachine (machinePayload selector value) s = answer) :
      exec (.setMachine .job d) s = .next (answer.1.busy .job 0x02 answer.2) := by
    rw [← h]
    exact exec_setMachine (d := d) hs (by simp [jobOnly]) (by simp [d])
  have hput : settings = m.put selector stored := rfl
  refine ⟨fun hidle hoffline => hanswer (ownMachine_wrongState (fun h => h.1.elim hidle hoffline) _),
    fun hq => hanswer (ownMachine_wrongState (fun h => hq h.2) _), fun hst hq => ?_⟩
  have hopen : s.settable := ⟨hst, hq⟩
  have hlimit := s.limitRefused_iff selector stored
  refine ⟨fun h => hanswer (ownMachine_unknown hsel hopen h),
    fun h0 hout => hanswer (ownMachine_outside hsel hval hopen (by omega)
      (hlimit.mpr (.inl ⟨h0, hout⟩))),
    fun h1 hout => hanswer (ownMachine_outside hsel hval hopen (by omega)
      (hlimit.mpr (.inr ⟨h1, hout⟩))),
    fun hle hx hy => ?_⟩
  obtain ⟨before, hget⟩ := Option.isSome_iff_exists.mp ((m.get_isSome_iff selector).mpr hle)
  have hinside : ¬ s.limitRefused selector stored = true := by
    rw [hlimit]
    omega
  refine ⟨_, m.putReply selector value, hanswer (ownMachine_accepts hsel hval hopen hget hinside),
    ?_, ?_, ?_, rfl, rfl, ?_, ?_⟩
  · rw [State.busy_gt, State.machineSet_gt, hput]
  · rw [hput]
    exact m.get_put_clamp hle value
  · exact answered_of_onlyNotices (onlyNotices.machineSet s _ _ _) _ _ _
  · rw [hput]
    exact m.putReply_clamped_iff selector value
  simp only [State.busy_sd, State.busy_ap, State.machineSet_sd]
  refine ⟨fun h12 => if_pos h12, fun h12 => if_neg h12, ?stepX, ?stepY, ?stepH, fun hsame => ?_,
    fun h => State.machineSet_ap_of_not_step h s before stored, noticesKept_machineSet s _ _ _ _ _,
    keptBut_machineSet s _ _ _ _ _⟩
  case stepX =>
    rintro rfl hne
    exact State.machineSet_ap_recount hget (fun h => hne (Option.some.inj h))
  case stepY =>
    rintro rfl hne
    exact State.machineSet_ap_recount hget (fun h => hne (Option.some.inj h))
  case stepH =>
    rintro rfl hne
    exact State.machineSet_ap_recount hget (fun h => hne (Option.some.inj h))
  · obtain rfl : before = stored := Option.some.inj (hget.symm.trans hsame)
    exact s.machineSet_ap_same selector _

end Sys2Proof.Machine
end

section
/-! SUPPORT. SET_BLADE_OFFSET (R38) and the reads (R31, R184, R188, R193 to R195). -/

namespace Sys2Proof.Machine

/-! ### SET_BLADE_OFFSET -/

/-- Settles O16: the owner in its two cases. -/
theorem setBladeOffset : Obligations.SetBladeOffset := by
  intro s offset hs hoffset
  have hfield : field (natBytes 2 offset) 0 2 = offset := by
    rw [field_natBytes, Nat.mod_eq_of_lt (by omega)]
  have hexec := exec_setBladeOffset (d := natBytes 2 offset) hs (by simp) (by simp)
  simp only [ownOffset, hfield] at hexec
  refine ⟨fun hst => ?_, fun hidle hoffline => ?_⟩
  · rw [hexec, if_pos hst]
  · rw [hexec, if_neg (by simp [hidle, hoffline])]

/-! ### READ_STATUS and READ_PORT -/

theorem ownStatus_section {a : Byte} (ha : a.toNat ≤ 6) (s : State) :
    ownStatus [a] s = (s, acceptRead (.status a.toNat)) := by
  simp only [ownStatus, field_byte]
  exact if_neg (Nat.not_lt.mpr ha)

theorem ownStatus_unknown {a : Byte} (ha : 6 < a.toNat) (s : State) :
    ownStatus [a] s = (s, refuse .unknownKind) := by
  simp only [ownStatus, field_byte]
  exact if_pos ha

theorem ownReadPort_unknown {a : Byte} (ha : 1 < a.toNat) (s : State) :
    ownReadPort [a] s = (s, refuse .unknownKind) := by
  simp only [ownReadPort, field_byte]
  exact if_pos ha

/-! ### READ_GRADE by its source -/

section Sources

variable {b : Byte} (s : State)

theorem ownReadGrade_record (hb : b.toNat ≤ 15) :
    ownReadGrade [0, b] s = (s,
      { result := .accepted, data := .grade 0 b.toNat
        flags := { clamped := false, notHeld := false, inUse := s.latches b.toNat } }) := by
  simp only [ownReadGrade, field_byte, field_cons]
  exact if_neg (Nat.not_lt.mpr hb)

theorem ownReadGrade_noRecord (hb : 15 < b.toNat) :
    ownReadGrade [0, b] s = (s, refuse .gradeInvalid) := by
  simp only [ownReadGrade, field_byte, field_cons]
  exact if_pos hb

theorem ownReadGrade_latched : ownReadGrade [1, b] s = (s, acceptRead (.grade 1 b.toNat)) := by
  simp only [ownReadGrade, field_byte, field_cons]
  rfl

theorem ownReadGrade_setting (hb : b.toNat ≤ 13) :
    ownReadGrade [2, b] s = (s, acceptRead (.grade 2 b.toNat)) := by
  simp only [ownReadGrade, field_byte, field_cons]
  exact if_pos ((Settings.get_isSome_iff _ _).mpr hb)

theorem ownReadGrade_noSetting (hb : 13 < b.toNat) :
    ownReadGrade [2, b] s = (s, refuse .unknownKind) := by
  simp only [ownReadGrade, field_byte, field_cons]
  exact if_neg (fun h => Nat.not_le.mpr hb ((Settings.get_isSome_iff _ _).mp h))

theorem ownReadGrade_offset : ownReadGrade [3, b] s = (s, acceptRead (.grade 3 b.toNat)) := by
  simp only [ownReadGrade, field_byte, field_cons]
  rfl

theorem ownReadGrade_unknown {a : Byte} (ha : 3 < a.toNat) :
    ownReadGrade [a, b] s = (s, refuse .unknownKind) := by
  simp only [ownReadGrade, field_byte]
  split
  · omega
  · omega
  · omega
  · omega
  · rfl

end Sources

/-- Settles O27: each read taken by its handler, answered by its owner's case. -/
theorem reads : Obligations.Reads := by
  intro s p a b hs read
  have hp : p ∈ anyPort := by cases p <;> simp [anyPort]
  have hstatus := exec_readStatus (d := [a]) hs hp rfl
  have hport (o : Byte) := exec_readPort (d := [o]) hs hp rfl
  have hgrade (source : Byte) := exec_readGrade (d := [source, b]) hs hp rfl
  refine ⟨exec_readProgress hs hp rfl, exec_readStroke hs hp rfl, fun h => ?_, fun h => ?_,
    fun h => ?_, fun h => ?_, ?_, fun h => ?_, fun h => ?_, ?_, fun h => ?_, hport 0, hport 1,
    fun h => ?_⟩
  · rw [hstatus, ownStatus_section h]
    rfl
  · rw [hstatus, ownStatus_unknown h]
  · rw [hgrade, ownReadGrade_record s h]
    rfl
  · rw [hgrade, ownReadGrade_noRecord s h]
  · rw [hgrade, ownReadGrade_latched]
    rfl
  · rw [hgrade, ownReadGrade_setting s h]
    rfl
  · rw [hgrade, ownReadGrade_noSetting s h]
  · rw [hgrade, ownReadGrade_offset]
    rfl
  · rw [hgrade, ownReadGrade_unknown s h]
  · rw [hport, ownReadPort_unknown h]

end Sys2Proof.Machine
end

section
/-! SUPPORT. Path Arithmetic: the floor of a root (R41), the two reductions of headings (R42), the turn
step (R52), the stroke quantities (R53 to R57), the speed and the distance (R60, R61). -/

namespace Sys2Proof.Machine

/-! ### The floor of a root (R41) -/

/-- Each bit keeps the root between `acc` and `acc + 2 ^ k`, so that the last one leaves its floor. -/
theorem isqrtBits_spec (n : Nat) : ∀ k acc, acc ^ 2 ≤ n → n < (acc + 2 ^ k) ^ 2 →
    isqrtBits n k acc ^ 2 ≤ n ∧ n < (isqrtBits n k acc + 1) ^ 2
  | 0, acc, hlo, hhi => by simpa [isqrtBits] using ⟨hlo, hhi⟩
  | k + 1, acc, hlo, hhi => by
    simp only [isqrtBits, ← sq]
    have htop : acc + 2 ^ (k + 1) = acc + 2 ^ k + 2 ^ k := by ring
    split
    · next hfits => exact isqrtBits_spec n k _ hfits (htop ▸ hhi)
    · next hover => exact isqrtBits_spec n k _ hlo (Nat.lt_of_not_le hover)

theorem isqrt_spec (n : Nat) : isqrt n ^ 2 ≤ n ∧ n < (isqrt n + 1) ^ 2 := by
  refine isqrtBits_spec n _ 0 (by simp) ?_
  calc n < 2 ^ (n.log2 + 1) := Nat.lt_log2_self
    _ ≤ 2 ^ ((n.log2 / 2 + 1) * 2) := Nat.pow_le_pow_right (by omega) (by omega)
    _ = (0 + 2 ^ (n.log2 / 2 + 1)) ^ 2 := by rw [Nat.zero_add, Nat.pow_mul]

theorem isqrt_eq_sqrt (n : Nat) : isqrt n = n.sqrt :=
  Nat.eq_sqrt'.mpr (isqrt_spec n)

theorem isqrt_mono {m n : Nat} (h : m ≤ n) : isqrt m ≤ isqrt n := by
  rw [isqrt_eq_sqrt, isqrt_eq_sqrt]
  exact Nat.sqrt_le_sqrt h

/-! ### Reductions of headings (R42) -/

theorem reduceHeading_cast (a : Int) : (reduceHeading a : Int) = a % 36000 :=
  Int.toNat_of_nonneg (Int.emod_nonneg a (by decide))

theorem reduceHeading_lt (a : Int) : reduceHeading a < 36000 := by
  have := reduceHeading_cast a
  omega

theorem reduceHeading_dvd (a : Int) : (36000 : Int) ∣ a - reduceHeading a := by
  rw [reduceHeading_cast]
  exact Int.dvd_self_sub_emod

theorem reduceHeading_nat (n : Nat) : reduceHeading n = n % 36000 := by
  have := reduceHeading_cast n
  omega

theorem normalise_range (d : Int) : -17999 ≤ normalise d ∧ normalise d ≤ 18000 := by
  unfold normalise
  dsimp only
  split <;> omega

theorem normalise_dvd (d : Int) : (36000 : Int) ∣ d - normalise d := by
  unfold normalise
  dsimp only
  split <;> omega

/-- The range and the congruence determine the normalised difference. -/
theorem normalise_unique {d r : Int} (hlo : -17999 ≤ r) (hhi : r ≤ 18000)
    (hdvd : (36000 : Int) ∣ d - r) : normalise d = r := by
  have hrange := normalise_range d
  have hd := normalise_dvd d
  omega

/-- Settles O51: both reductions by their range and their congruence. -/
theorem headingReductions : Obligations.HeadingReductions := by
  intro d
  obtain ⟨hlo, hhi⟩ := normalise_range d
  refine ⟨⟨reduceHeading_lt d, reduceHeading_dvd d⟩, ⟨hlo, hhi, normalise_dvd d⟩, fun hd => ?_,
    fun hd => normalise_unique (by decide) (by decide) hd, by omega⟩
  have := reduceHeading_cast d
  omega

/-! ### The turn step (R52) -/

section Turn

variable {target h m : Nat}

theorem turnStep_reaches (hle : (normalise ((target : Int) - h)).natAbs ≤ m) :
    turnStep target h m = target := if_pos hle

theorem turnStep_forward (hlt : m < (normalise ((target : Int) - h)).natAbs)
    (hpos : 0 < normalise ((target : Int) - h)) : turnStep target h m = reduceHeading (h + m) := by
  simp only [turnStep, if_neg (Nat.not_le.mpr hlt), if_pos hpos]

theorem turnStep_backward (hlt : m < (normalise ((target : Int) - h)).natAbs)
    (hneg : normalise ((target : Int) - h) < 0) : turnStep target h m = reduceHeading (h - m) := by
  simp only [turnStep, if_neg (Nat.not_le.mpr hlt), if_neg (Int.not_lt.mpr hneg.le)]

theorem turnStep_lt (ht : target < 36000) : turnStep target h m < 36000 := by
  unfold turnStep
  dsimp only
  split
  · exact ht
  · exact reduceHeading_lt _

end Turn

/-- Settles O50: what a step leaves is congruent to the rest of the turn and in range, and a half turn
is normalised to +18,000. -/
theorem turnSteps : Obligations.TurnSteps := by
  intro target h m ht hh before after
  have hbefore := normalise_range ((target : Int) - h)
  have hturn := normalise_dvd ((target : Int) - h)
  refine ⟨turnStep_lt ht, turnStep_reaches, fun hlt hpos => ?_, fun hlt hneg => ?_, fun hhalf hm => ?_⟩
  · have hstep := reduceHeading_dvd (h + m)
    rw [← turnStep_forward hlt hpos] at hstep
    exact normalise_unique (by omega) (by omega) (by omega)
  · have hstep := reduceHeading_dvd (h - m)
    rw [← turnStep_backward hlt hneg] at hstep
    exact normalise_unique (by omega) (by omega) (by omega)
  · have hccw : before = 18000 := normalise_unique (by decide) (by decide) (by omega)
    rw [turnStep_forward (by omega) (by omega), ← Nat.cast_add, reduceHeading_nat]

/-! ### Speed and distance (R60, R61) -/

theorem constraintSpeed_eq (a vj d : Nat) :
    constraintSpeed a vj d = isqrt (vj ^ 2 + 2 * a * d) := by rw [constraintSpeed, sq]

/-- Settles O52: the floor of the root against the square, and the square against the quotient. -/
theorem brakingDistance : Obligations.BrakingDistance := by
  intro a v vj d ha _
  refine ⟨?_, ?_⟩
  · rw [constraintSpeed_eq, isqrt_eq_sqrt, Nat.le_sqrt']
  · have h2a : (0 : ℚ) < 2 * a := by positivity
    rw [div_le_iff₀ h2a, sub_le_iff_le_add]
    have hcast : (d : ℚ) * (2 * a) + (vj : ℚ) ^ 2 = ((vj ^ 2 + 2 * a * d : Nat) : ℚ) := by
      push_cast; ring
    rw [hcast]
    exact_mod_cast Iff.rfl

theorem moveToward_reaches {v target n : Nat} (h : ((v : Int) - target).natAbs ≤ n) :
    moveToward v target n = target := by
  unfold moveToward
  split <;> omega

theorem moveToward_up {v target n : Nat} (h : n < ((v : Int) - target).natAbs) (hv : v < target) :
    moveToward v target n = v + n := by
  rw [moveToward, if_pos hv.le]
  omega

theorem moveToward_down {v target n : Nat} (h : n < ((v : Int) - target).natAbs)
    (hv : target < v) : moveToward v target n = v - n := by
  rw [moveToward, if_neg (Nat.not_le.mpr hv)]
  omega

theorem Advance.cutBy_of_lt {a : Advance} {budget : Nat} (h : budget < a.whole) :
    a.cutBy budget = { v := budget * 1000, rem := 0, whole := budget } := if_pos h

/-- Settles O54: the step with its two ranges, the move by its three cases, the accumulator as a
division with remainder, and the cut. -/
theorem speedAndDistance : Obligations.SpeedAndDistance := by
  refine ⟨fun a => ⟨rfl, ?_, ?_⟩, fun v target n => ⟨moveToward_reaches, moveToward_up, moveToward_down⟩,
    fun v rem => ⟨rfl, ?_, ?_⟩, fun v rem budget => Advance.cutBy_of_lt⟩
  · intro hlo hhi
    unfold speedStep
    omega
  · intro hlo hhi
    unfold speedStep
    omega
  · exact (Nat.div_add_mod _ _).symm
  · exact Nat.mod_lt _ (by decide)

/-! ### Stroke quantities (R53 to R57) -/

theorem biteOf_line (g : Grade) {e : Entry} (h : e.kind = .line) : biteOf g e = g.bite := by
  obtain ⟨_, _, _, _, body⟩ := e
  cases body <;> simp_all [Entry.kind, biteOf]

theorem biteOf_uncut (g : Grade) {e : Entry} (h : e.kind = .traverse ∨ e.kind = .opening) :
    biteOf g e = 0 := by
  obtain ⟨_, _, _, _, body⟩ := e
  cases body <;> simp_all [Entry.kind, biteOf]

theorem strokeCeiling_usable (bite : Nat) {p : Nat} (h : p ≤ 50000) :
    strokeCeiling bite (some p) = bite * 1000000 / max p 5000 := if_pos h

/-- 65,535 strokes a minute are reached at a period of 915 µs (R56). -/
theorem rate_saturates_iff {p : Nat} (hp : 0 < p) : 65535 ≤ 60000000 / p ↔ p ≤ 915 := by
  rw [Nat.le_div_iff_mul_le hp]
  omega

/-- The ceil of a quotient is the least whole number whose product reaches the dividend. -/
theorem ceilDiv_le_iff {num den : Nat} (hden : 0 < den) (q : Nat) :
    ceilDiv num den ≤ q ↔ num ≤ den * q := by
  rw [ceilDiv, Nat.div_le_iff_le_mul hden, Nat.mul_comm q]
  omega

theorem strokeDemand_eq (g : Grade) (feed : Nat) :
    strokeDemand g feed = min 12000 (max g.minSpm (ceilDiv (feed * 60) g.bite)) := rfl

/-- Settles O55: each quantity by its own cases; D against the ceil of the quotient. -/
theorem strokeQuantities : Obligations.StrokeQuantities := by
  intro g e feed override p hbite
  have hceil := ceilDiv_le_iff (num := feed * 60) hbite
  refine ⟨biteOf_line g, ?_, biteOf_uncut g, rfl, rfl, fun hp => ?_, fun hlo hhi => ?_, fun hp => ?_,
    fun hp => ?_, fun hp => ?_, ?_, ?_, fun hD => ?_, fun hmin hD => ?_⟩
  · intro tag h1 h2 j m shape hbody
    simp only [biteOf, hbody]
    rfl
  · rw [strokeCeiling_usable _ (by omega), Nat.max_eq_right hp.le]
    omega
  · rw [strokeCeiling_usable _ hhi, Nat.max_eq_left hlo]
  · exact if_neg (Nat.not_le.mpr hp)
  · rw [strokeRate, min_eq_left_iff]
    exact rate_saturates_iff hp
  · have hrate := mt (rate_saturates_iff (p := p) (by omega)).mp (by omega)
    exact min_eq_right (Nat.lt_of_not_le hrate).le
  · rw [strokeDemand_eq]
    omega
  · exact min_le_left _ _
  · rw [strokeDemand_eq] at hD ⊢
    rw [Nat.le_div_iff_mul_le (by decide)]
    exact (hceil _).mp (by omega)
  · have hbelow : strokeDemand g feed - 1 < ceilDiv (feed * 60) g.bite := by
      rw [strokeDemand_eq] at hmin ⊢
      omega
    exact Nat.lt_of_not_le (mt (hceil _).mpr (Nat.not_le.mpr hbelow))

end Sys2Proof.Machine
end

section
/-! SUPPORT. The fixed-point sines and cosines (log 8): a pair in fixed point against the unit vector of
its angle, from the exponential series to any number of quarter turns. -/

namespace Sys2Proof.Machine

open Complex (I)

/-! ### Unit vectors by their angle in hundredths of a degree -/

/-- The unit vector at an angle of `a` hundredths of a degree. -/
noncomputable def unitAt (a : ℝ) : ℂ := Complex.exp ((a * (Real.pi / 18000) : ℝ) * I)

theorem unitAt_re (a : ℝ) : (unitAt a).re = Real.cos (a * (Real.pi / 18000)) :=
  Complex.exp_ofReal_mul_I_re _

theorem unitAt_im (a : ℝ) : (unitAt a).im = Real.sin (a * (Real.pi / 18000)) :=
  Complex.exp_ofReal_mul_I_im _

theorem unitAt_add (a b : ℝ) : unitAt (a + b) = unitAt a * unitAt b := by
  rw [unitAt, unitAt, unitAt, ← Complex.exp_add, add_mul, Complex.ofReal_add, add_mul]

theorem unitAt_quarters (q : Nat) : unitAt (9000 * q) = I ^ q := by
  have hq : ((9000 * q * (Real.pi / 18000) : ℝ) * I : ℂ) = q * (Real.pi / 2 * I) := by
    push_cast; ring
  rw [unitAt, hq, Complex.exp_nat_mul, Complex.exp_pi_div_two_mul_I]

/-- Unit vectors are as near as their angles. -/
theorem norm_exp_sub_exp_le (x y : ℝ) :
    ‖Complex.exp (x * I) - Complex.exp (y * I)‖ ≤ |x - y| := by
  have hfactor : Complex.exp (x * I) - Complex.exp (y * I) =
      Complex.exp (y * I) * (Complex.exp (I * (x - y : ℝ)) - 1) := by
    rw [mul_sub, mul_one, ← Complex.exp_add]
    push_cast
    ring_nf
  rw [hfactor, norm_mul, Complex.norm_exp_ofReal_mul_I, one_mul]
  exact Real.norm_exp_I_mul_ofReal_sub_one_le

/-! ### The series -/

/-- A pair in fixed point as a complex number, in units of the last bit. -/
def fixedComplex (z : Int × Int) : ℂ := z.1 + z.2 * I

/-- Term `k` of the exponential series in fixed point, each the floor of what follows from the one
before. -/
def fixedTerm (x : Nat) : Nat → Nat
  | 0 => fixOne
  | k + 1 => fixedTerm x k * x / (fixOne * (k + 1))

/-- What the series adds for its term `k` of size `t`: the powers of the imaginary unit in turn. -/
def addTerm (k t : Nat) : Int × Int → Int × Int
  | (c, s) =>
    match k % 4 with
    | 0 => (c + t, s)
    | 1 => (c, s + t)
    | 2 => (c - t, s)
    | _ => (c, s - t)

theorem sinCosSeries_succ (x fuel k t : Nat) (acc : Int × Int) :
    sinCosSeries x (fuel + 1) k t acc =
      sinCosSeries x fuel (k + 1) (t * x / (fixOne * (k + 1))) (addTerm k t acc) := rfl

theorem fixedComplex_addTerm (k t : Nat) (acc : Int × Int) :
    fixedComplex (addTerm k t acc) = fixedComplex acc + I ^ k * t := by
  obtain ⟨c, s⟩ := acc
  have hmod : k % 4 < 4 := Nat.mod_lt _ (by decide)
  rw [Complex.I_pow_eq_pow_mod, addTerm]
  interval_cases k % 4 <;> simp [fixedComplex, pow_succ] <;> ring

theorem fixedComplex_sinCosSeries (x : Nat) : ∀ fuel k acc,
    fixedComplex (sinCosSeries x fuel k (fixedTerm x k) acc) =
      fixedComplex acc + ∑ j ∈ Finset.range fuel, I ^ (k + j) * fixedTerm x (k + j)
  | 0, k, acc => by simp [sinCosSeries]
  | fuel + 1, k, acc => by
    have hnext : fixedTerm x k * x / (fixOne * (k + 1)) = fixedTerm x (k + 1) := rfl
    rw [sinCosSeries_succ, hnext, fixedComplex_sinCosSeries x fuel (k + 1), fixedComplex_addTerm,
      Finset.sum_range_succ', add_zero]
    simp only [Nat.add_right_comm k 1, Nat.add_assoc]
    ring

theorem fixOne_pos : (0 : ℝ) < fixOne := by norm_num [fixOne]

/-- The floor of a quotient is within 1 of it. -/
theorem cast_div_error (a : Nat) {b : Nat} (hb : 0 < b) : |((a / b : Nat) : ℝ) - a / b| ≤ 1 := by
  have hle : ((a / b : Nat) : ℝ) ≤ a / b := Nat.cast_div_le
  have hlt : (a : ℝ) / b < (a / b : Nat) + 1 := by
    rw [div_lt_iff₀ (by exact_mod_cast hb)]
    have hfloor : a < (a / b + 1) * b := by
      rw [Nat.succ_mul]
      exact Nat.lt_div_mul_add hb
    exact_mod_cast hfloor
  rw [abs_le]
  constructor <;> linarith

/-- Each term loses at most 1 to its own floor. -/
theorem fixedTerm_succ_error (x k : Nat) :
    |(fixedTerm x (k + 1) : ℝ) - fixedTerm x k * (x / fixOne / (k + 1))| ≤ 1 := by
  have hone := fixOne_pos
  have hquot : (fixedTerm x k : ℝ) * (x / fixOne / (k + 1)) =
      (fixedTerm x k * x : Nat) / (fixOne * (k + 1) : Nat) := by
    push_cast
    field_simp
  rw [hquot]
  exact cast_div_error _ (Nat.mul_pos (by exact_mod_cast hone) k.succ_pos)

/-- For an angle of at most 2 the losses of the terms before do not grow. -/
theorem fixedTerm_error {x : Nat} (hx : (x : ℝ) / fixOne ≤ 2) : ∀ k,
    |(fixedTerm x k : ℝ) - fixOne * ((x / fixOne) ^ k / k.factorial)| ≤ k
  | 0 => by simp [fixedTerm]
  | k + 1 => by
    have ih := fixedTerm_error hx k
    have hown := fixedTerm_succ_error x k
    have hθ : 0 ≤ (x : ℝ) / fixOne := by positivity
    generalize (x : ℝ) / fixOne = θ at *
    set r : ℝ := θ / (k + 1) with hr
    have hr0 : 0 ≤ r := by positivity
    have hkr : k * r ≤ k := by
      rcases Nat.eq_zero_or_pos k with h0 | hpos
      · simp [h0]
      · have hk : (1 : ℝ) ≤ k := by exact_mod_cast hpos
        have hr1 : r ≤ 1 := by rw [hr, div_le_one (by positivity)]; linarith
        exact mul_le_of_le_one_right (by positivity) hr1
    have hterm : θ ^ (k + 1) / (k + 1).factorial = θ ^ k / k.factorial * r := by
      rw [Nat.factorial_succ, hr, pow_succ]; push_cast; field_simp
    calc |(fixedTerm x (k + 1) : ℝ) - fixOne * (θ ^ (k + 1) / (k + 1).factorial)|
        = |(fixedTerm x (k + 1) - fixedTerm x k * r) +
            (fixedTerm x k - fixOne * (θ ^ k / k.factorial)) * r| := by rw [hterm]; ring_nf
      _ ≤ 1 + k * r := by
        refine (abs_add_le _ _).trans (add_le_add hown ?_)
        rw [abs_mul, abs_of_nonneg hr0]
        exact mul_le_mul_of_nonneg_right ih hr0
      _ ≤ (k + 1 : Nat) := by push_cast; linarith

/-- The sixty terms of the series against the unit vector of the fixed-point angle. -/
theorem sinCosSeries_error {x : Nat} (hx : (x : ℝ) / fixOne ≤ 2) :
    ‖fixedComplex (sinCosSeries x 60 0 fixOne (0, 0)) -
      fixOne * Complex.exp ((x / fixOne : ℝ) * I)‖ ≤ fixOne / 10 ^ 21 := by
  have hθ : 0 ≤ (x : ℝ) / fixOne := by positivity
  have hsum : fixedComplex (sinCosSeries x 60 0 fixOne (0, 0)) =
      ∑ j ∈ Finset.range 60, I ^ j * fixedTerm x j := by
    have h := fixedComplex_sinCosSeries x 60 0 (0, 0)
    simpa [fixedComplex, fixedTerm] using h
  set θ : ℝ := x / fixOne
  have htail : ‖Complex.exp (θ * I) - ∑ j ∈ Finset.range 60, (θ * I) ^ j / (j.factorial : ℂ)‖ ≤
      2 ^ 60 / Nat.factorial 60 * 2 := by
    have hnorm : ‖(θ : ℂ) * I‖ = θ := by simp [abs_of_nonneg hθ]
    have hsmall : ‖(θ : ℂ) * I‖ / Nat.succ 60 ≤ 1 / 2 := by rw [hnorm]; norm_num; linarith
    refine (Complex.exp_bound' hsmall).trans ?_
    rw [hnorm]
    gcongr
  have hterms : ‖(∑ j ∈ Finset.range 60, I ^ j * (fixedTerm x j : ℂ)) -
      fixOne * ∑ j ∈ Finset.range 60, (θ * I) ^ j / (j.factorial : ℂ)‖ ≤
      ∑ j ∈ Finset.range 60, (j : ℝ) := by
    rw [Finset.mul_sum, ← Finset.sum_sub_distrib]
    refine norm_sum_le_of_le _ fun j _ => ?_
    have hreal : I ^ j * (fixedTerm x j : ℂ) - fixOne * ((θ * I) ^ j / (j.factorial : ℂ)) =
        I ^ j * ((fixedTerm x j - fixOne * (θ ^ j / j.factorial) : ℝ) : ℂ) := by
      push_cast; ring
    rw [hreal, norm_mul, norm_pow, Complex.norm_I, one_pow, one_mul, Complex.norm_real]
    exact fixedTerm_error hx j
  have hlost : ∑ j ∈ Finset.range 60, (j : ℝ) = 1770 := by norm_num [Finset.sum_range_succ]
  rw [hsum]
  refine (norm_sub_le_norm_sub_add_norm_sub _
    (fixOne * ∑ j ∈ Finset.range 60, (θ * I) ^ j / (j.factorial : ℂ)) _).trans ?_
  rw [← mul_sub, norm_mul, norm_sub_rev _ (Complex.exp _), Complex.norm_natCast]
  have hone := fixOne_pos
  have hbudget : (1770 : ℝ) + fixOne * (2 ^ 60 / Nat.factorial 60 * 2) ≤ fixOne / 10 ^ 21 := by
    norm_num [fixOne, Nat.factorial]
  have := mul_le_mul_of_nonneg_left htail hone.le
  linarith

/-! ### The angle in fixed point -/

/-- The floor of π in fixed point agrees with π in twenty places. -/
theorem fixPi_error : |(fixPi : ℝ) / fixOne - Real.pi| ≤ 1 / 10 ^ 20 := by
  have hlo := Real.pi_gt_d20
  have hhi := Real.pi_lt_d20
  have hfix : (3.14159265358979323846 : ℝ) ≤ fixPi / fixOne ∧
      (fixPi : ℝ) / fixOne ≤ 3.14159265358979323847 := by
    norm_num [fixPi, fixOne]
  rw [abs_le]
  constructor <;> linarith [hfix.1, hfix.2]

/-- The fixed-point angle of `num / den` hundredths within a quarter turn. -/
theorem fixedAngle_error {num den : Nat} (hden : 0 < den) (hle : num ≤ 9000 * den) :
    |((num * fixPi / (den * 18000) : Nat) : ℝ) / fixOne - num / den * (Real.pi / 18000)| ≤
      9 / 10 ^ 21 := by
  have hone := fixOne_pos
  have hd : (0 : ℝ) < den := by exact_mod_cast hden
  have hratio : (num : ℝ) / den ≤ 9000 := by rw [div_le_iff₀ hd]; exact_mod_cast hle
  have hfloor := cast_div_error (num * fixPi) (b := den * 18000) (by omega)
  have hquot : ((num * fixPi : Nat) : ℝ) / (den * 18000 : Nat) =
      fixOne * (num / den * (fixPi / fixOne / 18000)) := by push_cast; field_simp
  have hscaled : |((num * fixPi / (den * 18000) : Nat) : ℝ) / fixOne -
      num / den * (fixPi / fixOne / 18000)| ≤ 1 / fixOne := by
    rw [le_div_iff₀ hone, ← abs_of_pos hone, ← abs_mul, abs_of_pos hone, sub_mul,
      div_mul_cancel₀ _ hone.ne', mul_comm _ (fixOne : ℝ), ← hquot]
    exact hfloor
  have hpi : |(num : ℝ) / den * (fixPi / fixOne / 18000) - num / den * (Real.pi / 18000)| ≤
      9000 * (1 / 10 ^ 20 / 18000) := by
    rw [← mul_sub, ← sub_div, abs_mul, abs_of_nonneg (a := (num : ℝ) / den) (by positivity), abs_div,
      abs_of_pos (a := (18000 : ℝ)) (by norm_num)]
    gcongr
    exact fixPi_error
  have hbudget : 1 / (fixOne : ℝ) + 9000 * (1 / 10 ^ 20 / 18000) ≤ 9 / 10 ^ 21 := by
    norm_num [fixOne]
  exact (abs_sub_le _ _ _).trans ((add_le_add hscaled hpi).trans hbudget)

/-- Sine and cosine within a quarter turn are those of the angle to twenty places. -/
theorem sinCosQuarter_error {num den : Nat} (hden : 0 < den) (hle : num ≤ 9000 * den) :
    ‖fixedComplex (sinCosQuarter num den) - fixOne * unitAt (num / den)‖ ≤ fixOne / 10 ^ 20 := by
  have hangle := fixedAngle_error hden hle
  have hd : (0 : ℝ) < den := by exact_mod_cast hden
  have hratio : (num : ℝ) / den ≤ 9000 := by rw [div_le_iff₀ hd]; exact_mod_cast hle
  have hx : ((num * fixPi / (den * 18000) : Nat) : ℝ) / fixOne ≤ 2 := by
    have hpi := Real.pi_lt_d2
    have hmul : (num : ℝ) / den * (Real.pi / 18000) ≤ 9000 * (Real.pi / 18000) := by gcongr
    have := (abs_le.mp hangle).2
    linarith
  refine (norm_sub_le_norm_sub_add_norm_sub _
    (fixOne * Complex.exp ((((num * fixPi / (den * 18000) : Nat) : ℝ) / fixOne : ℝ) * I)) _).trans ?_
  rw [unitAt, ← mul_sub, norm_mul, Complex.norm_natCast]
  have hseries := sinCosSeries_error hx
  have hunit := mul_le_mul_of_nonneg_left ((norm_exp_sub_exp_le _ _).trans hangle) fixOne_pos.le
  unfold sinCosQuarter
  linarith

/-- The whole quarter turns are exact, so sine and cosine of any angle are as near. -/
theorem sinCos_error (num : Nat) {den : Nat} (hden : 0 < den) :
    ‖fixedComplex (sinCos num den) - fixOne * unitAt (num / den)‖ ≤ fixOne / 10 ^ 20 := by
  set q := num / (9000 * den) with hq
  have hsplit : num = (num - q * (9000 * den)) + q * (9000 * den) :=
    (Nat.sub_add_cancel (Nat.div_mul_le_self _ _)).symm
  have hrest : num - q * (9000 * den) ≤ 9000 * den := by
    have := Nat.lt_div_mul_add (a := num) (b := 9000 * den) (by omega)
    rw [← hq] at this
    omega
  have hturn : fixedComplex (sinCos num den) =
      I ^ q * fixedComplex (sinCosQuarter (num - q * (9000 * den)) den) := by
    have hmod : q % 4 < 4 := Nat.mod_lt _ (by decide)
    rw [Complex.I_pow_eq_pow_mod]
    unfold sinCos
    rw [← hq]
    dsimp only
    generalize sinCosQuarter (num - q * (9000 * den)) den = z
    interval_cases q % 4 <;> simp [fixedComplex, pow_succ, mul_add] <;> ring_nf <;> simp
  have hunit : unitAt (num / den) = I ^ q * unitAt ((num - q * (9000 * den) : Nat) / den) := by
    have hd : (den : ℝ) ≠ 0 := by exact_mod_cast hden.ne'
    have hsum : (num : ℝ) / den = 9000 * q + (num - q * (9000 * den) : Nat) / den := by
      conv_lhs => rw [hsplit]
      push_cast
      field_simp
      ring
    rw [hsum, unitAt_add, unitAt_quarters]
  have hpull : I ^ q * fixedComplex (sinCosQuarter (num - q * (9000 * den)) den) -
      fixOne * (I ^ q * unitAt ((num - q * (9000 * den) : Nat) / den)) =
      I ^ q * (fixedComplex (sinCosQuarter (num - q * (9000 * den)) den) -
        fixOne * unitAt ((num - q * (9000 * den) : Nat) / den)) := by ring
  rw [hturn, hunit, hpull, norm_mul, norm_pow, Complex.norm_I, one_pow, one_mul]
  exact sinCosQuarter_error hden hrest

end Sys2Proof.Machine
end

section
/-! SUPPORT. The heading of a vector (R43, R45) against its exact angle, and the roundings of R41. -/

namespace Sys2Proof.Machine

open Complex (I)

/-! ### The boundary between two hundredths -/

/-- Within a quarter turn an angle whose sine is at most 10⁻²⁰ is no billionth of a hundredth. -/
theorem angle_le_of_sin_le {x : ℝ} (hx : x ≤ Real.pi / 2) (hsin : Real.sin x ≤ 1 / 10 ^ 20) :
    x ≤ 1 / 10 ^ 9 * (Real.pi / 18000) := by
  by_contra hgt
  have hpi := Real.pi_pos
  have hpos : 0 ≤ x := le_of_lt (lt_of_le_of_lt (by positivity) (not_le.mp hgt))
  have hjordan := Real.mul_le_sin hpos hx
  have hlow : 2 / Real.pi * (1 / 10 ^ 9 * (Real.pi / 18000)) ≤ 2 / Real.pi * x := by
    gcongr
    exact (not_le.mp hgt).le
  have hconst : 2 / Real.pi * (1 / 10 ^ 9 * (Real.pi / 18000)) = 2 / 10 ^ 9 / 18000 := by
    field_simp
  rw [hconst] at hlow
  norm_num at hlow hsin
  linarith

theorem pastBoundary_iff (u w k : Nat) :
    pastBoundary u w k = true ↔ (u : ℝ) * (sinCosQuarter (2 * k + 1) 2).2 ≤
      w * (sinCosQuarter (2 * k + 1) 2).1 := by
  unfold pastBoundary
  generalize sinCosQuarter (2 * k + 1) 2 = z
  rw [decide_eq_true_iff]
  exact_mod_cast Iff.rfl

section Quarter

variable {u w : Nat} {r φ : ℝ} (hr : 0 < r) (hu : (u : ℝ) = r * Real.cos φ)
  (hw : (w : ℝ) = r * Real.sin φ) {k : Nat} (hk : k < 9000)

include hr hu hw hk

/-- What `pastBoundary` compares is the sine of the angle from the vector to the boundary, but for the
error of the fixed point. -/
theorem boundary_sin_error :
    |u * (sinCosQuarter (2 * k + 1) 2).2 - w * (sinCosQuarter (2 * k + 1) 2).1 -
      r * fixOne * Real.sin ((k + 1 / 2) * (Real.pi / 18000) - φ)| ≤ r * fixOne / 10 ^ 20 := by
  have hquarter := sinCosQuarter_error (num := 2 * k + 1) (den := 2) (by decide) (by omega)
  have hangle : ((2 * k + 1 : Nat) : ℝ) / (2 : Nat) = k + 1 / 2 := by push_cast; ring
  rw [hangle] at hquarter
  generalize sinCosQuarter (2 * k + 1) 2 = z at *
  have him : ((r * Complex.exp ((-φ : ℝ) * I)) * (fixedComplex z - fixOne * unitAt (k + 1 / 2))).im =
      u * z.2 - w * z.1 - r * fixOne * Real.sin ((k + 1 / 2) * (Real.pi / 18000) - φ) := by
    simp only [Complex.mul_im, Complex.mul_re, Complex.sub_re, Complex.sub_im, Complex.ofReal_re,
      Complex.ofReal_im, Complex.exp_ofReal_mul_I_re, Complex.exp_ofReal_mul_I_im, unitAt_re,
      unitAt_im, fixedComplex, Complex.add_re, Complex.add_im, Complex.intCast_re,
      Complex.intCast_im, Complex.natCast_re, Complex.natCast_im, Complex.I_re, Complex.I_im,
      Real.cos_neg, Real.sin_neg, Real.sin_sub, hu, hw]
    ring
  rw [← him]
  refine (Complex.abs_im_le_norm _).trans ?_
  rw [norm_mul, norm_mul, Complex.norm_exp_ofReal_mul_I, Complex.norm_real, Real.norm_of_nonneg hr.le,
    mul_one, mul_div_assoc]
  exact mul_le_mul_of_nonneg_left hquarter hr.le

/-- A vector that has passed the boundary lies no more than a billionth below it. -/
theorem pastBoundary_angle (hφ : 0 ≤ φ) (hpast : pastBoundary u w k = true) :
    (k + 1 / 2) * (Real.pi / 18000) - φ ≤ 1 / 10 ^ 9 * (Real.pi / 18000) := by
  have herr := (abs_le.mp (boundary_sin_error hr hu hw hk)).1
  have hcmp := (pastBoundary_iff u w k).mp hpast
  have hpi := Real.pi_pos
  have hkr : (k : ℝ) + 1 / 2 ≤ 9000 := by
    have : (k : ℝ) + 1 ≤ 9000 := by exact_mod_cast hk
    linarith
  refine angle_le_of_sin_le (by nlinarith) ?_
  have hscale : 0 < r * fixOne := mul_pos hr fixOne_pos
  rw [← mul_le_mul_iff_right₀ hscale]
  linarith [mul_one_div (r * fixOne) (10 ^ 20)]

/-- A vector that has not lies no more than a billionth above it. -/
theorem notPast_angle (hφ : φ ≤ Real.pi / 2) (hpast : pastBoundary u w k = false) :
    φ - (k + 1 / 2) * (Real.pi / 18000) ≤ 1 / 10 ^ 9 * (Real.pi / 18000) := by
  have herr := (abs_le.mp (boundary_sin_error hr hu hw hk)).2
  have hcmp := not_le.mp (mt (pastBoundary_iff u w k).mpr (Bool.eq_false_iff.mp hpast))
  have hpi := Real.pi_pos
  have hkr : (0 : ℝ) ≤ (k + 1 / 2) * (Real.pi / 18000) := by positivity
  refine angle_le_of_sin_le (by linarith) ?_
  have hscale : 0 < r * fixOne := mul_pos hr fixOne_pos
  rw [← mul_le_mul_iff_right₀ hscale, ← neg_sub ((k + 1 / 2) * (Real.pi / 18000)) φ, Real.sin_neg]
  linarith [mul_one_div (r * fixOne) (10 ^ 20)]

end Quarter

/-! ### The search (R43) -/

/-- The bisection ends between a boundary passed and one not passed. -/
theorem angleSearch_spec (u w : Nat) : ∀ fuel lo hi, lo ≤ hi → hi - lo < 2 ^ fuel →
    lo ≤ angleSearch u w fuel lo hi ∧ angleSearch u w fuel lo hi ≤ hi ∧
      (lo < angleSearch u w fuel lo hi →
        pastBoundary u w (angleSearch u w fuel lo hi - 1) = true) ∧
      (angleSearch u w fuel lo hi < hi → pastBoundary u w (angleSearch u w fuel lo hi) = false)
  | 0, lo, hi, hle, hfuel => by
    have : lo = hi := by omega
    simp [angleSearch, this]
  | fuel + 1, lo, hi, hle, hfuel => by
    rw [angleSearch]
    by_cases hlt : lo < hi
    · rw [if_pos hlt]
      dsimp only
      by_cases hpast : pastBoundary u w ((lo + hi) / 2) = true
      · rw [if_pos hpast]
        obtain ⟨hge, hle', habove, hbelow⟩ :=
          angleSearch_spec u w fuel ((lo + hi) / 2 + 1) hi (by omega) (by omega)
        refine ⟨by omega, hle', fun _ => ?_, hbelow⟩
        rcases Nat.eq_or_lt_of_le hge with heq | hgt
        · rw [← heq, Nat.add_sub_cancel, hpast]
        · exact habove hgt
      · rw [if_neg hpast]
        obtain ⟨hge, hle', habove, hbelow⟩ :=
          angleSearch_spec u w fuel lo ((lo + hi) / 2) (by omega) (by omega)
        refine ⟨hge, by omega, habove, fun _ => ?_⟩
        rcases Nat.eq_or_lt_of_le hle' with heq | hgt
        · rw [heq]; exact Bool.eq_false_iff.mpr hpast
        · exact hbelow hgt
    · rw [if_neg hlt]
      have : lo = hi := by omega
      simp [this]

/-! ### Headings -/

/-- The direction `h` lies within half a hundredth of the vector's own, with the billionth of log 8. -/
def nearHeading (dx dy : ℝ) (h : Nat) : Prop :=
  √(dx ^ 2 + dy ^ 2) * Real.cos ((1 / 2 + 1 / 10 ^ 9) * (Real.pi / 18000)) ≤
    dx * Real.cos (h * (Real.pi / 18000)) + dy * Real.sin (h * (Real.pi / 18000))

theorem nearHeading_of_angle {r φ : ℝ} {h : Nat} (hr : 0 ≤ r)
    (hnear : |φ - h * (Real.pi / 18000)| ≤ (1 / 2 + 1 / 10 ^ 9) * (Real.pi / 18000)) :
    nearHeading (r * Real.cos φ) (r * Real.sin φ) h := by
  have hpi := Real.pi_pos
  have hlength : √((r * Real.cos φ) ^ 2 + (r * Real.sin φ) ^ 2) = r := by
    rw [mul_pow, mul_pow, ← mul_add, Real.cos_sq_add_sin_sq, mul_one, Real.sqrt_sq hr]
  have hcos := Real.cos_le_cos_of_nonneg_of_le_pi (abs_nonneg _) (by linarith) hnear
  rw [Real.cos_abs, Real.cos_sub] at hcos
  rw [nearHeading, hlength]
  calc r * Real.cos ((1 / 2 + 1 / 10 ^ 9) * (Real.pi / 18000))
      ≤ r * (Real.cos φ * Real.cos (h * (Real.pi / 18000)) +
          Real.sin φ * Real.sin (h * (Real.pi / 18000))) := mul_le_mul_of_nonneg_left hcos hr
    _ = _ := by ring

theorem nearHeading_quarter {u w : Nat} (hu : 0 < u) (hw : 0 < w) :
    nearHeading u w (quarterAngle u w) := by
  have hpi := Real.pi_pos
  have hu' : (0 : ℝ) < u := by exact_mod_cast hu
  have hw' : (0 : ℝ) < w := by exact_mod_cast hw
  set z : ℂ := ⟨u, w⟩ with hz
  have hre : (u : ℝ) = ‖z‖ * Real.cos z.arg := (Complex.norm_mul_cos_arg z).symm
  have him : (w : ℝ) = ‖z‖ * Real.sin z.arg := (Complex.norm_mul_sin_arg z).symm
  have hr : 0 < ‖z‖ := norm_pos_iff.mpr fun h0 => hu'.ne' (congrArg Complex.re h0)
  have hφ0 : 0 ≤ z.arg := Complex.arg_nonneg_iff.mpr hw'.le
  have hφ1 : z.arg ≤ Real.pi / 2 := (Complex.abs_arg_le_pi_div_two_iff.mpr hu'.le |> abs_le.mp).2
  obtain ⟨-, hle, hpast, hnot⟩ := angleSearch_spec u w 15 0 9000 (by decide) (by decide)
  change quarterAngle u w ≤ 9000 at hle
  change 0 < quarterAngle u w → pastBoundary u w (quarterAngle u w - 1) = true at hpast
  change quarterAngle u w < 9000 → pastBoundary u w (quarterAngle u w) = false at hnot
  generalize quarterAngle u w = k at *
  have hlow : k * (Real.pi / 18000) - z.arg ≤ (1 / 2 + 1 / 10 ^ 9) * (Real.pi / 18000) := by
    rcases Nat.eq_zero_or_pos k with h0 | hpos
    · rw [h0]; push_cast; linarith
    · obtain ⟨j, rfl⟩ := Nat.exists_eq_succ_of_ne_zero hpos.ne'
      have := pastBoundary_angle hr hre him (k := j) (by omega) hφ0 (hpast hpos)
      push_cast
      linarith
  have hhigh : z.arg - k * (Real.pi / 18000) ≤ (1 / 2 + 1 / 10 ^ 9) * (Real.pi / 18000) := by
    rcases Nat.eq_or_lt_of_le hle with h9 | hlt
    · rw [h9]; push_cast; linarith
    · linarith [notPast_angle hr hre him hlt hφ1 (hnot hlt)]
  rw [hre, him]
  exact nearHeading_of_angle hr.le (abs_le.mpr ⟨by linarith, hhigh⟩)

/-- A vector along its axis. -/
theorem nearHeading_axis {r : ℝ} (hr : 0 ≤ r) : nearHeading r 0 0 := by
  have h := nearHeading_of_angle (φ := 0) (h := 0) hr (by
    rw [Nat.cast_zero, zero_mul, sub_zero, abs_zero]; positivity)
  simpa using h

/-- A quarter turn of vector and heading together. -/
theorem nearHeading.turn {dx dy : ℝ} {h : Nat} (hnear : nearHeading dy (-dx) h) :
    nearHeading dx dy (9000 + h) := by
  have hangle : ((9000 + h : Nat) : ℝ) * (Real.pi / 18000) =
      h * (Real.pi / 18000) + Real.pi / 2 := by push_cast; ring
  have hlength : dy ^ 2 + (-dx) ^ 2 = dx ^ 2 + dy ^ 2 := by ring
  rw [nearHeading, hlength] at hnear
  rw [nearHeading, hangle, Real.cos_add_pi_div_two, Real.sin_add_pi_div_two]
  linarith

/-- Whole turns do not matter. -/
theorem nearHeading.reduce {dx dy : ℝ} {n : Nat} (hnear : nearHeading dx dy n) {a : Int}
    (ha : a = n) : nearHeading dx dy (reduceHeading a) := by
  subst ha
  have hangle : (n : ℝ) * (Real.pi / 18000) =
      (n % 36000 : Nat) * (Real.pi / 18000) + (n / 36000 : Nat) * (2 * Real.pi) := by
    have hdiv : (n : ℝ) = (n % 36000 : Nat) + 36000 * (n / 36000 : Nat) := by
      exact_mod_cast (Nat.mod_add_div n 36000).symm
    conv_lhs => rw [hdiv]
    ring
  rw [nearHeading, hangle, Real.cos_add_nat_mul_two_pi, Real.sin_add_nat_mul_two_pi] at hnear
  rwa [nearHeading, reduceHeading_nat]

theorem vectorHeading_lt (dx dy : Int) : vectorHeading dx dy < 36000 := by
  unfold vectorHeading
  (repeat' split) <;> first | exact reduceHeading_lt _ | omega

/-- The same for whole coordinates. -/
theorem nearHeading.turnInt {dx dy : Int} {h n : Nat} (hnear : nearHeading dy (-dx : Int) h)
    (hn : n = 9000 + h) : nearHeading dx dy n := by
  rw [Int.cast_neg] at hnear
  exact hn ▸ hnear.turn

theorem nearHeading_positive {dx dy : Int} (hx : 0 < dx) (hy : 0 < dy) :
    nearHeading dx dy (quarterAngle dx.natAbs dy.natAbs) := by
  lift dx to ℕ using hx.le
  lift dy to ℕ using hy.le
  exact_mod_cast nearHeading_quarter (by exact_mod_cast hx) (by exact_mod_cast hy)

/-- Along an axis the heading is the axis's own; elsewhere the vector is turned by quarters to one with
positive coordinates. -/
theorem nearHeading_vectorHeading (dx dy : Int) : nearHeading dx dy (vectorHeading dx dy) := by
  have haxis {z : Int} (hz : 0 ≤ z) : nearHeading z (0 : Int) 0 := by
    simpa using nearHeading_axis (r := z) (by exact_mod_cast hz)
  have hup {z : Int} (hz : 0 ≤ z) : nearHeading (0 : Int) z 9000 :=
    nearHeading.turnInt (by rw [neg_zero]; exact haxis hz) rfl
  have hturned {a b : Int} (ha : a < 0) (hb : 0 < b) :
      nearHeading a b (9000 + quarterAngle b.natAbs a.natAbs) := by
    have hnear := nearHeading_positive hb (dy := -a) (by omega)
    rw [Int.natAbs_neg] at hnear
    exact hnear.turnInt rfl
  unfold vectorHeading
  split_ifs with hy hx hx hy' hy' hx' hx'
  · subst hy
    exact haxis hx
  · subst hy
    exact (hup (by omega)).turnInt (by norm_num)
  · subst hx
    exact hup hy'.le
  · subst hx
    have hleft : nearHeading dy (-0 : Int) 18000 := by
      rw [neg_zero]
      exact (hup (by omega)).turnInt (by norm_num)
    exact hleft.turnInt (by norm_num)
  · exact (nearHeading_positive hx' hy').reduce rfl
  · exact (hturned (a := dx) (by omega) hy').reduce (by omega)
  · have hnear := hturned (a := dy) (b := -dx) (by omega) (by omega)
    rw [Int.natAbs_neg] at hnear
    have hhalf := hnear.turnInt (n := 18000 + quarterAngle dx.natAbs dy.natAbs) (by omega)
    exact hhalf.reduce (by omega)
  · have hnear := hturned (a := -dx) (b := -dy) (by omega) (by omega)
    rw [Int.natAbs_neg, Int.natAbs_neg] at hnear
    have hhalf := hnear.turnInt (n := 18000 + quarterAngle dy.natAbs dx.natAbs) (by omega)
    have hthree := hhalf.turnInt (n := 27000 + quarterAngle dy.natAbs dx.natAbs) (by omega)
    exact hthree.reduce (by omega)

/-! ### Roundings (R41) -/

/-- Twice the rounded root lies between the two neighbours of the root of 4 n. -/
theorem rootRound_spec {n : Nat} (hn : 0 < n) :
    (2 * rootRound n - 1) ^ 2 ≤ 4 * n ∧ 4 * n < (2 * rootRound n + 1) ^ 2 ∧ 1 ≤ rootRound n := by
  obtain ⟨hlo, hhi⟩ := isqrt_spec (4 * n)
  have hm : rootRound n = (isqrt (4 * n) + 1) / 2 := rfl
  have hroot : 1 ≤ isqrt (4 * n) := by
    by_contra h0
    rw [Nat.lt_one_iff.mp (Nat.lt_of_not_le h0)] at hhi
    omega
  exact ⟨(Nat.pow_le_pow_left (by omega) 2).trans hlo,
    hhi.trans_le (Nat.pow_le_pow_left (by omega) 2), by omega⟩

theorem rootRound_bounds {n : Nat} (hn : 0 < n) :
    ((rootRound n : ℚ) - 1 / 2) ^ 2 ≤ n ∧ (n : ℚ) < ((rootRound n : ℚ) + 1 / 2) ^ 2 := by
  obtain ⟨hlo, hhi, hpos⟩ := rootRound_spec hn
  have hlo' : (2 * (rootRound n : ℚ) - 1) ^ 2 ≤ 4 * n := by
    have hcast : ((2 * rootRound n - 1 : Nat) : ℚ) = 2 * rootRound n - 1 := by
      rw [Nat.cast_sub (by omega)]; push_cast; rfl
    rw [← hcast]
    exact_mod_cast hlo
  have hhi' : 4 * (n : ℚ) < (2 * rootRound n + 1) ^ 2 := by exact_mod_cast hhi
  constructor <;> linarith

theorem roundDiv_bounds (num : Int) {den : Nat} (hden : 0 < den) :
    (roundDiv num den : ℚ) - 1 / 2 ≤ (num : ℚ) / den ∧
      (num : ℚ) / den < (roundDiv num den : ℚ) + 1 / 2 := by
  have hd : (0 : ℚ) < den := by exact_mod_cast hden
  have hdiv : (0 : Int) < 2 * den := by omega
  have hlo : roundDiv num den * (2 * den) ≤ 2 * num + den := Int.ediv_mul_le _ hdiv.ne'
  have hhi : 2 * num + den < (roundDiv num den + 1) * (2 * den) := Int.lt_ediv_add_one_mul_self _ hdiv
  have hlo' : (roundDiv num den : ℚ) * (2 * den) ≤ 2 * num + den := by exact_mod_cast hlo
  have hhi' : (2 * num + den : ℚ) < (roundDiv num den + 1) * (2 * den) := by exact_mod_cast hhi
  rw [le_div_iff₀ hd, div_lt_iff₀ hd]
  constructor <;> linarith

theorem ceilDiv_bounds (num : Nat) {den : Nat} (hden : 0 < den) :
    (num : ℚ) / den ≤ (ceilDiv num den : ℚ) ∧ (ceilDiv num den : ℚ) < (num : ℚ) / den + 1 := by
  have hd : (0 : ℚ) < den := by exact_mod_cast hden
  have hlo : num ≤ den * ceilDiv num den := (ceilDiv_le_iff hden _).mp le_rfl
  have hhi : den * ceilDiv num den < num + den := by
    rw [ceilDiv]
    have := Nat.mul_div_le (num + den - 1) den
    omega
  have hlo' : (num : ℚ) ≤ den * ceilDiv num den := by exact_mod_cast hlo
  have hhi' : (den * ceilDiv num den : ℚ) < num + den := by exact_mod_cast hhi
  refine ⟨by rw [div_le_iff₀ hd]; linarith, ?_⟩
  rw [← sub_lt_iff_lt_add, lt_div_iff₀ hd]
  linarith

theorem vectorLength_eq (dx dy : Int) :
    vectorLength dx dy = rootRound (dx ^ 2 + dy ^ 2).toNat := by rw [vectorLength, sq, sq]

/-- Settles O53: each rounding by its own bounds, and the heading by the bisection over the fixed-point
sines. -/
theorem roundings : Obligations.Roundings := by
  refine ⟨isqrt_spec, fun n => rootRound_bounds, rfl, fun num den => roundDiv_bounds num,
    fun num den => ceilDiv_bounds num, fun dx dy _ _ => ?_, fun p q => ⟨rfl, vectorLength_eq _ _⟩⟩
  refine ⟨vectorHeading_lt dx dy, fun hy hx => ?_, fun hx hy => ?_, fun hy hx => ?_, fun hx hy => ?_,
    fun hx hy => ?_, nearHeading_vectorHeading dx dy⟩
  · simp [vectorHeading, hy, hx.le]
  · simp [vectorHeading, hx, hy, hy.ne']
  · simp [vectorHeading, hy, hx]
  · simp [vectorHeading, hx, hy.ne, hy.le]
  · simp [vectorHeading, hx, hy]

end Sys2Proof.Machine
end

section
/-! SUPPORT. RESET_CUT (R91, R124), CLEAR_FAULT (R164, R165), SET_OVERRIDE (R125, R126) and JOG_START
(R128, R129). -/

namespace Sys2Proof.Machine

/-! ### Notices under a second change -/

/-- A further state entered answers for the change from the first state too (R63). -/
theorem stateNoticed.enter {s u : State} (h : stateNoticed s u) (st : FiState) :
    stateNoticed s (u.enter st) := by
  intro hc q
  by_cases hu : (u.enter st).fi.st.code = u.fi.st.code ∧ (u.enter st).fi.st.resume = u.fi.st.resume
  · rw [hu.1, hu.2] at hc
    exact (onlyNotices.refl u).enter st |>.2.2 q _ (h hc q)
  · rw [not_and_or] at hu
    exact stateNoticed_enter rfl st hu q

/-- A further change of the set answers for the change from the first state too (R119). -/
theorem holdsNoticed.putHolds {s u : State} (h : holdsNoticed s u) (x : HoldSet) :
    holdsNoticed s (u.putHolds x) := by
  intro hc q
  by_cases hu : (u.putHolds x).hj.holds = u.hj.holds
  · rw [hu] at hc
    exact (onlyNotices.refl u).putHolds x |>.2.2 q _ (h hc q)
  · exact holdsNoticed_putHolds rfl x hu q

theorem passesKept.endJog {r s : State} (h : passesKept r s) (c : EndCause) :
    passesKept r (s.endJog c) := by
  rw [State.endJog_rest]
  exact h

/-! ### RESET_CUT -/

theorem onlyNotices.cutJog {r s : State} (h : onlyNotices r s) : onlyNotices r s.cutJog :=
  h.endJog .resetCut

theorem passesKept.cutJog {r s : State} (h : passesKept r s) : passesKept r s.cutJog :=
  h.endJog .resetCut

/-- The end cause RESET_CUT leaves: its own for a running jog (R135, R138). -/
def HoldsJog.cutCause (j : HoldsJog) : Option EndCause :=
  match j.phase with
  | .running _ => some EndCause.resetCut
  | _ => j.endCause

theorem State.cutJog_hj (s : State) :
    s.cutJog.hj = { s.hj with phase := .none, endCause := s.hj.cutCause } := by
  simp only [State.cutJog, State.endJog_hj, HoldsJog.cutCause]
  cases s.hj.phase <;> rfl

/-- The flush of RESET_CUT with run-enable and the pause-after flag clear (R91). -/
def State.cutFlushed (s : State) : State :=
  { s.flush with fi := { s.flush.fi with runEnable := false, pauseAfter := false } }

theorem State.resetCut_eq (s : State) :
    s.resetCut = State.enter (State.cutJog (s.cutFlushed.putHolds
      { s.flush.hj.holds with job := false, blade := false, panel := false })) .idle := rfl

theorem State.resetCut_fi (s : State) :
    s.resetCut.fi = { s.fi.flushed .idle with runEnable := false, pauseAfter := false } := by
  rw [State.resetCut_eq, State.enter_fi, State.cutJog_fi, State.putHolds_fi, State.cutFlushed,
    State.flush_fi]
  rfl

theorem State.resetCut_cq (s : State) : s.resetCut.cq = s.cq.flushed s.fi := by
  simpa [State.resetCut_eq, State.cutFlushed] using s.flush_cq_flushed

theorem State.resetCut_sd (s : State) : s.resetCut.sd = s.sd.released s.fi := by
  simpa [State.resetCut_eq, State.cutFlushed] using s.flush_sd_released

theorem State.resetCut_hj (s : State) :
    s.resetCut.hj = { s.hj with
      holds := { s.hj.holds.released s.fi with job := false, blade := false, panel := false }
      phase := .none
      endCause := s.hj.cutCause } := by
  rw [State.resetCut_eq, State.enter_hj, State.cutJog_hj, State.putHolds_hj, State.cutFlushed,
    State.flush_hj_released]
  rfl

theorem onlyNotices_resetCut (s : State) : onlyNotices s s.resetCut := by
  have h : onlyNotices s s.cutFlushed := (onlyNotices.refl s).flush
  exact (h.putHolds _).cutJog.enter _

theorem passesKept_resetCut (s : State) : passesKept s s.resetCut := by
  have h : passesKept s s.cutFlushed := (passesKept.refl s).flush
  exact (h.putHolds _).cutJog.enter _

theorem stateNoticed_resetCut (s : State) : stateNoticed s s.resetCut :=
  stateNoticed_enter (by simp [State.flush_fi]) _

theorem demandNoticed_resetCut (s : State) : demandNoticed s s.resetCut := by
  have hlater : onlyNotices s.cutFlushed s.resetCut :=
    ((onlyNotices.refl s.cutFlushed).putHolds _).cutJog.enter _
  have hflush : demandNoticed s s.cutFlushed := demandNoticed_flush (s := s) rfl
  refine hflush.mono hlater ?_
  rw [State.resetCut_eq, State.enter_fi, State.cutJog_fi, State.putHolds_fi]

theorem holdsNoticed_resetCut (s : State) : holdsNoticed s s.resetCut := by
  have hflush : holdsNoticed s s.cutFlushed := holdsNoticed_flush (s := s) rfl
  refine (hflush.putHolds _).mono ((onlyNotices.refl _).cutJog.enter _) ?_
  rw [State.resetCut_eq, State.enter_hj, State.cutJog_hj]

/-- Settles O9: the effects of RESET_CUT in the order of R91, or its refusal. -/
theorem resetCut : Obligations.ResetCut := by
  intro s hs
  have hexec := exec_resetCut (d := []) hs (by simp [jobOnly]) rfl
  refine ⟨fun honline hfault => ?_, fun hst => ?_⟩
  · have hown : ownResetCut [] s = (s.resetCut, accept []) :=
      if_neg (by simp [honline, hfault])
    rw [hown] at hexec
    refine ⟨_, hexec, ?_, ?_, ?_, ?_, (stateNoticed_resetCut s).busy _ _ _,
      (demandNoticed_resetCut s).busy _ _ _, (holdsNoticed_resetCut s).busy _ _ _,
      answered_of_onlyNotices (onlyNotices_resetCut s) .., ?_⟩
    · rw [State.busy_cq, State.resetCut_cq]
    · rw [State.busy_sd, State.resetCut_sd]
    · rw [State.busy_fi, State.resetCut_fi]
    · exact (State.busy_hj ..).trans s.resetCut_hj
    · refine keptBut_busy (onlyNotices_resetCut s) (passesKept_resetCut s) (by simp) (by simp) ?_ _ _ _
      intro b hb
      cases b <;> simp_all [Block.same]
  · rw [hexec, ownResetCut, if_pos hst]

/-! ### CLEAR_FAULT -/

/-- The cause of a record is still present only for a STALL with the blade reported RUNNING and no
crank edge within the timeout (R164). -/
theorem State.causePresent_iff {s : State} {r : FaultRecord} (h : s.sv.record = some r) :
    s.causePresent = true ↔
      r.cause = .stall ∧ s.sd.running = true ∧ s.gt.settings.stallTimeout ≤ s.sd.edgeAge := by
  simp [State.causePresent, h, and_assoc]

/-- The fault record and the further-fault count are cleared (R165). -/
def State.faultForgotten (s : State) : State :=
  { s with sv := { s.sv with record := none, further := 0 } }

/-- CLEAR_FAULT up to the entry of IDLE (R165). -/
def State.faultFlushed (s : State) : State :=
  let s1 := s.faultForgotten.flush
  let s2 := s1.putHolds { s1.hj.holds with slow := false, driveOff := false }
  { s2 with fi := { s2.fi with runEnable := false, pauseAfter := false } }

theorem State.clearFault_eq (s : State) : s.clearFault = (s.faultFlushed.enter .idle).raisePermit := rfl

theorem State.faultFlushed_fi (s : State) :
    s.faultFlushed.fi = { s.fi.flushed s.fi.st with runEnable := false, pauseAfter := false } := by
  simp [State.faultFlushed, State.faultForgotten, State.flush_fi, Interpolator.flushed]

theorem State.clearFault_fi (s : State) :
    s.clearFault.fi = { s.fi.flushed .idle with runEnable := false, pauseAfter := false } := by
  rw [State.clearFault_eq, State.raisePermit_fi, State.enter_fi, State.faultFlushed_fi]
  rfl

theorem State.clearFault_sv (s : State) :
    s.clearFault.sv = { s.sv with record := none, further := 0, permit := true } := by
  simp [State.clearFault_eq, State.faultFlushed, State.faultForgotten]

theorem State.clearFault_cq (s : State) : s.clearFault.cq = s.cq.flushed s.fi := by
  simp [State.clearFault_eq, State.faultFlushed, State.faultForgotten, State.flush_cq_flushed]

theorem State.clearFault_sd (s : State) : s.clearFault.sd = s.sd.released s.fi := by
  simp [State.clearFault_eq, State.faultFlushed, State.faultForgotten, State.flush_sd_released]

theorem State.clearFault_hj (s : State) :
    s.clearFault.hj = { s.hj with holds := { s.hj.holds with slow := false, driveOff := false } } := by
  simp [State.clearFault_eq, State.faultFlushed, State.faultForgotten, State.flush_hj]
  split <;> simp

theorem onlyNotices_faultFlushed (s : State) : onlyNotices s s.faultFlushed := by
  have hflush : onlyNotices s s.faultForgotten.flush :=
    onlyNotices.flush (s := s.faultForgotten) (onlyNotices.refl s)
  exact hflush.putHolds _

theorem passesKept_faultFlushed (s : State) : passesKept s s.faultFlushed := by
  have hflush : passesKept s s.faultForgotten.flush :=
    passesKept.flush (s := s.faultForgotten) (passesKept.refl s)
  exact hflush.putHolds _

theorem onlyNotices_clearFault (s : State) : onlyNotices s s.clearFault :=
  (onlyNotices_faultFlushed s).enter .idle

theorem passesKept_clearFault (s : State) : passesKept s s.clearFault :=
  (passesKept_faultFlushed s).enter .idle

theorem pendingAll_clearFault {s : State} (hst : s.fi.st = .stopped) :
    pendingAll s.clearFault .state :=
  State.enter_pendingAll s.faultFlushed .idle
    (by simp [State.faultFlushed_fi, Interpolator.flushed, hst, FiState.code])

theorem demandNoticed_clearFault (s : State) : demandNoticed s s.clearFault := by
  have hflush : demandNoticed s s.faultForgotten.flush := demandNoticed_flush rfl
  have hlater : onlyNotices s.faultForgotten.flush s.clearFault :=
    onlyNotices.enter (s := s.faultFlushed) ((onlyNotices.refl _).putHolds _) .idle
  refine hflush.mono hlater ?_
  rw [State.clearFault_fi, State.flush_fi]
  rfl

/-- The request in progress is no part of what a hand-off lays. -/
theorem State.busy_handOff_ap (s : State) (p : Port) (kind : Byte) (r : Reply) :
    (s.busy p kind r).handOff.ap = s.handOff.ap := by
  simp [State.handOff, State.mpermit]

theorem permitRisen_clearFault (s : State) (p : Port) (kind : Byte) (r : Reply) :
    permitRisen s (s.clearFault.busy p kind r) := by
  refine ⟨?_, ?_⟩
  · rw [State.busy_ap, State.clearFault_ap]
    rfl
  · rw [State.busy_handOff_ap, State.clearFault_eq]
    exact State.raisePermit_handOff_laid _

/-- Settles O10: the two tests of R164, and the effects in the order of R165. -/
theorem clearFault : Obligations.ClearFault := by
  intro s r hs
  have hexec := exec_clearFault (d := []) hs (by simp [jobOnly]) rfl
  refine ⟨fun hst hr hgone => ?_, fun hst hr hcause hrunning hage => ?_, fun hst => ?_⟩
  · have hpresent : ¬ s.causePresent = true := by
      rw [State.causePresent_iff hr]
      rintro ⟨hcause, hrunning, hage⟩
      rcases hgone with h | h | h
      · exact h hcause
      · simp [h] at hrunning
      · exact Nat.not_le.mpr h hage
    have hown : ownClearFault [] s = (s.clearFault, accept []) := by
      rw [ownClearFault, if_neg (not_not.mpr hst), if_neg hpresent]
    rw [hown] at hexec
    refine ⟨_, hexec, ?_, ?_, ?_, ?_, ?_, permitRisen_clearFault s .., fun q => ?_,
      (demandNoticed_clearFault s).busy _ _ _, answered_of_onlyNotices (onlyNotices_clearFault s) .., ?_⟩
    · rw [State.busy_sv, State.clearFault_sv]
    · rw [State.busy_fi, State.clearFault_fi]
    · rw [State.busy_cq, State.clearFault_cq]
    · rw [State.busy_sd, State.clearFault_sd]
    · rw [State.busy_hj, State.clearFault_hj]
    · rw [State.busy_notices]
      exact pendingAll_clearFault hst q
    · refine keptBut_busy (onlyNotices_clearFault s) (passesKept_clearFault s) (by simp) (by simp) ?_ _ _ _
      intro b hb
      cases b <;> simp_all [Block.same]
  · rw [hexec, ownClearFault, if_neg (not_not.mpr hst),
      if_pos ((State.causePresent_iff hr).mpr ⟨hcause, hrunning, hage⟩)]
  · rw [hexec, ownClearFault, if_pos hst]

/-! ### SET_OVERRIDE -/

/-- The cap of R65 as the rules give it (log 20 for what no run reaches). -/
theorem State.cap_eq_capFor (s : State) : s.cap = s.capFor s.fi.st s.fi.active := by
  unfold State.cap State.capFor
  cases s.fi.active with
  | none => rfl
  | some e =>
    cases hk : e.kind
    case traverse => simp [withOverride, hk]
    case opening => simp [hk]
    all_goals
      cases s.fi.contour with
      | none => simp [hk]
      | some c =>
        by_cases hcrawl : s.fi.st = .cutCrawl ∨ s.fi.st = .holding .cutCrawl
        · rcases hcrawl with h | h <;> simp [withOverride, hk, h]
        · simp only [hk, hcrawl, if_false, withOverride, reduceCtorEq]
          split <;> simp_all

/-- The override takes a value. -/
def State.overridden (s : State) (v : Nat) : State := { s with hj := { s.hj with override := v } }

/-- A changed override reaches the cap and D (R126). -/
theorem State.setOverride_eq {s : State} {v : Nat} (h : v ≠ s.hj.override) :
    s.setOverride v = (s.overridden v).applyCap.recomputeDemand := if_neg h

theorem State.setOverride_fi {s : State} {v : Nat} (h : v ≠ s.hj.override) :
    (s.setOverride v).fi = { s.fi with
      v := if s.fi.st.capped then min s.fi.v ((s.overridden v).capFor s.fi.st s.fi.active) else s.fi.v
      demand := sourceDemand s.gt.grades v s.fi.contour s.cq.entries } := by
  rw [State.setOverride_eq h, State.recomputeDemand_fi, State.demandNow_eq_demandOf, State.demandOf,
    State.applyCap_gt, State.applyCap_hj, State.applyCap_cq, State.applyCap_fi, State.cap_eq_capFor]
  rfl

theorem passesKept.applyCap {r s : State} (h : passesKept r s) : passesKept r s.applyCap := by
  unfold State.applyCap
  split <;> exact h

theorem onlyNotices_setOverride {s : State} {v : Nat} (h : v ≠ s.hj.override) :
    onlyNotices s (s.setOverride v) := by
  have hover : onlyNotices s (s.overridden v) := onlyNotices.refl s
  rw [State.setOverride_eq h]
  exact hover.applyCap.recomputeDemand

theorem passesKept_setOverride {s : State} {v : Nat} (h : v ≠ s.hj.override) :
    passesKept s (s.setOverride v) := by
  have hover : passesKept s (s.overridden v) := passesKept.refl s
  rw [State.setOverride_eq h]
  exact hover.applyCap.recomputeDemand

/-- The cap is a function of the override, the settings, the contour and the period (R65). -/
theorem State.capFor_congr {s t : State} (hgt : t.gt = s.gt) (ho : t.hj.override = s.hj.override)
    (hc : t.fi.contour = s.fi.contour) (hp : t.sd.period = s.sd.period) (st : FiState)
    (e : Option Entry) : t.capFor st e = s.capFor st e := by
  unfold State.capFor
  rw [hgt, ho, hc, hp]

/-- Settles O22: an equal value changes nothing; another one reaches the cap and D. -/
theorem setOverride : Obligations.SetOverride := by
  intro s value hs hvalue stored reply
  have hfield : field (natBytes 2 value) 0 2 = value := by
    rw [field_natBytes, Nat.mod_eq_of_lt (by omega)]
  have hexec := exec_setOverride (d := natBytes 2 value) hs (by simp) (by simp)
  have hown : ownOverride (natBytes 2 value) s = (s.setOverride stored, reply) := by
    simp only [ownOverride, hfield]
    rfl
  rw [hown] at hexec
  refine ⟨fun heq => ?_, fun hne => ?_⟩
  · have hsame : s.setOverride stored = s := if_pos heq
    rw [hexec, hsame]
  · have hhj : (s.setOverride stored).hj = { s.hj with override := stored } := by
      simp [State.setOverride_eq hne, State.overridden]
    have hcap (st : FiState) (e : Option Entry) :
        ((s.setOverride stored).busy .panel 0x1D reply).capFor st e =
          (s.overridden stored).capFor st e :=
      State.capFor_congr (by simp [State.overridden]) (by simp [hhj, State.overridden])
        (by simp [State.setOverride_fi hne, State.overridden]) (by simp [State.overridden]) st e
    refine ⟨_, hexec, ?_, ?_, ?_, answered_of_onlyNotices (onlyNotices_setOverride hne) .., ?_⟩
    · rw [State.busy_hj, hhj]
    · rw [hcap, State.busy_fi, State.setOverride_fi hne]
    · rw [State.setOverride_eq hne]
      exact (demandNoticed_recomputeDemand (by simp [State.applyCap_fi, State.overridden])).busy _ _ _
    · refine keptBut_busy (onlyNotices_setOverride hne) (passesKept_setOverride hne) (by simp) (by simp)
        ?_ _ _ _
      intro b hb
      cases b <;> simp_all [Block.same]

/-! ### JOG_START -/

section JogFields

variable (axis direction : Byte) {speed : Nat} (hspeed : speed < 2 ^ 24)

theorem field_jog_axis : field ([axis, direction] ++ natBytes 3 speed) 0 1 = axis.toNat :=
  field_byte axis _

theorem field_jog_direction : field ([axis, direction] ++ natBytes 3 speed) 1 1 = direction.toNat :=
  (field_cons axis _ 0 1).trans (field_byte direction _)

include hspeed in
theorem field_jog_speed : field ([axis, direction] ++ natBytes 3 speed) 2 3 = speed := by
  have hbehind := (field_cons axis (direction :: natBytes 3 speed) 1 3).trans (field_cons direction _ 0 3)
  rw [field_natBytes, Nat.mod_eq_of_lt (by omega)] at hbehind
  exact hbehind

end JogFields

theorem axisOf_none {n : Nat} (h : 2 < n) : axisOf n = none := by
  match n, h with
  | n + 3, _ => rfl

/-- A code that names nothing is refused before any other test (R128). -/
theorem ownJogStart_unknown {axis direction : Byte} (h : 2 < axis.toNat ∨ 1 < direction.toNat)
    (rest : List Byte) (s : State) :
    ownJogStart ([axis, direction] ++ rest) s = (s, refuse .unknownKind) := by
  have haxis : field ([axis, direction] ++ rest) 0 1 = axis.toNat := field_byte axis _
  have hdirection : field ([axis, direction] ++ rest) 1 1 = direction.toNat :=
    (field_cons axis _ 0 1).trans (field_byte direction _)
  simp only [ownJogStart, haxis, hdirection]
  rcases h with h | h
  · rw [axisOf_none h]
  · split
    · rfl
    · exact if_pos h

/-- The request's payload with the codes of R200. -/
def jogPayload (axis : Axis) (positive : Bool) (speed : Nat) : List Byte :=
  natBytes 1 (axisCode axis) ++ natBytes 1 (if positive then 0 else 1) ++ natBytes 3 speed

/-- The tests of R128 behind the codes, and the jog they let start. -/
theorem ownJogStart_eq (axis : Axis) (positive : Bool) {speed : Nat} (hspeed : speed < 2 ^ 24)
    (s : State) :
    ownJogStart (jogPayload axis positive speed) s =
      if s.mayJog = false then (s, refuse .wrongState)
      else if s.hj.holds.job = true ∨ s.hj.holds.blade = true ∨ s.hj.holds.line = true then
        (s, refuse .heldByOther)
      else if s.jogLocked = true then (s, refuse .locked)
      else (s.startJog axis positive (s.jogSpeed axis speed),
        acceptFlags (clampedIf (decide (s.jogSpeed axis speed ≠ speed)))
          (jogPayload axis positive (s.jogSpeed axis speed))) := by
  have hbytes : jogPayload axis positive speed =
      [BitVec.ofNat 8 (axisCode axis), BitVec.ofNat 8 (if positive then 0 else 1)] ++
        natBytes 3 speed := by cases axis <;> cases positive <;> rfl
  have hdirection : (BitVec.ofNat 8 (if positive then 0 else 1)).toNat = if positive then 0 else 1 := by
    cases positive <;> rfl
  have haxis : axisOf (BitVec.ofNat 8 (axisCode axis)).toNat = some axis := by cases axis <;> rfl
  have hone : ¬ 1 < (if positive then 0 else 1) := by cases positive <;> decide
  have hzero : decide ((if positive then 0 else 1) = 0) = positive := by cases positive <;> rfl
  rw [hbytes]
  simp only [ownJogStart, field_jog_axis, field_jog_direction, field_jog_speed _ _ hspeed, haxis,
    hdirection, hone, hzero, if_false, Bool.not_eq_true', Bool.or_eq_true, or_assoc]
  rfl

theorem State.mayJog_iff (s : State) :
    s.mayJog = true ↔ (s.fi.st = .idle ∧ s.cq.entries = []) ∨ ∃ r, s.fi.st = .held r := by
  unfold State.mayJog
  cases hst : s.fi.st <;> simp

theorem State.mayJog_eq_false {s : State}
    (h : (s.fi.st ≠ .idle ∧ ∀ r, s.fi.st ≠ .held r) ∨ (s.fi.st = .idle ∧ s.cq.entries ≠ [])) :
    s.mayJog = false := by
  rw [Bool.eq_false_iff, ne_eq, State.mayJog_iff]
  rintro (⟨hidle, hempty⟩ | ⟨r, hheld⟩)
  · rcases h with ⟨hne, -⟩ | ⟨-, hne⟩
    · exact hne hidle
    · exact hne hempty
  · rcases h with ⟨-, hne⟩ | ⟨hidle, -⟩
    · exact hne r hheld
    · simp [hidle] at hheld

/-- The jog record and FI's counts at the start of a jog (R129). -/
def State.jogBegun (s : State) (m : JogMove) : State :=
  { s with fi := { s.fi with v := 0, rem := 0 }
           hj := { s.hj with phase := .running m, endCause := none } }

theorem State.startJog_eq (s : State) (axis : Axis) (positive : Bool) (speed : Nat) :
    s.startJog axis positive speed = (s.abandon.jogBegun
      { axis := axis, positive := positive, speed := speed, window := s.gt.settings.window
        timer := 0 }).enter .jog := rfl

theorem onlyNotices_abandon (s : State) : onlyNotices s s.abandon := by
  unfold State.abandon
  split
  · exact (onlyNotices.refl s).flush.raise _ _
  · exact onlyNotices.refl s

theorem passesKept_abandon (s : State) : passesKept s s.abandon := by
  unfold State.abandon
  split
  · exact (passesKept.refl s).flush.raise _ _
  · exact passesKept.refl s

theorem State.abandon_st (s : State) : s.abandon.fi.st = s.fi.st := by
  unfold State.abandon
  split
  · rw [State.raise_fi, State.flush_fi]
  · rfl

theorem demandNoticed_abandon (s : State) : demandNoticed s s.abandon := by
  unfold State.abandon
  split
  · exact (demandNoticed_flush rfl).mono ((onlyNotices.refl _).raise _ _) (by rw [State.raise_fi])
  · exact fun hc => absurd rfl hc

section StartJog

variable (s : State) (axis : Axis) (positive : Bool) (speed : Nat)

theorem State.startJog_fi :
    (s.startJog axis positive speed).fi = { s.abandon.fi with st := .jog, v := 0, rem := 0 } := by
  rw [State.startJog_eq, State.enter_fi]
  rfl

theorem State.startJog_hj :
    (s.startJog axis positive speed).hj = { s.abandon.hj with
      phase := .running { axis := axis, positive := positive, speed := speed,
                          window := s.gt.settings.window, timer := 0 }
      endCause := none } := by
  rw [State.startJog_eq, State.enter_hj]
  rfl

theorem onlyNotices_startJog_abandon : onlyNotices s.abandon (s.startJog axis positive speed) :=
  onlyNotices.enter (s := s.abandon.jogBegun _) (onlyNotices.refl _) _

theorem onlyNotices_startJog : onlyNotices s (s.startJog axis positive speed) :=
  onlyNotices.enter (s := s.abandon.jogBegun _) (onlyNotices_abandon s) _

theorem passesKept_startJog : passesKept s (s.startJog axis positive speed) :=
  passesKept.enter (s := s.abandon.jogBegun _) (passesKept_abandon s) _

theorem pendingAll_startJog (h : s.fi.st.code ≠ 9) :
    pendingAll (s.startJog axis positive speed) .state :=
  State.enter_pendingAll (s.abandon.jogBegun _) .jog (s.abandon_st ▸ h.symm)

theorem demandNoticed_startJog : demandNoticed s (s.startJog axis positive speed) :=
  (demandNoticed_abandon s).mono (onlyNotices_startJog_abandon s axis positive speed)
    (by rw [State.startJog_fi])

/-- From IDLE nothing is abandoned. -/
theorem State.abandon_idle (h : s.fi.st = .idle) : s.abandon = s := by
  unfold State.abandon
  rw [h]

/-- From HELD the held work is flushed, and ABANDONED is pending on the job port (R22, R129). -/
theorem State.abandon_held {r : Resume} (h : s.fi.st = .held r) :
    s.abandon = s.flush.raise .job .abandoned := by
  unfold State.abandon
  rw [h]

end StartJog

/-- From IDLE the jog leaves the queue, the decoder and the set as they are (R129). -/
theorem startJog_from_idle {s : State} (axis : Axis) (positive : Bool) (speed : Nat)
    (hidle : s.fi.st = .idle) :
    (s.startJog axis positive speed).cq = s.cq ∧ (s.startJog axis positive speed).sd = s.sd ∧
      (s.startJog axis positive speed).fi = { s.fi with st := .jog, v := 0, rem := 0 } := by
  refine ⟨?_, ?_, ?_⟩
  · simp [State.startJog_eq, State.jogBegun, State.abandon_idle s hidle]
  · simp [State.startJog_eq, State.jogBegun, State.abandon_idle s hidle]
  · rw [State.startJog_fi, State.abandon_idle s hidle]

/-- From HELD the jog stands on the flush of the held work (R129, log 33). -/
theorem startJog_from_held {s : State} (axis : Axis) (positive : Bool) (speed : Nat) {r : Resume}
    (hheld : s.fi.st = .held r) :
    (s.startJog axis positive speed).cq = s.cq.flushed s.fi ∧
      (s.startJog axis positive speed).sd = s.sd.released s.fi ∧
      (s.startJog axis positive speed).fi = s.fi.flushed .jog ∧
      ((s.startJog axis positive speed).port .job).notices.has .abandoned = true := by
  refine ⟨?_, ?_, ?_, ?_⟩
  · simp [State.startJog_eq, State.jogBegun, State.abandon_held s hheld, State.flush_cq_flushed]
  · simp [State.startJog_eq, State.jogBegun, State.abandon_held s hheld, State.flush_sd_released]
  · rw [State.startJog_fi, State.abandon_held s hheld, State.raise_fi, State.flush_fi]
    rfl
  · refine (onlyNotices_startJog_abandon s axis positive speed).2.2 _ _ ?_
    simp [State.abandon_held s hheld, State.raise_has]

/-- Settles O24: the tests in the order of R128, and the jog from IDLE and from HELD. -/
theorem jogStart : Obligations.JogStart := by
  refine ⟨fun s axis direction speed hs hspeed hcode => ?_, fun s axis positive speed hs hspeed => ?_⟩
  · rw [exec_jogStart hs (by simp) (by simp), ownJogStart_unknown hcode]
  intro d lowered stored held free
  have hstored : s.jogSpeed axis speed = stored := by cases axis <;> rfl
  have hexec := exec_jogStart (d := d) hs (by simp) (by simp [d])
  have hown := ownJogStart_eq axis positive hspeed s
  rw [hstored] at hown
  change ownJogStart d s = _ at hown
  have hfree : free ↔ ¬(s.hj.holds.job = true ∨ s.hj.holds.blade = true ∨ s.hj.holds.line = true) := by
    simp [free, not_or]
  refine ⟨fun hst hfr => ?_, fun hst => ?_, fun hst hfr => ?_, fun hst hfr hlock => ?_⟩
  · have hmay : s.mayJog = true := (State.mayJog_iff s).mpr (hst.imp_right And.left)
    have hopen : ¬ s.jogLocked = true := by
      rcases hst with ⟨hidle, -⟩ | ⟨-, hlock⟩
      · simp [State.jogLocked, hidle]
      · simp [State.jogLocked, hlock]
    have hcode : s.fi.st.code ≠ 9 := by
      rcases hst with ⟨hidle, -⟩ | ⟨⟨r, hheld⟩, -⟩
      · simp [hidle, FiState.code]
      · simp [hheld, FiState.code]
    rw [if_neg (by simp [hmay]), if_neg (hfree.mp hfr), if_neg hopen] at hown
    rw [hown] at hexec
    refine ⟨_, hexec, ?_, fun q => ?_, (demandNoticed_startJog s axis positive stored).busy _ _ _,
      fun hidle => ?_, fun ⟨r, hheld⟩ => ?_,
      answered_of_onlyNotices (onlyNotices_startJog s axis positive stored) .., ?_⟩
    · rw [State.busy_hj, State.startJog_hj]
      rcases hst with ⟨hidle, -⟩ | ⟨⟨r, hheld⟩, -⟩
      · rw [State.abandon_idle s hidle, if_pos hidle]
      · rw [State.abandon_held s hheld, State.raise_hj, State.flush_hj_released,
          if_neg (by simp [hheld])]
    · rw [State.busy_notices]
      exact pendingAll_startJog s axis positive stored hcode q
    · simpa using startJog_from_idle axis positive stored hidle
    · simpa using startJog_from_held axis positive stored hheld
    · refine keptBut_busy (onlyNotices_startJog s axis positive stored)
        (passesKept_startJog s axis positive stored) (by simp) (by simp) ?_ _ _ _
      intro b hb
      cases b <;> simp_all [Block.same]
  · rw [hexec, hown, if_pos (State.mayJog_eq_false hst)]
  · have hmay : s.mayJog = true := (State.mayJog_iff s).mpr hst
    rw [hexec, hown, if_neg (by simp [hmay]), if_pos (not_not.mp (mt hfree.mpr hfr))]
  · have hmay : s.mayJog = true := (State.mayJog_iff s).mpr (.inr hst)
    have hlocked : s.jogLocked = true := by
      obtain ⟨r, hheld⟩ := hst
      simp [State.jogLocked, hheld, hlock]
    rw [hexec, hown, if_neg (by simp [hmay]), if_neg (hfree.mp hfr), if_pos hlocked]

end Sys2Proof.Machine
end

section
/-! SUPPORT. The feed period expiry (R69, R98): the tick before FI's work, the hand-off behind it and the
window's tick after it (log 32); PIVOTING ENTRY (R52, R80). -/

namespace Sys2Proof.Machine

/-! ### The ticks around FI's work -/

theorem exec_feedPeriodExpiry {s : State} (hclk : s.pins.clkin = true) :
    exec .feedPeriodExpiry s = .next s.tick.feedWork.tickWindow := clocked_run s _ hclk

@[simp] theorem State.tick_mpermit (s : State) : s.tick.mpermit = s.mpermit := by
  unfold State.mpermit State.tick State.tickStop
  split <;> rfl

@[simp] theorem State.tickWindow_port (s : State) (q : Port) : s.tickWindow.port q = s.port q := by
  cases q <;> simp [State.port]

/-- The window's tick reads nothing but the jog record. -/
theorem State.tickWindow_hj_congr {s t : State} (h : t.hj = s.hj) :
    t.tickWindow.hj = s.tickWindow.hj := by
  unfold State.tickWindow State.expireWindow State.endJog
  rw [h]
  cases s.hj.phase with
  | running m => dsimp only; split <;> simp
  | _ => exact h

theorem Block.same_tickWindow {b : Block} {u w : State} (h : b.same u w) :
    b.same u.tickWindow w.tickWindow := by
  cases b
  case hj => exact State.tickWindow_hj_congr h
  all_goals simpa [Block.same] using h

theorem keptBut.tickWindow {touched : List Block} {u w : State} (h : keptBut touched u w) :
    keptBut touched u.tickWindow w.tickWindow :=
  ⟨fun b hb => Block.same_tickWindow (h.1 b hb), by simpa [noticesKeptPending] using h.2⟩

/-! ### The hand-off (R69, R139 to R145) -/

/-- What is handed of FI is its position alone. -/
theorem State.handedTo_congr (s : State) {f g : Interpolator} (hx : g.x = f.x) (hy : g.y = f.y)
    (hh : g.h = f.h) : s.handedTo g = s.handedTo f := by
  simp only [State.handedTo, hx, hy, hh]

/-- FI's work between the tick and the hand-off leaves AP, the settings and SV as the tick left them. -/
structure handsOff (s w : State) : Prop where
  ap : w.ap = s.tick.ap
  gt : w.gt = s.gt
  sv : w.sv = s.tick.sv

theorem handsOff.handOff_ap {s w : State} (h : handsOff s w) : w.handOff.ap = s.handedTo w.fi := by
  have hpermit : w.mpermit = s.mpermit := by
    rw [← s.tick_mpermit]
    simp only [State.mpermit, h.sv]
  have hap : w.ap = { s.ap with slotClock := 0 } := h.ap.trans s.tick_ap
  simp only [State.handOff_ap, State.handedTo, hpermit, h.gt, hap]

theorem handsOff_withFi (s : State) (f : Interpolator) : handsOff s { s.tick with fi := f } :=
  ⟨rfl, s.tick_gt, rfl⟩

theorem handsOff.handedOff {s w : State} (h : handsOff s w) :
    handedOff s w.handOff.tickWindow := by
  rw [Machine.handedOff, State.tickWindow_ap, State.tickWindow_fi, State.handOff_fi, h.handOff_ap]

theorem Block.same_withFi (b : Block) (s : State) (f : Interpolator) (hb : b ≠ .fi) :
    b.same s { s with fi := f } := by
  cases b
  case fi => exact absurd rfl hb
  case ports => exact fun q => by cases q <;> rfl
  case notices => exact fun q => by cases q <;> exact ⟨rfl, rfl⟩
  case model => exact ⟨rfl, rfl, rfl⟩
  all_goals rfl

/-- The frame of an expiry whose work only raises notices. -/
theorem keptBut_handOff {touched : List Block} {u w : State} (ho : onlyNotices u w)
    (hp : passesKept u w) (hap : .ap ∈ touched)
    (hb : ∀ b, b ∉ touched → b ≠ .ports → b.same u w) :
    keptBut touched u.tickWindow w.handOff.tickWindow := by
  refine keptBut.tickWindow (keptBut_of_onlyNotices ho hp fun b hnot hports => ?_)
  have h := hb b hnot hports
  cases b
  case ap => exact absurd hap hnot
  all_goals exact h

@[simp] theorem State.handOff_port (s : State) (q : Port) : s.handOff.port q = s.port q := by
  cases q <;> rfl

theorem pendingAll.of_tick {w : State} {k : Notice} (h : pendingAll w k) :
    pendingAll w.handOff.tickWindow k := fun q => by simpa using h q

theorem demandNoticed.of_tick {s w : State} (h : demandNoticed s.tick w) :
    demandNoticed s w.handOff.tickWindow := by simpa [demandNoticed] using h

theorem refillNoticed.of_tick {s w : State} (h : refillNoticed s.tick w) :
    refillNoticed s w.handOff.tickWindow := by simpa [refillNoticed] using h

/-! ### PIVOTING ENTRY (R80) -/

theorem Contour.target_eq (c : Contour) (heading : Nat) :
    c.target heading = (heading + c.offset) % 36000 := reduceHeading_nat _

section Slew

variable {s : State} {c : Contour} {e : Entry} {rest : List Entry} {heading : Nat}
  (hc : s.fi.contour = some c) (hq : s.cq.entries = e :: rest) (hcut : e.isCut = true)
  (hheading : e.entryHeading = some heading)

/-- H turned by the free slew rate toward the target of a heading (R52, R80). -/
def State.slewed (s : State) (c : Contour) (heading : Nat) : State :=
  { s with fi := { s.fi with h := turnStep (c.target heading) s.fi.h s.gt.settings.slewH } }

include hc hq hcut hheading

theorem State.slew_eq : s.slew =
    if (s.slewed c heading).fi.h = c.target heading then
      (((s.slewed c heading).takeEntry e).limitBudget e).enter .cutNormal
    else s.slewed c heading := by
  unfold State.slew
  split
  · rename_i c' e' rest' hc' hq'
    obtain rfl : c = c' := Option.some.inj (hc.symm.trans hc')
    obtain ⟨rfl, rfl⟩ : e = e' ∧ rest = rest' := List.cons.inj (hq.symm.trans hq')
    split
    · rename_i heading' _ hheading'
      obtain rfl : heading = heading' := Option.some.inj (hheading.symm.trans hheading')
      rfl
    · rename_i hno
      exact absurd hheading (hno heading hcut)
  · rename_i hno
    exact absurd hq (hno c e rest hc)

/-- While the target is not reached, the slew only turns H. -/
theorem State.slew_turning (h : (s.slewed c heading).fi.h ≠ c.target heading) :
    s.slew = s.slewed c heading := by
  rw [State.slew_eq hc hq hcut hheading, if_neg h]

/-- The step onto the target takes the head entry and begins the cut. -/
theorem State.slew_taking (h : (s.slewed c heading).fi.h = c.target heading) :
    s.slew = (((s.slewed c heading).takeEntry e).limitBudget e).enter .cutNormal := by
  rw [State.slew_eq hc hq hcut hheading, if_pos h]

theorem State.slew_taking_fi (h : (s.slewed c heading).fi.h = c.target heading) :
    s.slew.fi = { s.fi with st := .cutNormal, h := c.target heading, active := some e, done := 0
                            heading := heading, budget := min s.fi.budget (biteOf c.grade e)
                            demand := s.demandOf s.fi.contour rest } := by
  have hdemand : ((s.slewed c heading).takeEntry e).fi.demand = s.demandOf s.fi.contour rest := by
    rw [State.takeEntry_demand]
    simp [State.slewed, State.demandOf, hq]
  have hcontour : ((s.slewed c heading).takeEntry e).fi.contour = some c := by
    rw [State.takeEntry_fi]
    exact hc
  have htaken : ((s.slewed c heading).takeEntry e).fi = { s.fi with
      h := c.target heading, active := some e, done := 0, heading := heading
      demand := s.demandOf s.fi.contour rest } := by
    rw [← hdemand, State.takeEntry_fi, hheading, ← h]
    rfl
  rw [State.slew_taking hc hq hcut hheading h, State.enter_fi]
  simp only [State.limitBudget, State.bite, hcontour]
  simp [htaken, hc, FiState.still]

theorem pendingAll_slew_taking (h : (s.slewed c heading).fi.h = c.target heading)
    (hst : s.fi.st = .pivotEntry) : pendingAll s.slew .state := by
  rw [State.slew_taking hc hq hcut hheading h]
  refine State.enter_pendingAll _ _ ?_
  simp [State.limitBudget, State.takeEntry_fi, State.slewed, hst, FiState.code]

theorem demandNoticed_slew_taking (h : (s.slewed c heading).fi.h = c.target heading) :
    demandNoticed s s.slew := by
  rw [State.slew_taking hc hq hcut hheading h]
  refine (demandNoticed_takeEntry (s.slewed c heading) e).mono ?_ ?_
  · exact onlyNotices.enter (s := State.limitBudget _ e) (onlyNotices.refl _) _
  · rw [State.enter_fi]; rfl

theorem refillNoticed_slew_taking (h : (s.slewed c heading).fi.h = c.target heading) :
    refillNoticed s s.slew := by
  rw [State.slew_taking hc hq hcut hheading h]
  refine (refillNoticed_takeEntry (s.slewed c heading) e).mono ?_ ?_
  · exact onlyNotices.enter (s := State.limitBudget _ e) (onlyNotices.refl _) _
  · rw [State.enter_cq]; rfl

end Slew

theorem State.slew_empty {s : State} (hq : s.cq.entries = []) : s.slew = s := by
  unfold State.slew
  rw [hq]
  split <;> simp_all

/-- What the slew leaves alone, whether it takes the head or not. -/
theorem handsOff_slew (s : State) : handsOff s s.tick.slew :=
  ⟨State.slew_ap _, by simp, State.slew_sv _⟩

theorem onlyNotices.slew {r s : State} (h : onlyNotices r s) : onlyNotices r s.slew := by
  unfold State.slew
  split
  · split
    · dsimp only
      split
      · refine onlyNotices.enter ?_ _
        refine onlyNotices.takeEntry (s := { s with fi := _ }) ?_ _
        exact h
      · exact h
    · exact h
  · exact h

theorem passesKept.slew {r s : State} (h : passesKept r s) : passesKept r s.slew := by
  unfold State.slew
  split
  · split
    · dsimp only
      split
      · refine passesKept.enter ?_ _
        refine passesKept.takeEntry (s := { s with fi := _ }) ?_ _
        exact h
      · exact h
    · exact h
  · exact h

/-- The expiry of PIVOTING ENTRY (R80). -/
theorem exec_expiry_pivotEntry {s : State} (hclk : s.pins.clkin = true)
    (hst : s.fi.st = .pivotEntry) :
    exec .feedPeriodExpiry s = .next s.tick.slew.handOff.tickWindow := by
  have hwork : s.tick.feedWork = s.tick.slew.handOff := by
    rw [State.feedWork, State.tick_fi, hst]
  rw [exec_feedPeriodExpiry hclk, hwork]

theorem keptBut_slew {touched : List Block} {s : State} (hap : .ap ∈ touched)
    (hb : ∀ b, b ∉ touched → b ≠ .ports → b.same s.tick s.tick.slew) :
    keptBut touched s.ticked s.tick.slew.handOff.tickWindow :=
  keptBut_handOff (onlyNotices.refl s.tick).slew (passesKept.refl s.tick).slew hap hb

/-- Settles O38: the slew of H, the take at the target, and nothing without an entry. -/
theorem entrySlew : Obligations.EntrySlew := by
  intro s c hclk hst hc
  have hexec := exec_expiry_pivotEntry hclk hst
  have hhanded := (handsOff_slew s).handedOff
  have htickc : s.tick.fi.contour = some c := by rw [State.tick_fi, hc]
  refine ⟨fun e rest heading hq hcut hheading => ?_, fun hq => ?_⟩
  · dsimp only
    rw [← Contour.target_eq]
    have htickq : s.tick.cq.entries = e :: rest := by rw [State.tick_cq, hq]
    have hturned : (s.tick.slewed c heading).fi.h =
        turnStep (c.target heading) s.fi.h s.gt.settings.slewH := by simp [State.slewed]
    rw [← hturned]
    refine ⟨fun hne => ?_, fun heq => ?_⟩
    · have hslew := State.slew_turning htickc htickq hcut hheading hne
      refine ⟨_, hexec, ?_, hhanded, keptBut_slew (by simp) ?_⟩
      · simp [hslew, State.slewed]
      · rw [hslew]
        exact fun b hb _ => b.same_withFi _ _ (by rintro rfl; simp at hb)
    · have hslew := State.slew_taking htickc htickq hcut hheading heq
      refine ⟨_, hexec, ?_, ?_, ?_, ?_, ?_, hhanded, keptBut_slew (by simp) ?_⟩
      · simpa [State.demandOf] using State.slew_taking_fi htickc htickq hcut hheading heq
      · simp [hslew, State.takeEntry_cq, State.slewed, hq]
      · exact (pendingAll_slew_taking htickc htickq hcut hheading heq (by simp [hst])).of_tick
      · exact (demandNoticed_slew_taking htickc htickq hcut hheading heq).of_tick
      · exact (refillNoticed_slew_taking htickc htickq hcut hheading heq).of_tick
      · clear hexec hhanded hslew hturned heq
        intro b hb _
        cases b <;> simp_all [Block.same]
  · have hslew : s.tick.slew = s.tick := State.slew_empty (by rw [State.tick_cq, hq])
    refine ⟨_, hexec, ?_, hhanded, keptBut_slew (by simp) ?_⟩
    · simp [hslew]
    · rw [hslew]
      intro b _ _
      cases b <;> simp [Block.same]

end Sys2Proof.Machine
end

section
/-! SUPPORT. The point of an arc (R50): the rotated start vector in fixed point against the exact one,
within the free error and clamped (logs 6, 7, 8). -/

namespace Sys2Proof.Machine

open Complex (I)

/-! ### The rotated start vector -/

/-- The unit vector at an angle, turned counter-clockwise or clockwise. -/
noncomputable def sensedUnit (ccw : Bool) (a : ℝ) : ℂ := unitAt (if ccw then a else -a)

theorem sensedUnit_re (ccw : Bool) (a : ℝ) : (sensedUnit ccw a).re =
    Real.cos (if ccw then a * (Real.pi / 18000) else -(a * (Real.pi / 18000))) := by
  cases ccw <;> simp [sensedUnit, unitAt_re, neg_mul]

theorem sensedUnit_im (ccw : Bool) (a : ℝ) : (sensedUnit ccw a).im =
    Real.sin (if ccw then a * (Real.pi / 18000) else -(a * (Real.pi / 18000))) := by
  cases ccw <;> simp [sensedUnit, unitAt_im, neg_mul]

theorem conj_unitAt (a : ℝ) : (starRingEnd ℂ) (unitAt a) = unitAt (-a) := by
  apply Complex.ext <;> simp [unitAt_re, unitAt_im, neg_mul]

/-- A rotation in fixed point is a product of complex numbers. -/
theorem fixedComplex_rotateFixed (ix iy : Int) (ccw : Bool) (num den : Nat) :
    fixedComplex (rotateFixed ix iy ccw num den) = (ix + iy * I) *
      if ccw then fixedComplex (sinCos num den)
      else (starRingEnd ℂ) (fixedComplex (sinCos num den)) := by
  cases ccw <;> simp only [rotateFixed, fixedComplex] <;> apply Complex.ext
  · simp
  · simp; ring
  · simp
  · simp

theorem rotateFixed_error (ix iy : Int) (ccw : Bool) (num : Nat) {den : Nat} (hden : 0 < den) :
    ‖fixedComplex (rotateFixed ix iy ccw num den) -
        fixOne * ((ix + iy * I) * sensedUnit ccw (num / den))‖ ≤
      ‖(ix : ℂ) + iy * I‖ * (fixOne / 10 ^ 20) := by
  have hsinCos := sinCos_error num hden
  have hfactor : ‖(if ccw then fixedComplex (sinCos num den)
      else (starRingEnd ℂ) (fixedComplex (sinCos num den))) -
        fixOne * sensedUnit ccw (num / den)‖ ≤ fixOne / 10 ^ 20 := by
    cases ccw
    · have hconj := RCLike.norm_conj (fixedComplex (sinCos num den) - fixOne * unitAt (num / den))
      simpa [sensedUnit, conj_unitAt, ← hconj] using hsinCos
    · simpa [sensedUnit] using hsinCos
  have hpull : ∀ z w : ℂ, (ix + iy * I) * z - fixOne * ((ix + iy * I) * w) =
      (ix + iy * I) * (z - fixOne * w) := fun z w => by ring
  rw [fixedComplex_rotateFixed, hpull, norm_mul]
  exact mul_le_mul_of_nonneg_left hfactor (norm_nonneg _)

/-- For a start vector of at most 2^24 µm on either side, the fixed point is far inside a billionth of a
µm. -/
theorem rotateFixed_near {ix iy : Int} (hx : ix.natAbs ≤ 2 ^ 24) (hy : iy.natAbs ≤ 2 ^ 24)
    (ccw : Bool) (num : Nat) {den : Nat} (hden : 0 < den) :
    ‖fixedComplex (rotateFixed ix iy ccw num den) / fixOne -
      (ix + iy * I) * sensedUnit ccw (num / den)‖ ≤ 1 / 10 ^ 10 := by
  have hvector : ‖(ix : ℂ) + iy * I‖ ≤ 2 ^ 25 := by
    have hcast : ∀ n : Int, n.natAbs ≤ 2 ^ 24 → ‖(n : ℂ)‖ ≤ 2 ^ 24 := fun n hn => by
      rw [Complex.norm_intCast, ← Int.cast_abs, Int.abs_eq_natAbs]
      exact_mod_cast hn
    calc ‖(ix : ℂ) + iy * I‖ ≤ ‖(ix : ℂ)‖ + ‖(iy : ℂ) * I‖ := norm_add_le _ _
      _ ≤ 2 ^ 24 + 2 ^ 24 := by
        rw [norm_mul, Complex.norm_I, mul_one]
        exact add_le_add (hcast ix hx) (hcast iy hy)
      _ = 2 ^ 25 := by norm_num
  have hone : (fixOne : ℂ) ≠ 0 := by exact_mod_cast fixOne_pos.ne'
  have hscale : ∀ z w : ℂ, z / fixOne - w = (z - fixOne * w) / fixOne := fun z w => by
    field_simp
  rw [hscale, norm_div, Complex.norm_natCast, div_le_iff₀ fixOne_pos]
  refine (rotateFixed_error ix iy ccw num hden).trans ?_
  have hpos := fixOne_pos
  calc ‖(ix : ℂ) + iy * I‖ * (fixOne / 10 ^ 20) ≤ 2 ^ 25 * (fixOne / 10 ^ 20) :=
        mul_le_mul_of_nonneg_right hvector (by positivity)
    _ ≤ 1 / 10 ^ 10 * fixOne := by linarith

/-! ### The free error and the clamp (R50, log 6) -/

/-- Whatever the free error, the coordinate stays within 2 µm and the slack of the fixed point. -/
theorem withinTwo_near (exact err : Int) :
    |(withinTwo exact err : ℝ) - exact / fixOne| ≤ 2 + 1 / 10 ^ 10 := by
  have hone := fixOne_pos
  have honeInt : (0 : Int) < fixOne := by exact_mod_cast hone
  set low := -((-(exact - 2 * fixOne - 2 ^ 64)) / (fixOne : Int)) with hlow
  set high := (exact + 2 * fixOne + 2 ^ 64) / (fixOne : Int) with hhigh
  have hlowLe : exact - 2 * fixOne - 2 ^ 64 ≤ low * fixOne := by
    have := Int.ediv_mul_le (-(exact - 2 * fixOne - 2 ^ 64)) honeInt.ne'
    rw [hlow]; linarith
  have hlowLt : (low - 1) * fixOne < exact - 2 * fixOne - 2 ^ 64 := by
    have := Int.lt_ediv_add_one_mul_self (-(exact - 2 * fixOne - 2 ^ 64)) honeInt
    rw [hlow]; linarith
  have hhighLe : high * fixOne ≤ exact + 2 * fixOne + 2 ^ 64 := Int.ediv_mul_le _ honeInt.ne'
  have hwithin : withinTwo exact err = max low (min high (roundDiv exact fixOne + err)) := rfl
  have hbelow : low ≤ withinTwo exact err := hwithin ▸ le_max_left _ _
  have habove : withinTwo exact err ≤ max low high :=
    hwithin ▸ max_le_max_left _ (min_le_left _ _)
  have hslack : (2 : ℝ) ^ 64 ≤ 1 / 10 ^ 10 * fixOne := by norm_num [fixOne]
  have hbelowReal : ((exact : ℝ) - 2 * fixOne - 2 ^ 64) ≤ withinTwo exact err * fixOne := by
    exact_mod_cast hlowLe.trans (mul_le_mul_of_nonneg_right hbelow honeInt.le)
  have haboveInt : withinTwo exact err * (fixOne : Int) ≤ exact + 2 * fixOne + 2 ^ 64 := by
    refine (mul_le_mul_of_nonneg_right habove honeInt.le).trans ?_
    rcases max_cases low high with ⟨h, -⟩ | ⟨h, -⟩ <;> rw [h] <;> linarith
  have haboveReal : (withinTwo exact err : ℝ) * fixOne ≤ exact + 2 * fixOne + 2 ^ 64 := by
    exact_mod_cast haboveInt
  have hdiv : (withinTwo exact err : ℝ) - exact / fixOne =
      (withinTwo exact err * fixOne - exact) / fixOne := by field_simp
  rw [hdiv, abs_div, abs_of_pos hone, div_le_iff₀ hone, abs_le]
  constructor <;> linarith

theorem clampInto_cast (limit : Nat) (c : Int) :
    (clampInto limit c : ℝ) = max 0 (min (c : ℝ) limit) := by
  have hint : (clampInto limit c : Int) = max 0 (min c limit) := by
    unfold clampInto
    omega
  exact_mod_cast hint

/-- The clamp brings no two values further apart. -/
theorem clampInto_near (limit : Nat) (c : Int) (x : ℝ) :
    |(clampInto limit c : ℝ) - max 0 (min x limit)| ≤ |(c : ℝ) - x| := by
  rw [clampInto_cast, max_comm, max_comm (0 : ℝ)]
  exact (abs_max_sub_max_le_abs _ _ _).trans (abs_min_sub_min_le_max _ _ _ _ |>.trans (by simp))

/-- A coordinate of an arc: rounded within the free error about the centre, and clamped. -/
theorem arcCoordinate_near (limit : Nat) (centre exact err : Int) {offset : ℝ}
    (h : |(exact : ℝ) / fixOne - offset| ≤ 1 / 10 ^ 10) :
    |(clampInto limit (centre + withinTwo exact err) : ℝ) - max 0 (min (centre + offset) limit)| ≤
      2 + 1 / 10 ^ 9 := by
  refine (clampInto_near limit _ _).trans ?_
  have hsplit : ((centre + withinTwo exact err : Int) : ℝ) - (centre + offset) =
      (withinTwo exact err - exact / fixOne) + (exact / fixOne - offset) := by push_cast; ring
  rw [hsplit]
  refine (abs_add_le _ _).trans ?_
  have := withinTwo_near exact err
  linarith

/-! ### The point of an arc -/

theorem arcPoint_zero (start : Point) (shape : ArcShape) (xLimit yLimit : Nat) :
    arcPoint start shape xLimit yLimit 0 = start := if_pos rfl

theorem arcPoint_pos (start : Point) (shape : ArcShape) (xLimit yLimit : Nat) {d : Nat}
    (hd : 0 < d) {exact : Int × Int}
    (hexact : rotateFixed ((start.x : Int) - shape.cx) ((start.y : Int) - shape.cy) shape.ccw
      (arcAngleNum d) (arcAngleDen shape.radius) = exact) :
    ∃ err : Int × Int, arcPoint start shape xLimit yLimit d =
      { x := clampInto xLimit (shape.cx + withinTwo exact.1 err.1)
        y := clampInto yLimit (shape.cy + withinTwo exact.2 err.2) } := by
  unfold arcPoint
  rw [if_neg hd.ne']
  extract_lets ix iy
  generalize Config.arcPointError _ _ _ _ = err
  refine ⟨err, ?_⟩
  have hturned : rotateFixed ix iy shape.ccw (arcAngleNum d) (arcAngleDen shape.radius) = exact :=
    hexact
  rw [hturned]

theorem nearArc_arcPoint {start : Point} {shape : ArcShape} (xLimit yLimit : Nat) {d : Nat}
    (hd : 0 < d) (hradius : 0 < shape.radius)
    (hx : ((start.x : Int) - shape.cx).natAbs ≤ 2 ^ 24)
    (hy : ((start.y : Int) - shape.cy).natAbs ≤ 2 ^ 24) :
    nearArc start shape xLimit yLimit d (arcPoint start shape xLimit yLimit d) := by
  have hden : 0 < arcAngleDen shape.radius := Nat.mul_pos hradius (by decide)
  have hnear := rotateFixed_near hx hy shape.ccw (arcAngleNum d) hden
  obtain ⟨exact, hexact⟩ := exists_eq' (a' := rotateFixed ((start.x : Int) - shape.cx)
    ((start.y : Int) - shape.cy) shape.ccw (arcAngleNum d) (arcAngleDen shape.radius))
  obtain ⟨err, hpoint⟩ := arcPoint_pos start shape xLimit yLimit hd hexact
  rw [hexact] at hnear
  rw [hpoint]
  have hre := (Complex.abs_re_le_norm _).trans hnear
  have him := (Complex.abs_im_le_norm _).trans hnear
  constructor
  · refine arcCoordinate_near xLimit shape.cx exact.1 err.1 (hre.trans' (le_of_eq ?_))
    simp [fixedComplex, sensedUnit_re, sensedUnit_im, arcAngleNum, arcAngleDen, arcScale, arcUnit]
  · refine arcCoordinate_near yLimit shape.cy exact.2 err.2 (him.trans' (le_of_eq ?_))
    simp [fixedComplex, sensedUnit_re, sensedUnit_im, arcAngleNum, arcAngleDen, arcScale, arcUnit]

end Sys2Proof.Machine
end

section
/-! SUPPORT. The feed period expiry inside an entry: the look-ahead limit (R62, R72), the speed, the
advance and the commit (R60, R66, R67, R69), HOLDING (R87) and the quick stop (R93, R94). -/

namespace Sys2Proof.Machine

/-! ### The look-ahead limit (R62, R72) -/

/-- The limit of every constraint point ahead, with the end of `e` at a distance of `left`. -/
def aheadLimits (a : Nat) (g : Grade) (e : Entry) (q : List Entry) (left : Nat) : List Nat :=
  (List.range (e :: q).length).filterMap fun i =>
    (pointSpeed g (e :: q) i).map fun v =>
      isqrt (v ^ 2 + 2 * a * (left + ((q.take i).map Entry.length).sum))

/-- The limit of the end of `e` itself, where it is a constraint point. -/
def endLimit (a : Nat) (g : Grade) (e : Entry) (q : List Entry) (left : Nat) : Option Nat :=
  (pointSpeed g (e :: q) 0).map fun v => isqrt (v ^ 2 + 2 * a * left)

theorem aheadLimits_nil (a : Nat) (g : Grade) (e : Entry) (left : Nat) :
    aheadLimits a g e [] left = [constraintSpeed a 0 left] := by
  simp [aheadLimits, pointSpeed, constraintSpeed]

theorem aheadLimits_cons (a : Nat) (g : Grade) (e next : Entry) (rest : List Entry) (left : Nat) :
    aheadLimits a g e (next :: rest) left =
      (endLimit a g e (next :: rest) left).toList ++
        aheadLimits a g next rest (left + next.length) := by
  have hshift : ∀ i, pointSpeed g (e :: next :: rest) (i + 1) = pointSpeed g (next :: rest) i :=
    fun _ => rfl
  rw [aheadLimits, List.length_cons, List.range_succ_eq_map, List.filterMap_cons,
    List.filterMap_map]
  simp only [Function.comp_def, Nat.succ_eq_add_one, hshift, List.take_succ_cons, List.map_cons,
    List.sum_cons, List.take_zero, List.map_nil, List.sum_nil, Nat.add_zero, ← Nat.add_assoc]
  rw [endLimit]
  cases pointSpeed g (e :: next :: rest) 0 <;> rfl

/-- No constraint point ahead is stricter than a stop at the end of `e`. -/
theorem constraintSpeed_le_aheadLimits {a : Nat} {g : Grade} {e : Entry} {q : List Entry}
    {left b : Nat} (h : b ∈ aheadLimits a g e q left) : constraintSpeed a 0 left ≤ b := by
  obtain ⟨i, -, hi⟩ := List.mem_filterMap.mp h
  obtain ⟨v, -, rfl⟩ := Option.map_eq_some_iff.mp hi
  rw [constraintSpeed_eq]
  refine isqrt_mono ?_
  have hfar : 2 * a * left ≤ 2 * a * (left + ((q.take i).map Entry.length).sum) :=
    Nat.mul_le_mul_left _ (Nat.le_add_right _ _)
  omega

/-- `m` is the least of a list. -/
def leastOf (m : Nat) (l : List Nat) : Prop := m ∈ l ∧ ∀ b ∈ l, m ≤ b

theorem leastOf.min?_getD {m : Nat} {l : List Nat} (h : leastOf m l) : l.min?.getD 0 = m := by
  rw [List.min?_eq_some_iff.mpr h, Option.getD_some]

theorem leastOf.cons {m : Nat} {l : List Nat} (h : leastOf m l) (n : Nat) :
    leastOf (min n m) (n :: l) := by
  obtain ⟨hmem, hle⟩ := h
  constructor
  · rcases min_choice n m with hmin | hmin <;> simp [hmin, hmem]
  · intro b hb
    rcases List.mem_cons.mp hb with rfl | hb
    · exact min_le_left _ _
    · exact (min_le_right _ _).trans (hle b hb)

/-- A stop at the end of `e` is the strictest point ahead. -/
theorem leastOf_stop {a : Nat} {g : Grade} {e : Entry} {q : List Entry} (left : Nat)
    (h : pointSpeed g (e :: q) 0 = some 0) :
    leastOf (constraintSpeed a 0 left) (aheadLimits a g e q left) := by
  refine ⟨?_, fun b hb => constraintSpeed_le_aheadLimits hb⟩
  cases q with
  | nil => simp [aheadLimits_nil]
  | cons next rest => simp [aheadLimits_cons, endLimit, h, constraintSpeed_eq]

theorem pointSpeed_stop {g : Grade} {e : Entry} {q : List Entry}
    (h : e.kind = .traverse ∨ e.endMark = true) : pointSpeed g (e :: q) 0 = some 0 := by
  cases q with
  | nil => rfl
  | cons next rest => simp [pointSpeed, h]

/-- The speed of the constraint point at a junction of a class (R62). -/
def cornerSpeed (g : Grade) : Corner → Option Nat
  | .smooth => none
  | .turn => some g.crawl
  | .pivot => some 0

theorem pointSpeed_junction {g : Grade} {e next : Entry} {rest : List Entry}
    (hkind : e.kind ≠ .traverse) (hend : e.endMark = false) :
    pointSpeed g (e :: next :: rest) 0 = cornerSpeed g (classify g next.junction) := by
  have hno : ¬(e.kind = .traverse ∨ e.endMark = true) := by simp [hkind, hend]
  unfold pointSpeed
  simp only [List.getElem?_cons_zero, List.getElem?_cons_succ, if_neg hno]
  cases next.junction with
  | none => rfl
  | some angle =>
    by_cases hsmooth : angle.natAbs ≤ g.smooth <;> by_cases hpivot : angle.natAbs ≤ g.pivot <;>
      simp [classify, hsmooth, hpivot, cornerSpeed]

/-- A junction that is no PIVOT stands before a cut entry. -/
theorem kind_of_classify {g : Grade} {e : Entry} (h : classify g e.junction ≠ .pivot) :
    e.kind ≠ .traverse := by
  intro hk
  obtain ⟨_, _, _, _, body⟩ := e
  cases body <;> simp [Entry.kind, Entry.junction, classify] at *

/-- The scan of the queue finds the least of the limits (R62). -/
theorem leastOf_lookQueue (a : Nat) (g : Grade) : ∀ (q : List Entry) (e : Entry) (left : Nat),
    e.kind ≠ .traverse → e.endMark = false →
      leastOf (lookQueue a g q left) (aheadLimits a g e q left) := by
  intro q
  induction q with
  | nil =>
    intro e left _ _
    simp [lookQueue, aheadLimits_nil, leastOf]
  | cons next rest ih =>
    intro e left hkind hend
    have hpoint := pointSpeed_junction (g := g) (next := next) (rest := rest) hkind hend
    have hbeyond (hclass : classify g next.junction ≠ .pivot) :
        leastOf (if next.endMark then constraintSpeed a 0 (left + next.length)
          else lookQueue a g rest (left + next.length))
          (aheadLimits a g next rest (left + next.length)) := by
      split
      case isTrue hmark => exact leastOf_stop _ (pointSpeed_stop (.inr hmark))
      case isFalse hmark => exact ih next _ (kind_of_classify hclass) (eq_false_of_ne_true hmark)
    rw [lookQueue]
    cases hclass : classify g next.junction with
    | pivot =>
      rw [hclass] at hpoint
      exact leastOf_stop _ hpoint
    | turn =>
      rw [hclass] at hpoint
      rw [aheadLimits_cons, endLimit, hpoint]
      have hcrawl : (cornerSpeed g .turn).map (fun v => isqrt (v ^ 2 + 2 * a * left)) =
          some (constraintSpeed a g.crawl left) := by rw [constraintSpeed_eq]; rfl
      rw [hcrawl]
      exact (hbeyond (by simp [hclass])).cons _
    | smooth =>
      rw [hclass] at hpoint
      rw [aheadLimits_cons, endLimit, hpoint]
      exact hbeyond (by simp [hclass])

theorem Entry.isCut_iff {e : Entry} (hopen : e.kind ≠ .opening) :
    e.isCut = true ↔ e.kind ≠ .traverse := by
  obtain ⟨_, _, _, _, body⟩ := e
  cases body <;> simp [Entry.kind, Entry.isCut] at *

/-- The look-ahead of FI is the limit of R62 over the path ahead. -/
theorem State.lookAhead_eq {s : State} {e : Entry} (hactive : s.fi.active = some e)
    (hopen : e.kind ≠ .opening) : s.lookAhead = s.limitSpeed e := by
  unfold State.lookAhead State.limitSpeed
  rw [hactive]
  cases s.fi.contour with
  | none => simp [constraintSpeed]
  | some c =>
    refine (leastOf.min?_getD
      (l := aheadLimits s.gt.settings.accel c.grade e s.cq.entries (e.length - s.fi.done)) ?_).symm
    dsimp only
    split
    case isTrue hcut =>
      rw [Bool.and_eq_true, Bool.not_eq_true', Entry.isCut_iff hopen] at hcut
      exact leastOf_lookQueue _ _ _ _ _ hcut.1 hcut.2
    case isFalse hcut =>
      rw [Bool.and_eq_true, Bool.not_eq_true', Entry.isCut_iff hopen, not_and_or, not_not,
        Bool.not_eq_false] at hcut
      exact leastOf_stop _ (pointSpeed_stop hcut)

end Sys2Proof.Machine
end

section
/-! SUPPORT. The feed period expiry inside an entry: the speed, the advance and the commit (R60, R66, R67,
R69), HOLDING (R87) and the quick stop (R93, R94). -/

namespace Sys2Proof.Machine

/-! ### Speed and advance (R60, R66, R67) -/

/-- The advance at a speed: the accumulator, and on a cut entry the budget's cut of it (R60, R67). -/
def budgeted (cut : Bool) (budget rem v : Nat) : Advance :=
  if cut then (accumulate v rem).cutBy budget else accumulate v rem

/-- The cut in one formula: a budget of 0 keeps the remainder of an advance it need not cut (log 35). -/
theorem budgeted_eq (cut : Bool) (budget rem v : Nat) : budgeted cut budget rem v =
    if cut = true ∧ budget < (rem + v) / 1000 then
      { v := budget * 1000, rem := 0, whole := budget }
    else if cut = true ∧ budget = 0 then { v := 0, rem := (rem + v) % 1000, whole := 0 }
    else { v := v, rem := (rem + v) % 1000, whole := (rem + v) / 1000 } := by
  cases cut with
  | false => simp [budgeted, accumulate]
  | true =>
    by_cases hover : budget < (rem + v) / 1000
    · simp [budgeted, accumulate, Advance.cutBy, hover]
    · by_cases hzero : budget = 0
      · have hnone : (rem + v) / 1000 = 0 := by omega
        simp [budgeted, accumulate, Advance.cutBy, hnone, hzero]
      · simp [budgeted, accumulate, Advance.cutBy, hover, hzero]

section Motion

variable {s : State} {e : Entry} (hactive : s.fi.active = some e)

include hactive

theorem State.cutActive_eq : s.cutActive = e.isCut := by
  rw [State.cutActive, hactive]
  rfl

/-- The motion of the rules is the model's stepped speed under the budget. -/
theorem State.motionOn_eq (hopen : e.kind ≠ .opening) :
    s.motionOn e = budgeted e.isCut s.fi.budget s.fi.rem s.steppedSpeed := by
  rw [budgeted_eq, State.steppedSpeed, State.cap_eq_capFor, hactive,
    State.lookAhead_eq hactive hopen]
  unfold State.motionOn
  cases s.fi.st <;> rfl

theorem State.advance_eq (hopen : e.kind ≠ .opening) :
    s.advance = ({ s with fi := { s.fi with
      v := (s.motionOn e).v
      rem := (s.motionOn e).rem
      budget := if e.isCut then s.fi.budget - (s.motionOn e).whole else s.fi.budget
      done := s.fi.done + (s.motionOn e).whole } }, (s.motionOn e).whole) := by
  rw [State.motionOn_eq hactive hopen, budgeted, ← State.cutActive_eq hactive]
  rfl

end Motion

/-! ### The commit (R69) -/

theorem arcHeading_eq (entry : Nat) (shape : ArcShape) (d : Nat) : arcHeading entry shape d =
    let turn := min (roundDiv ((d * 100000000 : Nat) : Int) (shape.radius * 17453)).toNat shape.sweep
    (if shape.ccw then ((entry : Int) + turn) % 36000 else ((entry : Int) - turn) % 36000).toNat := by
  simp only [arcHeading, reduceHeading, arcAngleNum, arcAngleDen, arcScale, arcUnit]
  cases shape.ccw with
  | true => rw [if_pos rfl, if_pos rfl]
  | false => rw [if_neg Bool.false_ne_true, if_neg Bool.false_ne_true]

theorem headingAt_eq (e : Entry) (d old : Nat) : headingAt e d old = pathHeading e d old := by
  obtain ⟨_, _, _, _, body⟩ := e
  cases body with
  | arc _ entry _ _ _ shape => exact arcHeading_eq entry shape d
  | _ => rfl

theorem State.pointAt_eq (s : State) (e : Entry) (d : Nat) : s.pointAt e d = s.pathPoint e d := by
  obtain ⟨_, _, _, _, body⟩ := e
  cases body <;> rfl

theorem FiState.followsPath_iff (st : FiState) : st.followsPath = true ↔
    st = .cutNormal ∨ st = .holding .cutNormal ∨ st = .stopping .cutNormal := by
  cases st with
  | holding r => cases r <;> simp [FiState.followsPath]
  | stopping m => cases m <;> simp [FiState.followsPath]
  | _ => simp [FiState.followsPath]

/-- H at a commit (R69, R93). -/
theorem State.commandedH_eq (s : State) (heading : Nat) : s.commandedH s.fi.st heading =
    if s.fi.st.followsPath then (s.fi.contour.map fun c => c.target heading).getD s.fi.h
    else s.fi.h := by
  rw [State.commandedH]
  cases s.fi.contour with
  | none => simp
  | some c => simp [FiState.followsPath_iff, Contour.target_eq]

/-- FI after an expiry inside the active entry (R66, R67, R69). -/
def State.movedFi (s : State) (e : Entry) : Interpolator :=
  let a := s.motionOn e
  let d := s.fi.done + a.whole
  let heading := pathHeading e d s.fi.heading
  { s.fi with
    v := a.v
    rem := a.rem
    budget := if e.isCut then s.fi.budget - a.whole else s.fi.budget
    done := d
    x := (s.pathPoint e d).x
    y := (s.pathPoint e d).y
    heading := heading
    h := s.commandedH s.fi.st heading }

/-- Short of the entry's end the expiry commits where the advance leads. -/
theorem State.move_inside {s : State} {e : Entry} (hactive : s.fi.active = some e)
    (hopen : e.kind ≠ .opening) (hinside : s.fi.done + (s.motionOn e).whole < e.length) :
    s.move = { s with fi := s.movedFi e } := by
  rw [State.move, State.advance_eq hactive hopen, State.runEnds]
  dsimp only
  rw [hactive]
  dsimp only
  rw [if_pos hinside, State.commit, State.commitAt]
  simp only [State.pointAt_eq, headingAt_eq]
  rw [State.movedFi, State.commandedH_eq, ← hactive]
  rfl

/-! ### Under the tick -/

theorem State.tick_period (s : State) : s.tick.sd.period = s.sd.period := by
  unfold State.tick State.tickStop
  split <;> rfl

/-- The tick changes nothing the motion reads. -/
theorem State.motionOn_tick (s : State) (e : Entry) : s.tick.motionOn e = s.motionOn e := by
  have hcap : ∀ st a, s.tick.capFor st a = s.capFor st a :=
    State.capFor_congr s.tick_gt (by rw [s.tick_hj]) (by rw [s.tick_fi]) s.tick_period
  have hlimit : s.tick.limitSpeed e = s.limitSpeed e := by
    simp only [State.limitSpeed, State.tick_gt, State.tick_fi, State.tick_cq]
  simp only [State.motionOn, hcap, hlimit, State.tick_gt, State.tick_fi]

theorem State.movedFi_tick (s : State) (e : Entry) : s.tick.movedFi e = s.movedFi e := by
  simp only [State.movedFi, State.motionOn_tick, State.pathPoint, State.commandedH, State.tick_gt,
    State.tick_fi]

/-- The expiry's motion inside an entry, after the tick. -/
theorem State.move_tick {s : State} {e : Entry} (hactive : s.fi.active = some e)
    (hopen : e.kind ≠ .opening) (hinside : s.fi.done + (s.motionOn e).whole < e.length) :
    s.tick.move = { s.tick with fi := s.movedFi e } := by
  rw [← State.movedFi_tick]
  exact State.move_inside (by rw [State.tick_fi, hactive]) hopen
    (by rwa [State.motionOn_tick, State.tick_fi])

/-- The states that only move: the expiry is the motion and the hand-off. -/
theorem State.feedWork_moving {s : State}
    (hst : s.fi.st = .traversing ∨ s.fi.st = .cutNormal ∨ s.fi.st = .cutCrawl) :
    s.feedWork = s.move.handOff := by
  rcases hst with hst | hst | hst <;> rw [State.feedWork, hst]

/-- HOLDING moves on (R87). -/
theorem State.feedWork_holding {s : State} {r : Resume} (hst : s.fi.st = .holding r)
    (hkept : s.move.fi.st = .holding r) (hv : s.move.fi.v ≠ 0) : s.feedWork = s.move.handOff := by
  rw [State.feedWork, hst]
  simp only [State.handOff_fi, hkept, hv, if_false]

/-- HOLDING becomes HELD once v is 0 (R87). -/
theorem State.feedWork_held {s : State} {r : Resume} (hst : s.fi.st = .holding r)
    (hkept : s.move.fi.st = .holding r) (hv : s.move.fi.v = 0) :
    s.feedWork = s.move.handOff.enter (.held r) := by
  rw [State.feedWork, hst]
  simp only [State.handOff_fi, hkept, hv, if_true]

/-- In the quick stop of a path FI moves along it (R93). -/
theorem State.stopMove_path {s : State} {e : Entry} (hphase : s.hj.phase = .none)
    (hactive : s.fi.active = some e) : s.stopMove = s.move := by
  rw [State.stopMove, hphase, JogPhase.move, hactive]

theorem State.feedWork_stopping {s : State} {m : StopMode} (hst : s.fi.st = .stopping m)
    (hv : s.stopMove.fi.v ≠ 0) : s.feedWork = s.stopMove.handOff := by
  rw [State.feedWork, hst]
  simp only [State.handOff_fi, hv, if_false]

/-- The quick stop ends once v is 0 (R94). -/
theorem State.feedWork_stopped {s : State} {m : StopMode} (hst : s.fi.st = .stopping m)
    (hv : s.stopMove.fi.v = 0) : s.feedWork = s.stopMove.handOff.endStop := by
  rw [State.feedWork, hst]
  simp only [State.handOff_fi, hv, if_true]

/-- Without a jog the window's tick is nothing. -/
theorem State.tickWindow_still {s : State} (h : s.hj.phase = .none) : s.tickWindow = s := by
  rw [State.tickWindow, h]

/-! ### The expiry inside an entry -/

/-- FI at an interpolator handed over, between the tick and the rest of the expiry. -/
def State.handedAt (s : State) (f : Interpolator) : State := ({ s.tick with fi := f } : State).handOff

@[simp] theorem State.handedAt_fi (s : State) (f : Interpolator) : (s.handedAt f).fi = f := rfl

theorem State.handedAt_ap (s : State) (f : Interpolator) : (s.handedAt f).ap = s.handedTo f :=
  (handsOff_withFi s f).handOff_ap

theorem onlyNotices_handedAt (s : State) (f : Interpolator) : onlyNotices s.tick (s.handedAt f) :=
  onlyNotices.refl s.tick

theorem passesKept_handedAt (s : State) (f : Interpolator) : passesKept s.tick (s.handedAt f) :=
  passesKept.refl s.tick

theorem Block.same_handedAt (b : Block) (s : State) (f : Interpolator) (hfi : b ≠ .fi)
    (hap : b ≠ .ap) : b.same s.tick (s.handedAt f) := by
  have h := b.same_withFi s.tick f hfi
  cases b
  case ap => exact absurd rfl hap
  all_goals exact h

theorem keptBut.mono {touched more : List Block} {s t : State} (h : keptBut touched s t)
    (hsub : touched ⊆ more) : keptBut more s t :=
  ⟨fun b hb => h.1 b fun hmem => hb (hsub hmem), h.2⟩

/-- Where FI only moves, the expiry leaves it moved and handed over. -/
theorem handedOff_moved (s : State) (f : Interpolator) :
    (s.handedAt f).tickWindow.fi = f ∧ handedOff s (s.handedAt f).tickWindow ∧
      keptBut [.fi, .ap] s.ticked (s.handedAt f).tickWindow := by
  refine ⟨State.tickWindow_fi _, (handsOff_withFi s f).handedOff, ?_⟩
  refine keptBut.tickWindow (keptBut_of_onlyNotices (onlyNotices_handedAt s f)
    (passesKept_handedAt s f) fun b hb _ => b.same_handedAt s f ?_ ?_) <;> rintro rfl <;> simp at hb

/-- The expiry that ends HOLDING (R87). -/
theorem handedOff_held {s : State} {r : Resume} {f : Interpolator} (hst : f.st = s.fi.st)
    (hv : f.v = 0) :
    ((s.handedAt f).enter (.held r)).tickWindow.fi = { f with st := .held r } ∧
      handedOff s ((s.handedAt f).enter (.held r)).tickWindow ∧
      stateNoticed s ((s.handedAt f).enter (.held r)).tickWindow ∧
      keptBut [.fi, .ap, .notices] s.ticked ((s.handedAt f).enter (.held r)).tickWindow := by
  have hfi : ((s.handedAt f).enter (.held r)).fi = { f with st := .held r } := by
    rw [State.enter_fi, State.handedAt_fi, ← hv]
    simp
  refine ⟨?_, ?_, ?_, ?_⟩
  · rw [State.tickWindow_fi, hfi]
  · rw [handedOff, State.tickWindow_ap, State.tickWindow_fi, State.enter_ap, State.handedAt_ap, hfi]
    exact s.handedTo_congr rfl rfl rfl
  · have h : stateNoticed s ((s.handedAt f).enter (.held r)) := stateNoticed_enter hst _
    simpa [stateNoticed] using h
  · refine keptBut.tickWindow (keptBut_of_onlyNotices ((onlyNotices_handedAt s f).enter _)
      ((passesKept_handedAt s f).enter _) fun b hb hports => ?_)
    have hsame := b.same_handedAt s f (by rintro rfl; simp at hb) (by rintro rfl; simp at hb)
    cases b <;> simp_all [Block.same]

/-- The expiry that ends the quick stop (R94): the window's tick finds no jog. -/
theorem stoppedAt_endStop {s : State} (hphase : s.hj.phase = .none) (f : Interpolator) :
    stoppedAt s (s.handedAt f).endStop.tickWindow f s.cq ∧
      keptBut [.cq, .fi, .sd, .hj, .ap, .sv, .notices] s.ticked
        (s.handedAt f).endStop.tickWindow := by
  have hticked : s.ticked = s.tick := State.tickWindow_still (by rwa [State.tick_hj])
  have hstart : ({ s.tick with fi := f, cq := s.cq, hj := s.hj, ap := s.handedTo f } : State) =
      s.handedAt f := by
    rw [← State.handedAt_ap, ← s.tick_cq, ← s.tick_hj]
    rfl
  rw [State.tickWindow_still (State.endStop_phase _), stoppedAt, hticked, hstart]
  refine ⟨stoppedFrom_endStop _, keptBut_of_onlyNotices (onlyNotices_handedAt s f).endStop
    (passesKept_handedAt s f).endStop fun b hb hports => ?_⟩
  have hsame := b.same_handedAt s f (by rintro rfl; simp at hb) (by rintro rfl; simp at hb)
  cases b <;> simp_all [Block.same]

section Inside

variable {s : State} {e : Entry} (hclk : s.pins.clkin = true) (hactive : s.fi.active = some e)
  (hopen : e.kind ≠ .opening) (hinside : s.fi.done + (s.motionOn e).whole < e.length)

include hclk hactive hopen hinside

theorem exec_expiry_moving
    (hst : s.fi.st = .traversing ∨ s.fi.st = .cutNormal ∨ s.fi.st = .cutCrawl) :
    exec .feedPeriodExpiry s = .next (s.handedAt (s.movedFi e)).tickWindow := by
  rw [exec_feedPeriodExpiry hclk, State.feedWork_moving (by rwa [State.tick_fi]),
    State.move_tick hactive hopen hinside, State.handedAt]

theorem exec_expiry_holding {r : Resume} (hst : s.fi.st = .holding r) :
    exec .feedPeriodExpiry s = .next (if (s.motionOn e).v = 0
      then ((s.handedAt (s.movedFi e)).enter (.held r)).tickWindow
      else (s.handedAt (s.movedFi e)).tickWindow) := by
  have hmove := State.move_tick hactive hopen hinside
  have hkept : s.tick.move.fi.st = .holding r := by rw [hmove]; exact hst
  have hv : s.tick.move.fi.v = (s.motionOn e).v := by rw [hmove]; rfl
  have htick : s.tick.fi.st = .holding r := by rw [State.tick_fi, hst]
  rw [exec_feedPeriodExpiry hclk]
  split
  case isTrue hzero =>
    rw [State.feedWork_held htick hkept (hv.trans hzero), hmove, State.handedAt]
  case isFalse hmoving =>
    rw [State.feedWork_holding htick hkept (hv.trans_ne hmoving), hmove, State.handedAt]

theorem exec_expiry_stopping {m : StopMode} (hst : s.fi.st = .stopping m)
    (hphase : s.hj.phase = .none) :
    exec .feedPeriodExpiry s = .next (if (s.motionOn e).v = 0
      then (s.handedAt (s.movedFi e)).endStop.tickWindow
      else (s.handedAt (s.movedFi e)).tickWindow) := by
  have hmove : s.tick.stopMove = { s.tick with fi := s.movedFi e } := by
    rw [State.stopMove_path (e := e) (by rwa [State.tick_hj]) (by rwa [State.tick_fi]),
      State.move_tick hactive hopen hinside]
  have hv : s.tick.stopMove.fi.v = (s.motionOn e).v := by rw [hmove]; rfl
  have htick : s.tick.fi.st = .stopping m := by rw [State.tick_fi, hst]
  rw [exec_feedPeriodExpiry hclk]
  split
  case isTrue hzero => rw [State.feedWork_stopped htick (hv.trans hzero), hmove, State.handedAt]
  case isFalse hmoving =>
    rw [State.feedWork_stopping htick (hv.trans_ne hmoving), hmove, State.handedAt]

end Inside

/-- Settles O36: the motion inside an entry, by the state it stands in, and the point of an arc. -/
theorem expiryCuts : Obligations.ExpiryCuts := by
  intro s e hclk hpath hactive hopen a d heading moved hinside
  have hmoved : moved = s.movedFi e := rfl
  refine ⟨?_, ?_⟩
  · intro tag entry exit junction last shape hbody
    have hpoint : s.pathPoint e d =
        arcPoint e.start shape s.gt.settings.xLimit s.gt.settings.yLimit d := by
      rw [State.pathPoint, hbody]
    rw [hpoint]
    exact ⟨fun hd => by rw [hd, arcPoint_zero], fun hd => nearArc_arcPoint _ _ hd⟩
  clear_value moved
  subst hmoved
  obtain ⟨hfi, hhanded, hkept⟩ := handedOff_moved s (s.movedFi e)
  by_cases hst : s.fi.st = .traversing ∨ s.fi.st = .cutNormal ∨ s.fi.st = .cutCrawl
  · have hneither : (∀ r, s.fi.st ≠ .holding r) ∧ ∀ m, s.fi.st ≠ .stopping m := by
      rcases hst with h | h | h <;> simp [h]
    exact ⟨_, exec_expiry_moving hclk hactive hopen hinside hst, fun _ => hhanded,
      fun _ _ => ⟨hfi, hkept⟩, fun r h => absurd h (hneither.1 r),
      fun m h => absurd h (hneither.2 m)⟩
  have hrest : (∃ r, s.fi.st = .holding r) ∨ (∃ m, s.fi.st = .stopping m) ∧ s.hj.phase = .none := by
    unfold State.onPath at hpath
    tauto
  obtain ⟨r, hst⟩ | ⟨⟨m, hst⟩, hphase⟩ := hrest
  · have hexec := exec_expiry_holding hclk hactive hopen hinside hst
    have hnostop : ∀ m, s.fi.st ≠ .stopping m := by simp [hst]
    by_cases hv : a.v = 0
    · rw [if_pos hv] at hexec
      obtain ⟨hheld, hhanded', hnoticed, hkept'⟩ :=
        handedOff_held (s := s) (r := r) (f := s.movedFi e) rfl hv
      refine ⟨_, hexec, fun _ => hhanded', fun h => absurd hst (h r), fun r' h => ?_,
        fun m h => absurd h (hnostop m)⟩
      obtain rfl : r = r' := by simpa using hst.symm.trans h
      exact ⟨by rw [if_pos hv, hheld], hnoticed, hkept'⟩
    · rw [if_neg hv] at hexec
      refine ⟨_, hexec, fun _ => hhanded, fun h => absurd hst (h r), fun r' h => ?_,
        fun m h => absurd h (hnostop m)⟩
      refine ⟨?_, ?_, ?_⟩
      · rw [if_neg hv, hfi, ← h]
        rfl
      · rw [stateNoticed, hfi]
        exact fun hc => (hc.elim (fun h1 => h1 rfl) fun h2 => h2 rfl).elim
      · exact hkept.mono (by simp)
  · have hexec := exec_expiry_stopping hclk hactive hopen hinside hst hphase
    have hnohold : ∀ r, s.fi.st ≠ .holding r := by simp [hst]
    by_cases hv : a.v = 0
    · rw [if_pos hv] at hexec
      exact ⟨_, hexec, fun h => absurd hv (h m hst), fun _ h => absurd hst (h m),
        fun r h => absurd h (hnohold r),
        fun m _ => ⟨fun h => absurd hv h, fun _ => stoppedAt_endStop hphase _⟩⟩
    · rw [if_neg hv] at hexec
      exact ⟨_, hexec, fun _ => hhanded, fun _ h => absurd hst (h m), fun r h => absurd h (hnohold r),
        fun m _ => ⟨fun _ => ⟨hfi, hkept⟩, fun h => absurd h hv⟩⟩

end Sys2Proof.Machine
end

section
/-! SUPPORT. The valid index (R70 to R75, R106, R107, R114, R115): FI's reaction to the hold-reason set,
what SLOW raises, the budget, the cap and the turn of H. -/

namespace Sys2Proof.Machine

/-! ### FI's reaction to the hold-reason set (R86, R89) -/

theorem State.holdFeed_fi (s : State) : s.holdFeed.fi = heldFi s.fi := by
  cases hst : s.fi.st <;> simp [State.holdFeed, heldFi, hst, State.enter_fi, FiState.still]

theorem State.resumeFeed_fi (s : State) : s.resumeFeed.fi = resumedFi s.fi := by
  cases hst : s.fi.st <;> simp [State.resumeFeed, resumedFi, hst, State.enter_fi]

theorem State.changeHolds_fi_reacted (s : State) (h : HoldSet) :
    (s.changeHolds h).fi = reactedFi s.hj.holds h s.fi := by
  rw [State.changeHolds_fi, State.holdFeed_fi, State.resumeFeed_fi, reactedFi, State.putHolds_fi]
  cases s.hj.holds.any <;> cases h.any <;> rfl

theorem stateNoticed.putHolds {s u : State} (h : stateNoticed s u) (x : HoldSet) :
    stateNoticed s (u.putHolds x) :=
  h.mono ((onlyNotices.refl u).putHolds x) (by rw [State.putHolds_fi])

theorem stateNoticed.holdFeed {s u : State} (h : stateNoticed s u) : stateNoticed s u.holdFeed := by
  unfold State.holdFeed
  split <;> first | exact h.enter _ | exact h

theorem stateNoticed.resumeFeed {s u : State} (h : stateNoticed s u) :
    stateNoticed s u.resumeFeed := by
  unfold State.resumeFeed
  split
  · exact h.enter _
  · exact stateNoticed.enter (u := { u with fi := { u.fi with v := 0 } }) h _
  · exact h

theorem stateNoticed.changeHolds {s u : State} (h : stateNoticed s u) (x : HoldSet) :
    stateNoticed s (u.changeHolds x) := by
  unfold State.changeHolds
  (repeat' split)
  · exact (h.putHolds x).holdFeed
  · exact (h.putHolds x).resumeFeed
  · exact h.putHolds x

/-! ### SLOW at HJ (R114, R122) -/

/-- The hold-reason set once SD holds SLOW so: it follows a change alone. -/
def State.slowHolds (s : State) (slow : Bool) : HoldSet :=
  if slow = s.sd.slow then s.hj.holds else { s.hj.holds with slow := slow }

theorem State.setSlow_sd (s : State) (slow : Bool) (clearing : Nat) :
    (s.setSlow slow clearing).sd = { s.sd with slow := slow, clearing := clearing } := by
  unfold State.setSlow
  dsimp only
  split
  · rfl
  · exact State.changeHolds_sd _ _

theorem State.setSlow_hj (s : State) (slow : Bool) (clearing : Nat) :
    (s.setSlow slow clearing).hj = { s.hj with holds := s.slowHolds slow } := by
  unfold State.setSlow State.slowHolds
  dsimp only
  split
  · rfl
  · exact State.changeHolds_hj _ _

theorem State.setSlow_fi (s : State) (slow : Bool) (clearing : Nat) :
    (s.setSlow slow clearing).fi = reactedFi s.hj.holds (s.slowHolds slow) s.fi := by
  unfold State.setSlow State.slowHolds
  dsimp only
  split
  · simp [reactedFi]
  · exact State.changeHolds_fi_reacted _ _

theorem State.setSlow_pendingAll {s : State} {slow : Bool} (clearing : Nat)
    (h : s.slowHolds slow ≠ s.hj.holds) : pendingAll (s.setSlow slow clearing) .state := by
  unfold State.setSlow
  unfold State.slowHolds at h
  dsimp only
  split
  case isTrue heq => exact absurd (if_pos heq) h
  case isFalse hne =>
    rw [if_neg hne] at h
    exact State.changeHolds_pendingAll _ _ h

theorem stateNoticed.setSlow {s u : State} (h : stateNoticed s u) (slow : Bool) (clearing : Nat) :
    stateNoticed s (u.setSlow slow clearing) := by
  unfold State.setSlow
  dsimp only
  split
  · exact h
  · refine stateNoticed.changeHolds ?_ _
    exact h

/-- SLOW as it stands only takes the clearing run. -/
theorem State.setSlow_same (s : State) (clearing : Nat) :
    s.setSlow s.sd.slow clearing = { s with sd := { s.sd with clearing := clearing } } := if_pos rfl

/-! ### The turn of H and SETTLE (R73 to R75, R82) -/

/-- FI in CRAWL after a turn toward its path heading: in `normal` where H is brought there (R73). -/
def crawledFi (c : Contour) (normal : FiState) (f : Interpolator) : Interpolator :=
  let target := (f.heading + c.offset) % 36000
  let h := turnStep target f.h c.grade.turn
  { f with h := h, st := if h = target then normal else f.st }

/-- FI in CORNER after a turn toward the active entry's heading (R74). -/
def corneredFi (c : Contour) (heading : Nat) (f : Interpolator) : Interpolator :=
  let target := (heading + c.offset) % 36000
  let h := turnStep target f.h c.grade.turn
  if h ≠ target then { f with h := h }
  else if c.grade.settle = 0 then { f with h := target, st := .cutNormal }
  else { f with h := target, st := .pivotSettle, settle := 0 }

/-- FI after what a valid index turns, by its state (R73 to R75, R82). -/
def turnedFi (c : Contour) (f : Interpolator) : Interpolator :=
  match f.st with
  | .cutCrawl => crawledFi c .cutNormal f
  | .holding .cutCrawl => crawledFi c (.holding .cutNormal) f
  | .stopping .cutCrawl => crawledFi c (.stopping .cutNormal) f
  | .starved => { f with h := turnStep ((f.heading + c.offset) % 36000) f.h c.grade.turn }
  | .pivotCorner =>
    match f.active.bind Entry.entryHeading with
    | none => f
    | some heading => corneredFi c heading f
  | .pivotSettle => { f with
      settle := f.settle + 1
      st := if c.grade.settle ≤ f.settle + 1 then .cutNormal else .pivotSettle }
  | _ => f

theorem State.crawlStep_fi (s : State) (c : Contour) {normal : FiState} (h : normal.still = false) :
    (s.crawlStep c normal).fi = crawledFi c normal s.fi := by
  unfold State.crawlStep crawledFi
  dsimp only
  rw [Contour.target_eq]
  split
  case isTrue hon =>
    have hturned : turnStep ((s.fi.heading + c.offset) % 36000) s.fi.h c.grade.turn =
        (s.fi.heading + c.offset) % 36000 := hon
    simp [State.enter_fi, h, State.turnTo, hturned]
  case isFalse hoff =>
    have hturned : turnStep ((s.fi.heading + c.offset) % 36000) s.fi.h c.grade.turn ≠
        (s.fi.heading + c.offset) % 36000 := hoff
    simp [State.turnTo, hturned]

theorem State.cornerStep_fi {s : State} (c : Contour) {heading : Nat}
    (hheading : s.fi.active.bind Entry.entryHeading = some heading) (hv : s.fi.v = 0) :
    (s.cornerStep c).fi = corneredFi c heading s.fi := by
  unfold State.cornerStep corneredFi
  rw [hheading]
  dsimp only
  rw [Contour.target_eq]
  by_cases hon : turnStep ((heading + c.offset) % 36000) s.fi.h c.grade.turn =
      (heading + c.offset) % 36000
  · by_cases hsettle : c.grade.settle = 0
    · simp [State.turnTo, hon, hsettle, State.enter_fi, FiState.still]
    · simp [State.turnTo, hon, hsettle, State.enter_fi, hv]
  · simp [State.turnTo, hon]

theorem State.settleStep_fi (s : State) (c : Contour) (hst : s.fi.st = .pivotSettle) :
    (s.settleStep c).fi = { s.fi with
      settle := s.fi.settle + 1
      st := if c.grade.settle ≤ s.fi.settle + 1 then .cutNormal else .pivotSettle } := by
  unfold State.settleStep
  dsimp only
  split
  · simp [State.enter_fi, FiState.still]
  · rw [← hst]

theorem State.indexTurn_fi {s : State} (c : Contour) (hv : s.fi.st = .pivotCorner → s.fi.v = 0) :
    (s.indexTurn c).fi = turnedFi c s.fi := by
  unfold State.indexTurn turnedFi
  cases hst : s.fi.st with
  | cutCrawl => exact s.crawlStep_fi c rfl
  | holding r => cases r <;> first | rfl | exact s.crawlStep_fi c rfl
  | stopping m => cases m <;> first | rfl | exact s.crawlStep_fi c rfl
  | starved => simp [State.turnTo, Contour.target_eq, hst]
  | pivotCorner =>
    dsimp only
    cases hheading : s.fi.active.bind Entry.entryHeading with
    | none => unfold State.cornerStep; rw [hheading]
    | some heading => exact State.cornerStep_fi c hheading (hv hst)
  | pivotSettle => exact s.settleStep_fi c hst
  | _ => rfl

/-- What a valid index turns is a change of FI, or one with an entered state behind it. -/
def State.turnsFrom (s t : State) : Prop :=
  ∃ f : Interpolator, f.st = s.fi.st ∧
    (t = { s with fi := f } ∨ ∃ st, t = ({ s with fi := f } : State).enter st)

theorem State.turnsFrom_crawlStep (s : State) (c : Contour) (normal : FiState) :
    s.turnsFrom (s.crawlStep c normal) := by
  unfold State.crawlStep
  dsimp only
  split
  · exact ⟨_, by rfl, .inr ⟨normal, rfl⟩⟩
  · exact ⟨_, by rfl, .inl rfl⟩

theorem State.turnsFrom_cornerStep (s : State) (c : Contour) : s.turnsFrom (s.cornerStep c) := by
  unfold State.cornerStep
  dsimp only
  (repeat' split)
  · exact ⟨s.fi, rfl, .inl rfl⟩
  · exact ⟨_, by rfl, .inr ⟨_, rfl⟩⟩
  · exact ⟨_, by rfl, .inr ⟨_, rfl⟩⟩
  · exact ⟨_, by rfl, .inl rfl⟩

theorem State.turnsFrom_settleStep (s : State) (c : Contour) : s.turnsFrom (s.settleStep c) := by
  unfold State.settleStep
  dsimp only
  split
  · exact ⟨_, by rfl, .inr ⟨_, rfl⟩⟩
  · exact ⟨_, by rfl, .inl rfl⟩

theorem State.turnsFrom_indexTurn (s : State) (c : Contour) : s.turnsFrom (s.indexTurn c) := by
  unfold State.indexTurn
  split
  · exact s.turnsFrom_cornerStep c
  · exact s.turnsFrom_settleStep c
  · exact s.turnsFrom_crawlStep c _
  · exact s.turnsFrom_crawlStep c _
  · exact s.turnsFrom_crawlStep c _
  · exact ⟨_, by rfl, .inl rfl⟩
  · exact ⟨s.fi, rfl, .inl rfl⟩

theorem State.turnsFrom.onlyNotices {s t : State} (h : s.turnsFrom t) : onlyNotices s t := by
  have hbase (f : Interpolator) : Machine.onlyNotices s { s with fi := f } := onlyNotices.refl s
  obtain ⟨f, -, rfl | ⟨st, rfl⟩⟩ := h
  · exact hbase f
  · exact (hbase f).enter st

theorem State.turnsFrom.passesKept {s t : State} (h : s.turnsFrom t) : passesKept s t := by
  have hbase (f : Interpolator) : Machine.passesKept s { s with fi := f } := passesKept.refl s
  obtain ⟨f, -, rfl | ⟨st, rfl⟩⟩ := h
  · exact hbase f
  · exact (hbase f).enter st

theorem State.turnsFrom.stateNoticed {s t : State} (h : s.turnsFrom t) : stateNoticed s t := by
  obtain ⟨f, hst, rfl | ⟨st, rfl⟩⟩ := h
  · intro hc
    rcases hc with hc | hc
    · exact absurd (congrArg FiState.code hst) hc
    · exact absurd (congrArg FiState.resume hst) hc
  · exact stateNoticed_enter hst st

/-! ### The budget, the stroke and the cap (R65, R70, R71) -/

/-- v under the cap of R65, in the states it limits. -/
def State.cappedSpeed (s : State) : Nat :=
  if s.fi.st.capped then min s.fi.v (s.capFor s.fi.st s.fi.active) else s.fi.v

theorem State.applyCap_eq (s : State) :
    s.applyCap = { s with fi := { s.fi with v := s.cappedSpeed } } := by
  unfold State.applyCap State.cappedSpeed
  rw [State.cap_eq_capFor]
  split <;> rfl

/-- The budget a valid index leaves: the bite of the bite entry, where there is a period (R70). -/
def refreshedBudget (c : Contour) (withPeriod : Bool) (biteEntry : Option Entry) (old : Nat) : Nat :=
  if withPeriod then (biteEntry.map (biteOf c.grade)).getD old else old

/-- FI once a valid index has counted in a contour (R70, R71). -/
def State.struckFi (s : State) (c : Contour) (withPeriod : Bool) : Interpolator :=
  { s.fi with
    strokes := s.fi.strokes + 1
    v := s.cappedSpeed
    budget := refreshedBudget c withPeriod s.biteEntry s.fi.budget }

theorem State.refresh_eq {s : State} {c : Contour} (hc : s.fi.contour = some c) : s.refresh =
    { s with fi := { s.fi with budget := refreshedBudget c true s.biteEntry s.fi.budget } } := by
  unfold State.refresh
  split
  · rename_i c' e hc' hbite
    obtain rfl : c = c' := Option.some.inj (hc.symm.trans hc')
    rw [hbite]
    rfl
  · rename_i hno
    cases hbite : s.biteEntry with
    | none => rfl
    | some e => exact absurd hbite (hno c e hc)

theorem State.indexEvent_contour {s : State} {c : Contour} (hc : s.fi.contour = some c)
    (withPeriod : Bool) : s.indexEvent withPeriod =
      ({ s with fi := s.struckFi c withPeriod } : State).indexTurn c := by
  unfold State.indexEvent
  rw [hc]
  dsimp only
  rw [State.applyCap_eq]
  cases withPeriod with
  | true => simp only [if_true, State.refresh_eq hc]; rfl
  | false => rfl

/-- Outside a contour FI only takes the new cap (R65). -/
theorem State.indexEvent_still {s : State} (hc : s.fi.contour = none) (withPeriod : Bool) :
    s.indexEvent withPeriod = { s with fi := { s.fi with v := s.cappedSpeed } } := by
  have hrefresh : s.refresh = s := by
    unfold State.refresh
    rw [hc]
  unfold State.indexEvent
  rw [hc, hrefresh, ite_self]
  exact s.applyCap_eq

/-- The bite entry of R70: the active cut entry, or the cut entry at the head where FI waits for one. -/
theorem State.biteEntry_eq (s : State) : s.biteEntry =
    if s.fi.active.any Entry.isCut then s.fi.active
    else if s.fi.st = .pivotEntry ∨ s.fi.st = .held .pivotEntry ∨ s.fi.st = .starved then
      s.cq.entries.head?.filter Entry.isCut
    else none := by
  unfold State.biteEntry State.cutActive
  split
  · rfl
  · cases hst : s.fi.st with
    | held r => cases r <;> simp
    | _ => simp

/-! ### The valid index (R106, R107, R114, R115) -/

/-- SLOW and its clearing run after a valid index of a contour (R114, R115): a rate below the grade's
minimum raises it, the second qualifying index in a row clears it. -/
def evaluatedSlow (g : Grade) (slow : Bool) (clearing : Nat) : Option Nat → Bool × Nat
  | none => (slow, 0)
  | some p =>
    if min 65535 (60000000 / p) < g.minSpm then (true, 0)
    else if slow = true ∧ 1 ≤ clearing then (false, 0)
    else (slow, min 2 (clearing + 1))

theorem State.slowAfter_eq {s : State} {c : Contour} (hc : s.fi.contour = some c)
    (period : Option Nat) :
    s.slowAfter period = evaluatedSlow c.grade s.sd.slow s.sd.clearing period := by
  unfold State.slowAfter
  rw [hc]
  cases period with
  | none => rfl
  | some p =>
    have hsecond : min 2 (s.sd.clearing + 1) = 2 ↔ 1 ≤ s.sd.clearing := by omega
    simp [strokeRate, hsecond, evaluatedSlow]

theorem State.slowAfter_still {s : State} (hc : s.fi.contour = none) (period : Option Nat) :
    s.slowAfter period = (s.sd.slow, s.sd.clearing) := by
  unfold State.slowAfter
  rw [hc]

/-- The decoder's counts at a valid index, with CZ high (R106, R107). -/
def State.countedDecoder (s : State) : Decoder :=
  { s.sd with
    cz := { raw := true, filtered := true, run := 0 }
    crank := 0, sinceIndex := 0, strokeTotal := s.sd.strokeTotal + 1
    period := s.measured.orElse fun _ => s.sd.period
    indexAge := 0, startPresent := true, slipRun := 0, missingRun := 0 }

/-- The state in which FI meets a valid index. -/
def State.counted (s : State) : State :=
  { s with pins := { s.pins with cz := true }, sd := s.countedDecoder }

/-- That state with FI at an interpolator. -/
def State.countedAt (s : State) (f : Interpolator) : State := { s.counted with fi := f }

theorem Block.same_countedAt {b : Block} (s : State) (f : Interpolator)
    (hb : b ∉ [Block.pins, .fi, .sd]) : b.same s (s.countedAt f) := by
  cases b
  case pins => simp at hb
  case fi => simp at hb
  case sd => simp at hb
  case ports => exact fun q => by cases q <;> rfl
  case notices => exact fun q => by cases q <;> exact ⟨rfl, rfl⟩
  case model => exact ⟨rfl, rfl, rfl⟩
  all_goals rfl

/-- The turn of H and SLOW leave the rest of what a valid index has counted. -/
theorem Block.same.indexTurn_setSlow {b : Block} {s u : State} (h : b.same s u) (c : Contour)
    (slow : Bool) (clearing : Nat) (hb : b ∉ [Block.fi, .sd, .hj, .ports, .notices]) :
    b.same s ((u.indexTurn c).setSlow slow clearing) := by
  cases b <;> simp_all [Block.same]

theorem exec_validIndex {s : State} (hclk : s.pins.clkin = true)
    (hvalid : s.sd.crank.toNat ≤ 2 ∨ 254 ≤ s.sd.crank.toNat) :
    exec .crankIndex s = .next ((s.counted.indexEvent s.measured.isSome).setSlow
      (s.slowAfter s.measured).1 (s.slowAfter s.measured).2) := by
  have hcount : validCount s.sd.crank = true := by simpa [validCount] using hvalid
  have hindex : s.crankIndex = s.czRises.validIndex := if_pos hcount
  have hexec : exec .crankIndex s = .next s.crankIndex := clocked_run s _ hclk
  rw [hexec, hindex]
  rfl

/-- Outside a contour a valid index leaves SLOW alone. -/
theorem exec_validIndex_still {s : State} (hclk : s.pins.clkin = true)
    (hvalid : s.sd.crank.toNat ≤ 2 ∨ 254 ≤ s.sd.crank.toNat) (hc : s.fi.contour = none) :
    exec .crankIndex s =
      .next (s.countedAt { s.fi with v := s.counted.cappedSpeed }) := by
  rw [exec_validIndex hclk hvalid, State.slowAfter_still hc,
    State.indexEvent_still (s := s.counted) hc]
  exact congrArg _ (State.setSlow_same _ _)

theorem exec_validIndex_contour {s : State} (hclk : s.pins.clkin = true)
    (hvalid : s.sd.crank.toNat ≤ 2 ∨ 254 ≤ s.sd.crank.toNat) {c : Contour}
    (hc : s.fi.contour = some c) : exec .crankIndex s = .next
      (((s.countedAt (s.counted.struckFi c s.measured.isSome)).indexTurn c).setSlow
        (evaluatedSlow c.grade s.sd.slow s.sd.clearing s.measured).1
        (evaluatedSlow c.grade s.sd.slow s.sd.clearing s.measured).2) := by
  rw [exec_validIndex hclk hvalid, State.slowAfter_eq hc,
    State.indexEvent_contour (s := s.counted) hc]
  rfl

/-- In CORNER v is 0, so that SETTLE is entered with v as it stands (R63). -/
theorem State.cappedSpeed_corner {s : State} (hstill : s.fi.st.still = true → s.fi.v = 0)
    (hst : s.fi.st = .pivotCorner) : s.cappedSpeed = 0 := by
  rw [State.cappedSpeed, hst]
  exact hstill (by rw [hst]; rfl)

/-- Settles O43: the valid index outside a contour and in one, with SLOW and the reaction behind it. -/
theorem validIndex : Obligations.ValidIndex := by
  intro s hclk hvalid hstill measured counted capped
  cases hc : s.fi.contour with
  | none =>
    refine ⟨_, exec_validIndex_still hclk hvalid hc, rfl, fun _ => ⟨rfl, rfl, ?_⟩,
      fun c h => absurd h (by simp)⟩
    refine keptBut_of_onlyNotices (onlyNotices.refl s) (passesKept.refl s) fun b hb _ => ?_
    exact Block.same_countedAt s _ (by simpa using hb)
  | some c =>
    refine ⟨_, exec_validIndex_contour hclk hvalid hc, ?_, fun h => absurd h (by simp), ?_⟩
    · simp [State.countedAt, State.counted]
    intro c' hc' headEntry biteEntry struck target toward crawled turned evaluated holds
    obtain rfl : c = c' := Option.some.inj hc'
    have hstruck : s.counted.struckFi c s.measured.isSome = struck := by
      have hbudget : refreshedBudget c s.measured.isSome s.counted.biteEntry s.fi.budget =
          struck.budget := by
        rw [s.counted.biteEntry_eq]
        change refreshedBudget c s.measured.isSome biteEntry s.fi.budget =
          match s.measured, biteEntry with
          | some _, some e => biteOf c.grade e
          | _, _ => s.fi.budget
        cases s.measured <;> cases biteEntry <;> rfl
      exact congrArg (fun n => { struck with budget := n }) hbudget
    have hevaluated : evaluatedSlow c.grade s.sd.slow s.sd.clearing s.measured = evaluated := rfl
    rw [hevaluated, hstruck]
    have hcorner : struck.st = .pivotCorner → struck.v = 0 :=
      State.cappedSpeed_corner (s := s.counted) hstill
    have hfrom := (s.countedAt struck).turnsFrom_indexTurn c
    have hturned : ((s.countedAt struck).indexTurn c).fi = turned :=
      State.indexTurn_fi (s := s.countedAt struck) c hcorner
    have hhj : ((s.countedAt struck).indexTurn c).hj = s.hj := State.indexTurn_hj _ c
    have hsd : ((s.countedAt struck).indexTurn c).sd = counted := State.indexTurn_sd _ c
    have hframe (b : Block) (hb : b ∉ [Block.pins, .fi, .sd, .hj, .notices]) (hports : b ≠ .ports) :=
      (Block.same_countedAt (b := b) s struck (by simp_all)).indexTurn_setSlow c evaluated.1
        evaluated.2 (by simp_all)
    have hnoticed : stateNoticed s ((s.countedAt struck).indexTurn c) := hfrom.stateNoticed
    have honly : onlyNotices s ((s.countedAt struck).indexTurn c) := hfrom.onlyNotices
    have hpasses : passesKept s ((s.countedAt struck).indexTurn c) := hfrom.passesKept
    generalize (s.countedAt struck).indexTurn c = u at *
    have hholds : u.slowHolds evaluated.1 = holds := by
      rw [State.slowHolds, hsd, hhj]
    refine ⟨?_, ?_, ?_, ?_, ?_, ?_⟩
    · rw [State.setSlow_sd, hsd]
    · rw [State.setSlow_hj, hhj, hholds]
    · rw [State.setSlow_fi, hhj, hholds, hturned]
    · intro hne
      refine State.setSlow_pendingAll _ ?_
      rwa [hholds, hhj]
    · exact hnoticed.setSlow _ _
    · exact keptBut_of_onlyNotices (honly.setSlow _ _) (hpasses.setSlow _ _) hframe

end Sys2Proof.Machine
end

section
/-! SUPPORT. What every step keeps of the permit state, the fault record, the contour and v (R63, R152,
R158): an operation either leaves FI in its state, or leads it on with MPERMIT high, or ends in FAULT
STOPPED with MPERMIT low. -/

namespace Sys2Proof.Machine

/-! ### The three ways a step treats FI -/

/-- The states of FI in which the permit state is HIGH (R158). -/
def FiState.powered : FiState → Bool
  | .offline => false
  | .stopped => false
  | _ => true

theorem FiState.powered_iff (st : FiState) : st.powered = true ↔ st ≠ .offline ∧ st ≠ .stopped := by
  cases st <;> simp [FiState.powered]

/-- Where v need not be 0, MPERMIT is high (R63, R158). -/
theorem FiState.powered_of_moving {st : FiState} (h : st.still = false) : st.powered = true := by
  cases st <;> simp_all [FiState.powered, FiState.still]

/-- FI in the same state, no faster from standstill and with no new contour, keeps the invariant. -/
theorem State.permitSafe.congr {s t : State} (h : s.permitSafe) (hst : t.fi.st = s.fi.st)
    (hv : t.fi.v = s.fi.v ∨ t.fi.v = 0 ∨ s.fi.st.still = false)
    (hc : t.fi.contour = s.fi.contour ∨ t.fi.contour = none)
    (hpermit : t.sv.permit = s.sv.permit) (hrecord : t.sv.record = s.sv.record) :
    t.permitSafe where
  permit := by rw [hpermit, hst]; exact h.permit
  record := by rw [hrecord, hst]; exact h.record
  offline ht := by
    rcases hc with hc | hc
    · rw [hc]; exact h.offline (hst ▸ ht)
    · exact hc
  still ht := by
    rw [hst] at ht
    rcases hv with hv | hv | hv
    · rw [hv]; exact h.still ht
    · exact hv
    · exact absurd ht (by simp [hv])

/-- An operation that does not touch FI or SV keeps the invariant. -/
theorem State.permitSafe.of_same {s t : State} (h : s.permitSafe) (hfi : t.fi = s.fi)
    (hsv : t.sv = s.sv) : t.permitSafe :=
  h.congr (by rw [hfi]) (.inl (by rw [hfi])) (.inl (by rw [hfi])) (by rw [hsv]) (by rw [hsv])

/-- FI goes on in `t` as in `r`: with MPERMIT high, in FAULT or outside it, at rest where R63 says so. -/
structure goesOn (r t : State) : Prop where
  powered : t.fi.st.powered = true
  fault : t.fi.st.isFault = r.fi.st.isFault
  rests : t.fi.st.still = true → t.fi.v = 0

theorem State.permitSafe.goesOn {s t : State} (h : s.permitSafe) (hs : s.fi.st.powered = true)
    (hgo : Machine.goesOn s t) (hsv : t.sv = s.sv) : t.permitSafe where
  permit := by
    rw [hsv]
    exact iff_of_true (h.permit.mpr ((FiState.powered_iff _).mp hs))
      ((FiState.powered_iff _).mp hgo.powered)
  record := by rw [hsv, hgo.fault]; exact h.record
  offline ht := absurd ht ((FiState.powered_iff _).mp hgo.powered).1
  still := hgo.rests

theorem goesOn.enter {r : State} (s : State) {st : FiState} (hst : st.powered = true)
    (hf : st.isFault = r.fi.st.isFault) : goesOn r (s.enter st) where
  powered := by rw [State.enter_fi]; exact hst
  fault := by rw [State.enter_fi]; exact hf
  rests ht := by
    rw [State.enter_fi] at ht ⊢
    exact if_pos ht

/-- Only FI's state and speed matter. -/
theorem goesOn.congr {r s t : State} (h : goesOn r s) (hst : t.fi.st = s.fi.st)
    (hv : t.fi.v = s.fi.v ∨ t.fi.v = 0 ∨ s.fi.st.still = false) : goesOn r t where
  powered := hst ▸ h.powered
  fault := hst ▸ h.fault
  rests ht := by
    rw [hst] at ht
    rcases hv with hv | hv | hv
    · exact hv.trans (h.rests ht)
    · exact hv
    · exact absurd ht (by simp [hv])

/-- A state in motion goes on as it is (R63). -/
theorem goesOn.of_moving {s : State} (h : s.fi.st.still = false) : goesOn s s where
  powered := FiState.powered_of_moving h
  fault := rfl
  rests ht := absurd ht (by simp [h])

/-- The end of the quick stop has MPERMIT low and keeps the record (R94, R152, R158). -/
theorem State.permitSafe.endStop {s : State} (hr : s.sv.record.isSome = true) :
    s.endStop.permitSafe where
  permit := by simp [State.endStop_sv, State.endStop_fi]
  record := by simp [State.endStop_sv, State.endStop_fi, hr, FiState.isFault]
  offline _ := by rw [State.endStop_fi]
  still _ := by rw [State.endStop_fi]

/-! ### The hold-reason set (R86, R89) -/

theorem State.permitSafe.holdFeed {s : State} (h : s.permitSafe) : s.holdFeed.permitSafe := by
  have hto {old st : FiState} (hst : s.fi.st = old) (hold : old.powered = true)
      (hp : st.powered = true) (hf : st.isFault = old.isFault) : (s.enter st).permitSafe :=
    h.goesOn (hst ▸ hold) (.enter s hp (by rw [hf, hst])) (State.enter_sv s st)
  unfold State.holdFeed
  split
  case h_7 => exact h
  all_goals
    rename_i hst
    exact hto hst rfl rfl rfl

theorem Resume.state_powered (r : Resume) : r.state.powered = true := by cases r <;> rfl

theorem Resume.state_isFault (r : Resume) : r.state.isFault = false := by cases r <;> rfl

theorem State.permitSafe.resumeFeed {s : State} (h : s.permitSafe) : s.resumeFeed.permitSafe := by
  unfold State.resumeFeed
  split
  case h_1 r hst =>
    refine h.goesOn (by rw [hst]; rfl) (.enter s r.state_powered ?_) (by simp)
    rw [r.state_isFault, hst]; rfl
  case h_2 r hst =>
    refine h.goesOn (by rw [hst]; rfl) (.enter _ r.state_powered ?_) (by simp)
    rw [r.state_isFault, hst]; rfl
  case h_3 => exact h

theorem State.permitSafe.changeHolds {s : State} (h : s.permitSafe) (x : HoldSet) :
    (s.changeHolds x).permitSafe := by
  have hput : (s.putHolds x).permitSafe := h.of_same (by simp) (by simp)
  unfold State.changeHolds
  dsimp only
  (repeat' split)
  · exact hput.holdFeed
  · exact hput.resumeFeed
  · exact hput

theorem State.permitSafe.endJog {s : State} (h : s.permitSafe) (c : EndCause) :
    (s.endJog c).permitSafe := h.of_same (by simp) (by simp)

theorem State.permitSafe.joinHold {s : State} (h : s.permitSafe) (present : Bool) (x : HoldSet) :
    (s.joinHold present x).permitSafe := by
  unfold State.joinHold
  split
  · exact h
  · exact (h.changeHolds x).endJog _

theorem State.permitSafe.setSlow {s : State} (h : s.permitSafe) (slow : Bool) (clearing : Nat) :
    (s.setSlow slow clearing).permitSafe := by
  unfold State.setSlow
  dsimp only
  split
  · exact h.of_same rfl rfl
  · exact State.permitSafe.changeHolds (h.of_same (by rfl) (by rfl)) _

theorem State.permitSafe.addHold {s : State} (h : s.permitSafe) (p : Port) :
    (s.addHold p).permitSafe := by
  unfold State.addHold
  split
  · exact h.joinHold _ _
  · exact h.joinHold _ _
  · exact h.changeHolds _

theorem State.permitSafe.setBlade {s : State} (h : s.permitSafe) (running : Bool) :
    (s.setBlade running).permitSafe := by
  unfold State.setBlade
  extract_lets sd s1
  have h1 : s1.permitSafe := h.of_same rfl rfl
  (repeat' split)
  · exact h
  · exact h1.changeHolds _
  · exact h1.changeHolds _
  · exact h1

/-! ### Speed, demand and flush -/

theorem State.permitSafe.recomputeDemand {s : State} (h : s.permitSafe) :
    s.recomputeDemand.permitSafe := by
  refine h.congr ?_ (.inl ?_) (.inl ?_) (by simp) (by simp) <;> simp [State.recomputeDemand_fi]

/-- The cap can only lower v (R65). -/
theorem State.permitSafe.applyCap {s : State} (h : s.permitSafe) : s.applyCap.permitSafe := by
  refine h.congr (by simp [State.applyCap_fi]) ?_ (.inl (by simp [State.applyCap_fi])) (by simp)
    (by simp)
  rw [State.applyCap_fi]
  cases hst : s.fi.st <;> simp [FiState.capped, FiState.still]

theorem State.permitSafe.flush {s : State} (h : s.permitSafe) : s.flush.permitSafe := by
  refine h.congr ?_ (.inr (.inl ?_)) (.inr ?_) (by simp) (by simp) <;> simp [State.flush_fi]

/-! ### Faults (R93, R152) -/

/-- A first fault leads FI into the quick stop with MPERMIT still high, or, where v is 0 already, to
its end (R93, R94). -/
theorem State.permitSafe.beginStop {s : State} (h : s.permitSafe) (c : Cause) :
    (s.recordFault c).beginStop.permitSafe := by
  rw [State.beginStop_eq]
  extract_lets s1 v fi s2
  have hrecord : s2.sv = (s.recordFault c).sv := by simp [s2, s1]
  have hstop : s2.fi.st.isFault = true := by simp [s2, fi, s1, State.enter_fi, FiState.isFault]
  split
  case isTrue => exact State.permitSafe.endStop (by simp [hrecord])
  case isFalse hv =>
    have hmoving : s.fi.st.still = false := by
      by_contra hstill
      have hzero : s.fi.v = 0 := h.still (by simpa using hstill)
      exact hv (by simp [v, hzero])
    have hon : s.sv.permit = true :=
      h.permit.mpr ((FiState.powered_iff _).mp (FiState.powered_of_moving hmoving))
    refine ⟨?_, ?_, fun ht => ?_, fun ht => ?_⟩
    · rw [hrecord]
      simp [hon, s2, fi, s1, State.enter_fi]
    · rw [hstop]
      simp [hrecord]
    · simp [s2, fi, s1, State.enter_fi] at ht
    · simp [s2, fi, s1, State.enter_fi, FiState.still] at ht

theorem State.permitSafe.reportFault {s : State} (h : s.permitSafe) (c : Cause) :
    (s.reportFault c).permitSafe := by
  unfold State.reportFault
  split
  · exact h.beginStop c
  · exact h.congr rfl (.inl rfl) (.inl rfl) rfl rfl

theorem State.permitSafe.reportCrank {s : State} (h : s.permitSafe) (c : Cause) :
    (s.reportCrank c).permitSafe := by
  unfold State.reportCrank
  split
  · exact h
  · exact h.reportFault c

/-! ### The path (R68, R73, R74, R77, R80 to R84) -/

/-- The dispatch leads on to IDLE, PRIMING or TRAVERSING (R77). -/
theorem goesOn.dispatchNow {r : State} (s : State) (hf : r.fi.st.isFault = false) :
    goesOn r s.dispatchNow := by
  unfold State.dispatchNow
  (repeat' split) <;> exact .enter _ rfl hf.symm

theorem goesOn.contourEnd {r : State} (s : State) (hf : r.fi.st.isFault = false) :
    goesOn r s.contourEnd := by
  unfold State.contourEnd
  extract_lets tag dropped fi s1 s2 s3 fi3
  split
  · exact .enter _ rfl hf.symm
  · exact .dispatchNow _ hf

theorem goesOn.stopEnd {s : State} (hmoving : s.fi.st.still = false) (e : Entry) :
    goesOn s (s.stopEnd e) := by
  unfold State.stopEnd
  dsimp only
  split
  case isTrue => exact (goesOn.of_moving hmoving).congr rfl (.inr (.inl rfl))
  case isFalse hf =>
    rw [Bool.not_eq_true] at hf
    split
    · exact .dispatchNow _ hf
    split
    · exact .contourEnd _ hf
    split
    · exact .enter _ rfl hf.symm
    · unfold State.startPivot
      dsimp only
      split <;> exact .enter _ rfl hf.symm

theorem FiState.crawling_still (st : FiState) : st.crawling.still = st.still := by
  cases st with
  | holding r => cases r <;> rfl
  | stopping m => cases m <;> rfl
  | _ => rfl

theorem FiState.crawling_isFault (st : FiState) : st.crawling.isFault = st.isFault := by
  cases st with
  | holding r => cases r <;> rfl
  | stopping m => cases m <;> rfl
  | _ => rfl

/-- A carry end leaves FI in its state, or in CRAWL of it (R68, R73). -/
theorem State.carryEnd_st (s : State) (e next : Entry) (turn : Bool) (whole : Nat) :
    (s.carryEnd e next turn whole).1.fi.st = s.fi.st ∨
      (s.carryEnd e next turn whole).1.fi.st = s.fi.st.crawling := by
  unfold State.carryEnd
  extract_lets excess fi s0 s1 s2 carried fi2 s3 w fi3
  have htaken : s1.fi.st = s.fi.st := by simp [s1, State.limitBudget, State.takeEntry_fi, s0, fi]
  have hst : s2.fi.st = s.fi.st ∨ s2.fi.st = s.fi.st.crawling := by
    simp only [s2, State.applyCap_fi]
    split
    · exact .inr (by rw [State.enter_fi, htaken])
    · exact .inl htaken
  split
  · simpa [State.applyCap_fi] using hst
  · exact hst

theorem goesOn.runEnds (fuel : Nat) {r s : State} (hmoving : s.fi.st.still = false)
    (hf : s.fi.st.isFault = r.fi.st.isFault) (whole : Nat) :
    goesOn r (State.runEnds fuel s whole) := by
  have hon {t : State} (h : goesOn s t) : goesOn r t := ⟨h.powered, h.fault.trans hf, h.rests⟩
  have hstay := hon (.of_moving hmoving)
  induction fuel generalizing s whole with
  | zero => exact hstay
  | succ fuel ih =>
    unfold State.runEnds
    split
    · exact hstay
    split
    · exact hstay.congr rfl (.inl rfl)
    split
    case h_1 e _ _ _ next turn _ =>
      have hst : ∀ st, st = s.fi.st ∨ st = s.fi.st.crawling →
          st.still = false ∧ st.isFault = r.fi.st.isFault := by
        rintro st (rfl | rfl)
        · exact ⟨hmoving, hf⟩
        · exact ⟨(s.fi.st.crawling_still).trans hmoving, (s.fi.st.crawling_isFault).trans hf⟩
      obtain ⟨hmoving', hf'⟩ := hst _ (s.carryEnd_st e next turn whole)
      have hon' {t : State} (h : goesOn (s.carryEnd e next turn whole).1 t) : goesOn r t :=
        ⟨h.powered, h.fault.trans hf', h.rests⟩
      exact ih hmoving' hf' _ hon' (hon' (.of_moving hmoving'))
    · exact hon (.stopEnd hmoving _)

theorem goesOn.move {s : State} (hmoving : s.fi.st.still = false) : goesOn s s.move :=
  goesOn.runEnds _ (r := s) (s := s.advance.1) hmoving rfl _

theorem State.permitSafe.move {s : State} (h : s.permitSafe) (hmoving : s.fi.st.still = false) :
    s.move.permitSafe :=
  h.goesOn (FiState.powered_of_moving hmoving) (.move hmoving) s.move_sv

theorem State.permitSafe.dispatchNow {s : State} (h : s.permitSafe)
    (hpower : s.fi.st.powered = true) (hf : s.fi.st.isFault = false) :
    s.dispatchNow.permitSafe :=
  h.goesOn hpower (.dispatchNow s hf) s.dispatchNow_sv

theorem State.permitSafe.enter {s : State} (h : s.permitSafe) {st : FiState}
    (hs : s.fi.st.powered = true) (hst : st.powered = true) (hf : st.isFault = s.fi.st.isFault) :
    (s.enter st).permitSafe :=
  h.goesOn hs (.enter s hst hf) (s.enter_sv st)

theorem State.permitSafe.takeEntry {s : State} (h : s.permitSafe) (e : Entry) :
    (s.takeEntry e).permitSafe := by
  refine h.congr ?_ (.inl ?_) (.inl ?_) (by simp) (by simp) <;> simp [State.takeEntry_fi]

/-- The take of a cut entry that ends a slew or STARVED (R80, R83). -/
theorem State.permitSafe.takeCut {s : State} (h : s.permitSafe) (e : Entry) {st : FiState}
    (hs : s.fi.st.powered = true) (hst : st.powered = true) (hf : st.isFault = s.fi.st.isFault) :
    (((s.takeEntry e).limitBudget e).enter st).permitSafe := by
  have htaken : ((s.takeEntry e).limitBudget e).permitSafe :=
    (h.takeEntry e).congr rfl (.inl rfl) (.inl rfl) rfl rfl
  have hsame : ((s.takeEntry e).limitBudget e).fi.st = s.fi.st := by
    simp [State.limitBudget, State.takeEntry_fi]
  exact htaken.enter (by rwa [hsame]) hst (by rwa [hsame])

theorem State.permitSafe.slew {s : State} (h : s.permitSafe) (hst : s.fi.st = .pivotEntry) :
    s.slew.permitSafe := by
  have hturned (n : Nat) : State.permitSafe { s with fi := { s.fi with h := n } } :=
    h.congr rfl (.inl rfl) (.inl rfl) rfl rfl
  unfold State.slew
  split
  · split
    · dsimp only
      split
      · exact (hturned _).takeCut _ (by simp [hst, FiState.powered]) rfl
          (by simp [hst, FiState.isFault])
      · exact hturned _
    · exact h
  · exact h

/-! ### Jog, quick stop and the expiry (R92, R93, R132, R136) -/

/-- The jog's motion changes FI's speed and position alone, in a moving state (R131 to R133). -/
theorem State.permitSafe.jogStep {s : State} (h : s.permitSafe) (hst : s.fi.st = .jog) :
    s.jogStep.permitSafe := by
  have hmoving : s.fi.st.still = false := by rw [hst]; rfl
  unfold State.jogStep
  (repeat' split)
  · exact h
  all_goals exact h.congr rfl (.inr (.inr hmoving)) (.inl rfl) rfl rfl

theorem State.jogStep_st (s : State) : s.jogStep.fi.st = s.fi.st := by
  unfold State.jogStep
  (repeat' split) <;> rfl

theorem State.permitSafe.jogComplete {s : State} (h : s.permitSafe) (hst : s.fi.st = .jog) :
    s.jogComplete.permitSafe := by
  have hflushed : (State.flush { s with hj := { s.hj with phase := .none } }).permitSafe :=
    State.permitSafe.flush (h.of_same rfl rfl)
  unfold State.jogComplete
  (repeat' split)
  · exact hflushed.enter (by simp [State.flush_fi, hst, FiState.powered]) rfl
      (by simp [State.flush_fi, hst, FiState.isFault])
  · exact h
  · exact h

theorem State.permitSafe.stopMove {s : State} (h : s.permitSafe) {m : StopMode}
    (hst : s.fi.st = .stopping m) : s.stopMove.permitSafe := by
  have hmoving : s.fi.st.still = false := by rw [hst]; rfl
  have hsame {t : State} (hst : t.fi.st = s.fi.st) (hc : t.fi.contour = s.fi.contour)
      (hsv : t.sv = s.sv) : t.permitSafe :=
    h.congr hst (.inr (.inr hmoving)) (.inl hc) (by rw [hsv]) (by rw [hsv])
  unfold State.stopMove
  split
  · split <;> exact hsame rfl rfl rfl
  · split
    · exact h.move hmoving
    · exact hsame rfl rfl rfl

/-- In FAULT a record is present (R152). -/
theorem State.permitSafe.recorded {s : State} (h : s.permitSafe) {m : StopMode}
    (hst : s.fi.st = .stopping m) : s.sv.record.isSome = true := by
  rw [h.record, hst]
  rfl

theorem State.permitSafe.handOff {s : State} (h : s.permitSafe) : s.handOff.permitSafe :=
  h.of_same rfl rfl

theorem State.permitSafe.feedWork {s : State} (h : s.permitSafe) : s.feedWork.permitSafe := by
  have hmove (hmoving : s.fi.st.still = false) : s.move.handOff.permitSafe := (h.move hmoving).handOff
  unfold State.feedWork
  split
  case h_1 | h_2 => exact h
  case h_3 hst => exact (h.slew hst).handOff
  case h_4 hst | h_5 hst | h_6 hst => exact hmove (by rw [hst]; rfl)
  case h_7 hst =>
    have hmoved := hmove (by rw [hst]; rfl)
    dsimp only
    split
    case h_1 r hr =>
      split
      · exact hmoved.enter (by rw [hr]; rfl) rfl (by rw [hr]; rfl)
      · exact hmoved
    case h_2 => exact hmoved
  case h_8 hst =>
    exact (h.jogStep hst).handOff.jogComplete (by rw [State.handOff_fi, State.jogStep_st, hst])
  case h_9 m hst =>
    dsimp only
    split
    · exact .endStop (by rw [State.handOff_sv, State.stopMove_sv]; exact h.recorded hst)
    · exact (h.stopMove hst).handOff
  case h_10 => exact h.handOff

theorem State.permitSafe.stopLimit {s : State} (h : s.permitSafe) : s.stopLimit.permitSafe := by
  unfold State.stopLimit
  split
  · exact .endStop (h.recorded ‹_›)
  · exact h

theorem State.permitSafe.tickStop {s : State} (h : s.permitSafe) : s.tickStop.permitSafe := by
  unfold State.tickStop
  split
  · exact h.congr rfl (.inl rfl) (.inl rfl) rfl rfl
  · exact h

theorem State.permitSafe.tickWindow {s : State} (h : s.permitSafe) : s.tickWindow.permitSafe :=
  h.of_same (by simp) (by simp)

theorem State.permitSafe.feedPeriod {s : State} (h : s.permitSafe) : s.feedPeriod.permitSafe := by
  have htime : s.tickTime.tickDecoder.permitSafe := h.of_same (by simp) (by simp)
  exact htime.tickStop.feedWork.tickWindow

/-! ### The takes of an OPEN and of STARVED (R79, R83) -/

theorem State.permitSafe.openTake {s : State} (h : s.permitSafe) : s.openTake.permitSafe := by
  have htake (hst : s.fi.st = .priming) (e : Entry) (c : Contour) :
      (s.takeOpen e c).permitSafe := by
    have htaken : (s.openTaken e c).permitSafe := by
      refine h.goesOn (by rw [hst]; rfl) (.enter _ rfl (by rw [hst]; rfl)) ?_
      simp [State.openTaken]
    rw [State.takeOpen_eq]
    split
    · exact htaken.setSlow _ _
    · exact htaken
  unfold State.openTake
  (repeat' split)
  case isTrue hready => exact htake ((State.openReady_iff s).mp hready).1 _ _
  all_goals exact h

theorem State.permitSafe.starvedResume {s : State} (h : s.permitSafe) :
    s.starvedResume.permitSafe := by
  have hclass (c : Contour) (e : Entry) :
      (s.resumeClass c e).powered = true ∧ (s.resumeClass c e).isFault = false := by
    unfold State.resumeClass
    (repeat' split) <;> exact ⟨rfl, rfl⟩
  unfold State.starvedResume
  split
  case h_1 c e _ _ _ =>
    split
    case isTrue hready =>
      have hst : s.fi.st = .starved := by simp_all
      exact h.takeCut e (by rw [hst]; rfl) (hclass c e).1 (by rw [(hclass c e).2, hst]; rfl)
    case isFalse => exact h
  case h_2 => exact h

/-! ### The crank, the index and supervision (R104 to R109, R112, R162) -/

theorem State.permitSafe.missIndex {s : State} (h : s.permitSafe) : s.missIndex.permitSafe := by
  unfold State.missIndex
  extract_lets run sd s1
  have h1 : s1.permitSafe := h.of_same rfl rfl
  split
  · exact h1.reportCrank _
  · exact h1

theorem State.permitSafe.crankEdge {s : State} (h : s.permitSafe) (onA onB : Bool) :
    (s.crankEdge onA onB).permitSafe := by
  have h1 : (s.crankSample onA onB).permitSafe := h.of_same rfl rfl
  have hforward : (s.crankSample onA onB).countForward.permitSafe := by
    unfold State.countForward
    dsimp only
    split
    · exact State.permitSafe.missIndex (h1.of_same (by rfl) (by rfl))
    · exact h1.of_same rfl rfl
  have hback : (s.crankSample onA onB).countBack.permitSafe := by
    unfold State.countBack
    dsimp only
    split
    · exact State.permitSafe.reportCrank (h1.of_same (by rfl) (by rfl)) _
    · exact h1.of_same rfl rfl
  unfold State.crankEdge
  dsimp only
  (repeat' split)
  · exact h1.of_same rfl rfl
  · exact h1
  · exact hforward
  · exact hback

/-- The turn of H and its end in CUTTING NORMAL or CRAWL's own NORMAL (R73, R87, R93). -/
theorem State.permitSafe.crawlStep {s : State} (h : s.permitSafe) (c : Contour) {normal : FiState}
    (hs : s.fi.st.powered = true) (hnormal : normal.powered = true)
    (hf : normal.isFault = s.fi.st.isFault) : (s.crawlStep c normal).permitSafe := by
  have hturned (target : Nat) : (s.turnTo c target).permitSafe :=
    h.congr rfl (.inl rfl) (.inl rfl) rfl rfl
  unfold State.crawlStep
  dsimp only
  split
  · exact (hturned _).enter hs hnormal hf
  · exact hturned _

theorem State.permitSafe.cornerStep {s : State} (h : s.permitSafe) (c : Contour)
    (hst : s.fi.st = .pivotCorner) : (s.cornerStep c).permitSafe := by
  have hpower : s.fi.st.powered = true := by rw [hst]; rfl
  have hf : false = s.fi.st.isFault := by rw [hst]; rfl
  have hturned (target : Nat) : (s.turnTo c target).permitSafe :=
    h.congr rfl (.inl rfl) (.inl rfl) rfl rfl
  have hsettling (target : Nat) : State.permitSafe { s.turnTo c target with
      fi := { (s.turnTo c target).fi with settle := 0 } } :=
    h.congr rfl (.inl rfl) (.inl rfl) rfl rfl
  unfold State.cornerStep
  dsimp only
  (repeat' split)
  · exact h
  · exact (hturned _).enter hpower rfl hf
  · exact (hsettling _).enter hpower rfl hf
  · exact hturned _

theorem State.permitSafe.settleStep {s : State} (h : s.permitSafe) (c : Contour)
    (hst : s.fi.st = .pivotSettle) : (s.settleStep c).permitSafe := by
  unfold State.settleStep
  extract_lets fi s1
  have h1 : s1.permitSafe := h.congr rfl (.inl rfl) (.inl rfl) rfl rfl
  have hst1 : s1.fi.st = .pivotSettle := hst
  split
  · exact h1.enter (by rw [hst1]; rfl) rfl (by rw [hst1]; rfl)
  · exact h1

/-- What a valid index turns leads FI on, in CRAWL inside FAULT or outside it (R73 to R75, R93). -/
theorem State.permitSafe.indexTurn {s : State} (h : s.permitSafe) (c : Contour) :
    (s.indexTurn c).permitSafe := by
  unfold State.indexTurn
  split
  case h_1 hst => exact h.cornerStep c hst
  case h_2 hst => exact h.settleStep c hst
  case h_3 hst | h_4 hst | h_5 hst => exact h.crawlStep c (by rw [hst]; rfl) rfl (by rw [hst]; rfl)
  case h_6 => exact h.congr rfl (.inl rfl) (.inl rfl) rfl rfl
  case h_7 => exact h

theorem State.permitSafe.indexEvent {s : State} (h : s.permitSafe) (withPeriod : Bool) :
    (s.indexEvent withPeriod).permitSafe := by
  have hrefresh : s.refresh.permitSafe := by
    unfold State.refresh
    split
    · exact h.congr rfl (.inl rfl) (.inl rfl) rfl rfl
    · exact h
  have hbegun : (if withPeriod then s.refresh else s).permitSafe := by
    split
    · exact hrefresh
    · exact h
  unfold State.indexEvent
  generalize (if withPeriod then s.refresh else s) = s1 at hbegun
  dsimp only
  split
  · exact hbegun.applyCap
  · refine State.permitSafe.indexTurn (State.permitSafe.applyCap ?_) _
    exact hbegun.congr rfl (.inl rfl) (.inl rfl) rfl rfl

theorem State.permitSafe.crankIndex {s : State} (h : s.permitSafe) : s.crankIndex.permitSafe := by
  unfold State.crankIndex
  dsimp only
  split
  · refine State.permitSafe.setSlow (State.permitSafe.indexEvent ?_ _) _ _
    exact h.of_same rfl rfl
  · unfold State.slipIndex
    dsimp only
    split
    · refine State.permitSafe.reportCrank ?_ _
      exact h.of_same rfl rfl
    · exact h.of_same rfl rfl

theorem State.permitSafe.slowOverdue {s : State} (h : s.permitSafe) :
    s.slowOverdue.permitSafe := by
  unfold State.slowOverdue
  split
  · exact h
  · refine State.permitSafe.setSlow ?_ _ _
    exact h.of_same rfl rfl

theorem State.permitSafe.stallTimeout {s : State} (h : s.permitSafe) :
    s.stallTimeout.permitSafe := by
  unfold State.stallTimeout
  (repeat' split)
  · refine State.permitSafe.reportFault ?_ _
    exact h.of_same rfl rfl
  · refine State.permitSafe.reportFault ?_ _
    exact h.of_same rfl rfl
  · exact h

theorem State.permitSafe.clockLost {s : State} (h : s.permitSafe) : s.clockLost.permitSafe :=
  h.congr rfl (.inl rfl) (.inl rfl) rfl rfl

/-- The fall of MPERMIT at a return in OFFLINE or FAULT STOPPED finds it low already (R158, R162). -/
theorem State.permitSafe.lossFall {s : State} (h : s.permitSafe)
    (hst : s.fi.st = .offline ∨ s.fi.st = .stopped) : s.lossFall.permitSafe := by
  have hlow : s.sv.permit = false := by
    rw [Bool.eq_false_iff, ne_eq, h.permit]
    tauto
  refine h.congr ?_ (.inl ?_) (.inl ?_) ?_ ?_ <;>
    simp [State.lossFall, State.lowerPermit_sv, hlow]

/-- FAULT STOPPED at the return stands on the record of the loss, or of the fault before it (R162). -/
theorem State.permitSafe.stopDirect {s : State} (hr : s.sv.record.isSome = true) :
    s.lossFall.stopDirect.permitSafe :=
  .endStop (by simpa [State.lossFall, State.lowerPermit_sv] using hr)

theorem State.permitSafe.returnAction {s : State} (h : s.permitSafe) :
    s.returnAction.permitSafe := by
  unfold State.returnAction
  split
  case h_1 hst => exact h.lossFall (.inl hst)
  case h_2 hst => exact .stopDirect (h.recorded hst)
  case h_3 hst =>
    have hfurther : s.furtherFault.permitSafe := h.congr rfl (.inl rfl) (.inl rfl) rfl rfl
    exact hfurther.lossFall (.inr hst)
  case h_4 =>
    split
    case h_1 => exact .stopDirect (by simp)
    case h_2 r hr => exact .stopDirect (by simp [State.furtherFault, hr])

theorem State.permitSafe.clockReturned {s : State} (h : s.permitSafe) :
    s.clockReturned.permitSafe := by
  have h1 : State.permitSafe
      { s with pins := { s.pins with clkin := true }, sv := { s.sv with missed := 0 } } :=
    h.congr rfl (.inl rfl) (.inl rfl) rfl rfl
  unfold State.clockReturned
  dsimp only
  split
  · exact h1.returnAction.congr rfl (.inl rfl) (.inl rfl) rfl rfl
  · exact h1

/-! ### The block's own cycle (R98, R101, R171) -/

theorem State.permitSafe.portCycle {s : State} (h : s.permitSafe) (p : Port) :
    (s.portCycle p).permitSafe := by
  have hsample {u : State} (hu : u.permitSafe) : (u.samplePort p).permitSafe := by
    unfold State.samplePort
    dsimp only
    split <;> exact hu.of_same (by simp) (by simp)
  have hrx : (s.rxCycle p).permitSafe := by
    unfold State.rxCycle
    dsimp only
    split
    · exact hsample (h.of_same (by simp) (by simp))
    · exact h.of_same (by simp) (by simp)
  exact hrx.of_same (by simp [State.portCycle]) (by simp [State.portCycle])

theorem State.permitSafe.strokeSample {s : State} (h : s.permitSafe) (edge : Bool) :
    (s.strokeSample edge).permitSafe := by
  have hindex {u : State} (hu : u.permitSafe) : (u.indexSample edge).permitSafe := by
    unfold State.indexSample
    (repeat' split)
    · exact hu.crankIndex
    · exact hu.of_same rfl rfl
    · exact hu
  have hoverdue {u : State} (hu : u.permitSafe) : u.overdueTest.permitSafe := by
    unfold State.overdueTest
    split
    · exact hu.setSlow _ _
    · exact hu
  have hchosen : s.chosen.permitSafe := h.of_same rfl rfl
  rcases s.strokeSample_cases edge with he | he | he <;> rw [he]
  · exact hoverdue (hindex h)
  · exact hoverdue (hindex hchosen)
  · exact hoverdue (hindex (hoverdue hchosen))

theorem State.permitSafe.lineSample {s : State} (h : s.permitSafe) (edge : Bool) :
    (s.lineSample edge).permitSafe := by
  have hedge (level : Bool) : (s.holdnEdge level).permitSafe := h.of_same rfl rfl
  unfold State.lineSample
  (repeat' split)
  · exact (hedge true).changeHolds _
  · exact (hedge false).joinHold _ _
  · exact h

theorem State.permitSafe.sampleInputs {s : State} (h : s.permitSafe) :
    s.sampleInputs.permitSafe := by
  have hblade {u : State} (hu : u.permitSafe) (onA onB edge : Bool) :
      (u.bladeSample onA onB edge).permitSafe := by
    unfold State.bladeSample
    split
    · exact (hu.crankEdge onA onB).strokeSample edge
    · exact hu.strokeSample edge
  unfold State.sampleInputs
  extract_lets k ca cb cz holdn sd s1
  have h1 : s1.permitSafe := h.of_same rfl rfl
  have hchosen : s1.chosen.permitSafe := h.of_same rfl rfl
  (repeat' split)
  · exact hblade (hchosen.lineSample _) _ _ _
  · exact (hblade hchosen _ _ _).lineSample _
  · exact (hblade h1 _ _ _).lineSample _

theorem State.permitSafe.millisecond {s : State} (h : s.permitSafe) : s.millisecond.permitSafe := by
  have hchosen {u : State} (hu : u.permitSafe) : u.chosen.permitSafe := hu.of_same rfl rfl
  have hticked : s.tickTime.tickDecoder.permitSafe := h.of_same (by simp) (by simp)
  have hstall : s.tickTime.tickDecoder.stallFirst.permitSafe := by
    rcases State.stallFirst_cases s.tickTime.tickDecoder with he | he | he <;> rw [he]
    · exact hticked
    · exact hchosen hticked
    · exact (hchosen hticked).stallTimeout
  have hlimit : s.tickTime.tickDecoder.stallFirst.tickStop.limitFirst.permitSafe := by
    rcases State.limitFirst_cases s.tickTime.tickDecoder.stallFirst.tickStop with he | he | he <;>
      rw [he]
    · exact hstall.tickStop
    · exact hchosen hstall.tickStop
    · exact (hchosen hstall.tickStop).stopLimit
  exact hlimit.feedWork.tickWindow

theorem State.permitSafe.microsecond {s : State} (h : s.permitSafe) : s.microsecond.permitSafe := by
  have h1 : s.passMicro.permitSafe := h.of_same rfl rfl
  have hchosen : s.passMicro.chosen.permitSafe := h.of_same rfl rfl
  have hmeets {u : State} (hu : u.permitSafe) (v : State) : (u.stallMeets v).permitSafe := by
    rcases u.stallMeets_cases v with he | he <;> rw [he]
    · exact hu
    · exact hu.of_same rfl rfl
  have hslots {u : State} (hu : u.permitSafe) : u.slots.permitSafe := hu.of_same rfl rfl
  unfold State.microsecond
  dsimp only
  refine hslots ?_
  (repeat' split)
  · exact (hmeets hchosen.sampleInputs _).millisecond
  · exact hchosen.millisecond.sampleInputs
  · exact h1.sampleInputs

theorem State.permitSafe.cycle {s : State} (h : s.permitSafe) : s.cycle.permitSafe := by
  have h0 : s.clockEdge.permitSafe := by
    rw [State.clockEdge_eq]
    exact h.congr rfl (.inl rfl) (.inl rfl) rfl rfl
  have hports := ((h0.portCycle .job).portCycle .blade).portCycle .panel
  unfold State.cycle
  dsimp only
  split
  · refine State.permitSafe.microsecond ?_
    exact hports.of_same rfl rfl
  · exact hports.of_same rfl rfl

/-! ### The owners of the requests -/

/-- Whatever the state, `f` keeps the invariant. -/
def permitSteps (f : State → State) : Prop := ∀ s : State, s.permitSafe → (f s).permitSafe

theorem permitSteps.clocked {f : State → State} (hf : permitSteps f) {s t : State}
    (h : s.permitSafe) (ht : Machine.clocked s f = .next t) : t.permitSafe := by
  obtain rfl : (if s.pins.clkin then f s else s) = t := by injection ht
  split
  · exact hf s h
  · exact h

theorem permitSteps.arrive {take : State → State} (hf : permitSteps take) (p : Port)
    (chars : List Byte) : permitSteps fun s => s.arrive p chars take := by
  intro s h
  unfold State.arrive
  dsimp only
  (repeat' split)
  case isTrue.isTrue => exact hf _ (h.of_same (by simp) (by simp))
  all_goals exact h.of_same (by simp) (by simp)

theorem permitSteps.takeRequest {owner : State → State × Reply}
    (ho : permitSteps fun s => (owner s).1) (p : Port) (kind : Byte) (roles : List Port) (n : Nat)
    (d turned : List Byte) : permitSteps fun s => s.takeRequest p kind roles n d turned owner := by
  intro s h
  unfold State.takeRequest
  (repeat' split)
  · exact h.of_same (by simp) (by simp)
  · exact h.of_same (by simp) (by simp)
  · exact (ho s h).of_same (by simp) (by simp)

/-- What an owner does to the state. -/
def ownerSafe (owner : State → State × Reply) : Prop := permitSteps fun s => (owner s).1

theorem ownOnline_permitSafe (d : List Byte) : ownerSafe (ownOnline d) := by
  intro s h
  simp only [ownOnline]
  split
  case isTrue hst =>
    refine ⟨?_, ?_, fun ht => ?_, fun _ => ?_⟩
    · simp [State.enter_fi]
    · simp [State.enter_fi, h.record, hst, FiState.isFault]
    · simp [State.enter_fi] at ht
    · simp [State.enter_fi, FiState.still]
  case isFalse => exact h

theorem ownMachine_permitSafe (d : List Byte) : ownerSafe (ownMachine d) := by
  intro s h
  simp only [ownMachine]
  (repeat' split) <;> exact h.of_same (by simp) (by simp)

theorem ownGrade_permitSafe (d : List Byte) : ownerSafe (ownGrade d) := by
  intro s h
  simp only [ownGrade]
  split
  · exact h
  split
  · exact State.permitSafe.recomputeDemand (h.of_same (by rfl) (by rfl))
  · exact h.of_same rfl rfl

theorem ownOrigin_permitSafe (d : List Byte) : ownerSafe (ownOrigin d) := by
  intro s h
  simp only [ownOrigin]
  (repeat' split)
  · exact h
  · exact h
  · exact h.congr rfl (.inl rfl) (.inl rfl) rfl rfl

theorem ownArm_permitSafe (d : List Byte) : ownerSafe (ownArm d) := by
  intro s h
  simp only [ownArm]
  split
  · exact h
  · exact h.congr rfl (.inl rfl) (.inl rfl) rfl rfl

theorem ownJogLock_permitSafe (d : List Byte) : ownerSafe (ownJogLock d) := by
  intro s h
  simp only [ownJogLock]
  split <;> exact h.of_same rfl rfl

/-- An entry that joins changes D alone of FI (R13, R59). -/
theorem State.permitSafe.acceptReply {s : State} (h : s.permitSafe) (e : Entry) (clamped : Bool) :
    (s.acceptReply e clamped).1.permitSafe := by
  refine h.congr ?_ (.inl ?_) (.inl ?_) ?_ ?_ <;> simp only [State.acceptReply]
  case refine_4 | refine_5 => rw [State.acceptEntry_sv]
  all_goals rw [State.acceptEntry_fi]

theorem ownTraverse_permitSafe (d : List Byte) : ownerSafe (ownTraverse d) := by
  intro s h
  simp only [ownTraverse]
  (repeat' split)
  case isFalse.isFalse => exact h.acceptReply _ _
  all_goals exact h

theorem ownOpen_permitSafe (d : List Byte) : ownerSafe (ownOpen d) := by
  intro s h
  simp only [ownOpen]
  (repeat' split)
  case isFalse.isFalse.isFalse => exact h.acceptReply _ _
  all_goals exact h

theorem ownLine_permitSafe (d : List Byte) : ownerSafe (ownLine d) := by
  intro s h
  simp only [ownLine]
  (repeat' split)
  case isFalse.isFalse => exact h.acceptReply _ _
  all_goals exact h

theorem ownArc_permitSafe (d : List Byte) : ownerSafe (ownArc d) := by
  intro s h
  simp only [ownArc]
  (repeat' split)
  case isFalse.isFalse.isFalse.isFalse => exact h.acceptReply _ _
  all_goals exact h

theorem ownRun_permitSafe (d : List Byte) : ownerSafe (ownRun d) := by
  intro s h
  simp only [ownRun]
  split
  · exact h
  · exact h.congr rfl (.inl rfl) (.inl rfl) rfl rfl

theorem ownPauseAfter_permitSafe (d : List Byte) : ownerSafe (ownPauseAfter d) := by
  intro s h
  have hflags (run pause : Bool) : State.permitSafe
      { s with fi := { s.fi with runEnable := run, pauseAfter := pause } } :=
    h.congr rfl (.inl rfl) (.inl rfl) rfl rfl
  simp only [ownPauseAfter, State.pauseRun]
  split
  · exact hflags _ _
  split
  · rename_i hst
    exact (hflags false false).enter (st := .idle) (show s.fi.st.powered = true by rw [hst]; rfl)
      rfl (show false = s.fi.st.isFault by rw [hst]; rfl)
  · exact hflags false false

/-- FLUSH and RESET_CUT leave FI in IDLE, outside OFFLINE and FAULT. -/
theorem FiState.flushable_powered {st : FiState} (h : st.flushable = true) :
    st.powered = true ∧ st.isFault = false := by
  cases st <;> simp_all [FiState.flushable, FiState.powered, FiState.isFault]

theorem ownFlush_permitSafe (d : List Byte) : ownerSafe (ownFlush d) := by
  intro s h
  simp only [ownFlush]
  split
  case isTrue hst =>
    obtain ⟨hpower, hf⟩ := FiState.flushable_powered hst
    exact h.flush.enter (by rwa [State.flush_fi]) rfl (by rw [State.flush_fi]; exact hf.symm)
  case isFalse => exact h

theorem ownResetCut_permitSafe (d : List Byte) : ownerSafe (ownResetCut d) := by
  intro s h
  simp only [ownResetCut]
  split
  case isTrue => exact h
  case isFalse hst =>
    have hpower : s.fi.st.powered = true := by
      rw [FiState.powered_iff]
      refine ⟨fun ht => hst (.inl ht), fun ht => hst (.inr (by rw [ht]; rfl))⟩
    have hf : s.fi.st.isFault = false := by simpa using fun ht => hst (.inr ht)
    refine h.goesOn hpower (.enter _ rfl hf.symm) ?_
    simp

theorem ownClearFault_permitSafe (d : List Byte) : ownerSafe (ownClearFault d) := by
  intro s h
  simp only [ownClearFault]
  (repeat' split)
  · exact h
  · exact h
  · refine ⟨?_, ?_, fun ht => ?_, fun _ => ?_⟩
    · simp [State.clearFault_fi, State.clearFault_sv, Interpolator.flushed]
    · simp [State.clearFault_fi, State.clearFault_sv, Interpolator.flushed, FiState.isFault]
    · simp [State.clearFault_fi, Interpolator.flushed] at ht
    · simp [State.clearFault_fi, Interpolator.flushed]

theorem ownBladeState_permitSafe (d : List Byte) : ownerSafe (ownBladeState d) := by
  intro s h
  simp only [ownBladeState]
  split
  · exact h
  · exact h.setBlade _

theorem ownOffset_permitSafe (d : List Byte) : ownerSafe (ownOffset d) := by
  intro s h
  simp only [ownOffset]
  split <;> exact h.of_same rfl rfl

theorem ownOverride_permitSafe (d : List Byte) : ownerSafe (ownOverride d) := by
  intro s h
  simp only [ownOverride, State.setOverride]
  split
  · exact h
  · refine State.permitSafe.recomputeDemand (State.permitSafe.applyCap ?_)
    exact h.of_same rfl rfl

theorem ownJogStart_permitSafe (d : List Byte) : ownerSafe (ownJogStart d) := by
  intro s h
  have hstart (hmay : s.mayJog = true) (axis : Axis) (positive : Bool) (speed : Nat) :
      (s.startJog axis positive speed).permitSafe := by
    have hst : s.fi.st.powered = true ∧ s.fi.st.isFault = false := by
      rcases (State.mayJog_iff s).mp hmay with ⟨hst, -⟩ | ⟨r, hst⟩ <;> rw [hst] <;> exact ⟨rfl, rfl⟩
    refine h.goesOn hst.1 (.enter _ rfl hst.2.symm) ?_
    simp [State.startJog]
  simp only [ownJogStart]
  split
  · exact h
  · (repeat' split)
    case isFalse.isFalse.isFalse.isFalse hmay _ _ => exact hstart (by simpa using hmay) _ _ _
    all_goals exact h

theorem ownJogKeep_permitSafe (d : List Byte) : ownerSafe (ownJogKeep d) := by
  intro s h
  simp only [ownJogKeep]
  split <;> exact h.of_same (by simp) (by simp)

theorem ownJogEnd_permitSafe (d : List Byte) : ownerSafe (ownJogEnd d) := by
  intro s h
  simp only [ownJogEnd]
  split <;> exact h.of_same (by simp) (by simp)

/-- An owner that leaves the state as it is. -/
theorem ownerSafe.of_state {owner : State → State × Reply} (ho : ∀ s, (owner s).1 = s) :
    ownerSafe owner :=
  fun s h => (congrArg State.permitSafe (ho s)).mpr h

/-! ### The requests, taken on arrival or from the slot -/

theorem takeKind_permitSteps (p : Port) (kind : Byte) (d : List Byte) :
    permitSteps (takeKind p kind d) := by
  unfold takeKind
  split
  · exact .takeRequest (ownOnline_permitSafe d) _ _ _ _ _ _
  · exact .takeRequest (ownMachine_permitSafe d) _ _ _ _ _ _
  · exact .takeRequest (ownGrade_permitSafe d) _ _ _ _ _ _
  · exact .takeRequest (owner := ownLevels d) (fun s h => h.of_same rfl rfl) _ _ _ _ _ _
  · exact .takeRequest (ownOrigin_permitSafe d) _ _ _ _ _ _
  · exact .takeRequest (ownArm_permitSafe d) _ _ _ _ _ _
  · exact .takeRequest (owner := ownSyncTime d) (fun s h => h.of_same rfl rfl) _ _ _ _ _ _
  · exact .takeRequest (ownJogLock_permitSafe d) _ _ _ _ _ _
  · exact fun s => permitSteps.takeRequest (ownTraverse_permitSafe d) _ _ _ _ _ _ s
  · exact fun s => permitSteps.takeRequest (ownOpen_permitSafe d) _ _ _ _ _ _ s
  · exact fun s => permitSteps.takeRequest (ownLine_permitSafe d) _ _ _ _ _ _ s
  · exact fun s => permitSteps.takeRequest (ownArc_permitSafe d) _ _ _ _ _ _ s
  · exact .takeRequest (ownRun_permitSafe d) _ _ _ _ _ _
  · exact .takeRequest (ownPauseAfter_permitSafe d) _ _ _ _ _ _
  · exact .takeRequest (ownFlush_permitSafe d) _ _ _ _ _ _
  · exact .takeRequest (ownResetCut_permitSafe d) _ _ _ _ _ _
  · exact .takeRequest (ownClearFault_permitSafe d) _ _ _ _ _ _
  · exact .takeRequest (owner := ownHold p d) (fun s h => h.addHold p) _ _ _ _ _ _
  · exact .takeRequest (owner := ownRelease p d) (fun s h => h.changeHolds _) _ _ _ _ _ _
  · exact .takeRequest (ownBladeState_permitSafe d) _ _ _ _ _ _
  · exact .takeRequest (ownOffset_permitSafe d) _ _ _ _ _ _
  · exact .takeRequest (ownOverride_permitSafe d) _ _ _ _ _ _
  · exact .takeRequest (ownJogStart_permitSafe d) _ _ _ _ _ _
  · exact .takeRequest (ownJogKeep_permitSafe d) _ _ _ _ _ _
  · exact .takeRequest (ownJogEnd_permitSafe d) _ _ _ _ _ _
  · exact .takeRequest (owner := ownProgress d) (ownerSafe.of_state fun _ => rfl) _ _ _ _ _ _
  · exact .takeRequest (ownerSafe.of_state (ownStatus_state d)) _ _ _ _ _ _
  · exact .takeRequest (owner := ownStroke d) (ownerSafe.of_state fun _ => rfl) _ _ _ _ _ _
  · exact .takeRequest (ownerSafe.of_state (ownReadGrade_state d)) _ _ _ _ _ _
  · exact .takeRequest (ownerSafe.of_state (ownReadPort_state d)) _ _ _ _ _ _
  · exact .takeRequest (owner := ownSetBaud p d)
      (fun s h => h.of_same (s.onPort_fi p _) (s.onPort_sv p _)) _ _ _ _ _ _
  · exact fun s h => h.of_same (s.busy_fi p _ _) (s.busy_sv p _ _)

/-- A request command takes the telegram of its kind. -/
theorem State.permitSafe.request {s t : State} (h : s.permitSafe) {p : Port} {kind : Byte}
    {d : List Byte}
    (ht : (clocked s fun s => s.arrive p (telegram kind d) (takeKind p kind d)) = .next t) :
    t.permitSafe :=
  (permitSteps.arrive (takeKind_permitSteps p kind d) p _).clocked h ht

/-! ### The commands and the block's own step -/

/-- A reset leaves FI in OFFLINE with v 0, no contour and no record, and MPERMIT low (R76, R158). -/
theorem State.permitSafe.afterReset (s : State) (straps : Straps) (lines : Lines)
    (armed clkin : Bool) : (s.afterReset straps lines armed clkin).permitSafe where
  permit := by simp [State.afterReset, State.reset]
  record := rfl
  offline _ := rfl
  still _ := rfl

theorem exec_permitSafe (i : Instr) {s t : State} (h : s.permitSafe) (ht : exec i s = .next t) :
    t.permitSafe := by
  have hsame {f : State → State} (hfi : ∀ u, (f u).fi = u.fi) (hsv : ∀ u, (f u).sv = u.sv)
      (hc : clocked s f = .next t) : t.permitSafe :=
    permitSteps.clocked (fun u hu => hu.of_same (hfi u) (hsv u)) h hc
  cases i with
  | powerOn straps lines => cases ht; exact .afterReset ..
  | resetn straps lines => cases ht; exact .afterReset ..
  | online p d => exact h.request (kind := 0x01) ht
  | setMachine p d => exact h.request (kind := 0x02) ht
  | setGrade p d => exact h.request (kind := 0x03) ht
  | setLevels p d => exact h.request (kind := 0x04) ht
  | setOrigin p d => exact h.request (kind := 0x05) ht
  | armSupervision p d => exact h.request (kind := 0x06) ht
  | syncTime p d => exact h.request (kind := 0x07) ht
  | setJogLock p d => exact h.request (kind := 0x08) ht
  | queueTraverse p d => exact h.request (kind := 0x10) ht
  | queueOpen p d => exact h.request (kind := 0x11) ht
  | queueLine p d => exact h.request (kind := 0x12) ht
  | queueArc p d => exact h.request (kind := 0x13) ht
  | run p d => exact h.request (kind := 0x14) ht
  | pauseAfter p d => exact h.request (kind := 0x15) ht
  | flush p d => exact h.request (kind := 0x16) ht
  | resetCut p d => exact h.request (kind := 0x17) ht
  | clearFault p d => exact h.request (kind := 0x18) ht
  | hold p d => exact h.request (kind := 0x19) ht
  | release p d => exact h.request (kind := 0x1A) ht
  | bladeState p d => exact h.request (kind := 0x1B) ht
  | setBladeOffset p d => exact h.request (kind := 0x1C) ht
  | setOverride p d => exact h.request (kind := 0x1D) ht
  | jogStart p d => exact h.request (kind := 0x1E) ht
  | jogKeep p d => exact h.request (kind := 0x1F) ht
  | jogEnd p d => exact h.request (kind := 0x20) ht
  | readProgress p d => exact h.request (kind := 0x21) ht
  | readStatus p d => exact h.request (kind := 0x22) ht
  | readStroke p d => exact h.request (kind := 0x23) ht
  | readGrade p d => exact h.request (kind := 0x24) ht
  | readPort p d => exact h.request (kind := 0x25) ht
  | setBaud p d => exact h.request (kind := 0x27) ht
  | checkDiscard p chars =>
    refine permitSteps.clocked (fun u hu => ?_) h (show execCheckDiscard p chars s = _ from ht)
    split
    · exact permitSteps.arrive (fun v hv => hv.of_same (v.onPort_fi p _) (v.onPort_sv p _)) p
        chars u hu
    · exact hu
  | unknownKindTelegram p kind d =>
    refine permitSteps.clocked (fun u hu => ?_) h (show execUnknownKindTelegram p kind d s = _ from ht)
    split
    · exact hu
    · exact permitSteps.arrive (fun v hv => hv.of_same (v.busy_fi p _ _) (v.busy_sv p _ _)) p _ u hu
  | replyWrite p =>
    exact hsame (fun u => u.replyWrite_fi p) (fun u => u.replyWrite_sv p)
      (show execReplyWrite p s = _ from ht)
  | noticeBuild p =>
    exact hsame (fun u => u.noticeBuild_fi p) (fun u => u.noticeBuild_sv p)
      (show execNoticeBuild p s = _ from ht)
  | baudSwitch p =>
    exact hsame (fun u => u.onPort_fi p _) (fun u => u.onPort_sv p _)
      (show execBaudSwitch p s = _ from ht)
  | guardEnd p =>
    exact hsame (fun u => u.onPort_fi p _) (fun u => u.onPort_sv p _)
      (show execGuardEnd p s = _ from ht)
  | rxCharacter p value mark stop noise =>
    exact hsame (fun u => by split <;> simp) (fun u => by split <;> simp)
      (show execRxCharacter p value mark stop noise s = _ from ht)
  | breakFound p =>
    exact hsame (fun u => by split <;> simp) (fun u => by split <;> simp)
      (show execBreak p s = _ from ht)
  | assemblerTake p =>
    exact hsame (fun u => u.onPort_fi p _) (fun u => u.onPort_sv p _)
      (show execAssemblerTake p s = _ from ht)
  | gapExpiry p =>
    exact hsame (fun u => u.onPort_fi p _) (fun u => u.onPort_sv p _)
      (show execGapExpiry p s = _ from ht)
  | feedPeriodExpiry =>
    exact permitSteps.clocked (fun u hu => hu.feedPeriod) h (show execFeedPeriodExpiry s = _ from ht)
  | dispatch =>
    refine permitSteps.clocked (fun u hu => ?_) h (show execDispatch s = _ from ht)
    split
    case isTrue hst => exact hu.dispatchNow (by rw [hst]; rfl) (by rw [hst]; rfl)
    case isFalse => exact hu
  | openTake =>
    exact permitSteps.clocked (fun u hu => hu.openTake) h (show execOpenTake s = _ from ht)
  | starvedResume =>
    exact permitSteps.clocked (fun u hu => hu.starvedResume) h (show execStarvedResume s = _ from ht)
  | crankEdge onA onB =>
    refine permitSteps.clocked (fun u hu => ?_) h (show execCrankEdge onA onB s = _ from ht)
    split
    · exact hu.crankEdge onA onB
    · exact hu
  | crankIndex =>
    exact permitSteps.clocked (fun u hu => hu.crankIndex) h (show execCrankIndex s = _ from ht)
  | slowOverdue =>
    exact permitSteps.clocked (fun u hu => hu.slowOverdue) h (show execSlowOverdue s = _ from ht)
  | holdnFall =>
    refine permitSteps.clocked (fun u hu => ?_) h (show execHoldnFall s = _ from ht)
    split
    · exact State.permitSafe.joinHold (s := u.holdnEdge false) (hu.of_same rfl rfl) _ _
    · exact hu
  | holdnRise =>
    refine permitSteps.clocked (fun u hu => ?_) h (show execHoldnRise s = _ from ht)
    split
    · exact hu
    · exact State.permitSafe.changeHolds (s := u.holdnEdge true) (hu.of_same rfl rfl) _
  | stallTimeout =>
    exact permitSteps.clocked (fun u hu => hu.stallTimeout) h (show execStallTimeout s = _ from ht)
  | windowExpiry =>
    exact hsame (fun u => u.expireWindow_fi) (fun u => u.expireWindow_sv)
      (show execWindowExpiry s = _ from ht)
  | stopLimitExpiry =>
    exact permitSteps.clocked (fun u hu => hu.stopLimit) h (show execStopLimitExpiry s = _ from ht)
  | clockLossFound =>
    cases ht
    split
    · exact h.clockLost
    · exact h
  | clockReturn => cases ht; exact h.clockReturned
  | characterSent p =>
    exact hsame (fun u => u.onPort_fi p _) (fun u => u.onPort_sv p _)
      (show execCharacterSent p s = _ from ht)
  | startBitVerify p s3 s5 s7 =>
    exact hsame (fun u => by (repeat' split) <;> simp) (fun u => by (repeat' split) <;> simp)
      (show execStartBitVerify p s3 s5 s7 s = _ from ht)
  | lowPhaseReturn p =>
    exact hsame (fun u => by split <;> simp) (fun u => by split <;> simp)
      (show execLowPhaseReturn p s = _ from ht)
  | breakPhaseEnd p =>
    exact hsame (fun u => by split <;> simp) (fun u => by split <;> simp)
      (show execBreakPhaseEnd p s = _ from ht)
  | stepSlot axis =>
    refine permitSteps.clocked (fun u hu => ?_) h (show execStepSlot axis s = _ from ht)
    exact hu.of_same rfl rfl

theorem State.permitSafe.takeSlot {s : State} (h : s.permitSafe) (p : Port) :
    (s.takeSlot p).permitSafe := by
  have htelegram (chars : List Byte) {u : State} (hu : u.permitSafe) :
      (u.takeTelegram p chars).permitSafe := by
    unfold State.takeTelegram
    split
    · exact hu.of_same (u.onPort_fi p _) (u.onPort_sv p _)
    · exact takeKind_permitSteps p _ _ u hu
  unfold State.takeSlot
  (repeat' split)
  · exact h
  · exact htelegram _ (h.of_same (by simp) (by simp))
  · exact h

/-- A step that is due (log 2). -/
theorem Due.act_permitSafe (d : Due) {s : State} (h : s.permitSafe) (hd : d.holds s = true) :
    (d.act s).permitSafe := by
  cases d with
  | reply p => exact h.of_same (s.replyWrite_fi p) (s.replyWrite_sv p)
  | notice p => exact h.of_same (s.noticeBuild_fi p) (s.noticeBuild_sv p)
  | baud p => exact h.of_same (s.onPort_fi p _) (s.onPort_sv p _)
  | gap p => exact h.of_same (s.onPort_fi p _) (s.onPort_sv p _)
  | assemble p => exact h.of_same (s.onPort_fi p _) (s.onPort_sv p _)
  | slot p => exact h.takeSlot p
  | dispatch =>
    have hst : s.fi.st = .idle := by simp_all [Due.holds]
    exact h.dispatchNow (by rw [hst]; rfl) (by rw [hst]; rfl)
  | openTake => exact h.openTake
  | resume => exact h.starvedResume
  | stall => exact h.stallTimeout
  | stopLimit => exact h.stopLimit

/-- Whether a step is due does not hang on the choices made so far. -/
theorem Due.holds_chosen (d : Due) (s : State) : d.holds s.chosen = d.holds s := by
  cases d <;> rfl

theorem State.permitSafe.takeDue {s : State} (h : s.permitSafe) {due : List Due}
    (hdue : ∀ d ∈ due, d.holds s = true) : (s.takeDue due).permitSafe := by
  unfold State.takeDue
  split
  case h_1 => exact h
  case h_2 d => exact d.act_permitSafe h (hdue d (by simp))
  case h_3 d rest _ =>
    refine Due.act_permitSafe _ (h.of_same rfl rfl) ?_
    rw [Due.holds_chosen]
    refine hdue _ ?_
    have hlt : Config.choice s.choices % (rest.length + 1) < (d :: rest).length :=
      Nat.mod_lt _ (Nat.succ_pos _)
    rw [List.getD_eq_getElem _ _ hlt]
    exact List.getElem_mem hlt

/-- The block's own step: a monitor's period, a return of CLKIN, a step that is due, or a cycle. -/
theorem State.permitSafe.idle {s : State} (h : s.permitSafe) : s.idle.permitSafe := by
  have hmissed (n : Nat) : State.permitSafe { s with sv := { s.sv with missed := n } } :=
    h.congr rfl (.inl rfl) (.inl rfl) rfl rfl
  have hmonitor : s.monitorPeriod.permitSafe := by
    unfold State.monitorPeriod
    (repeat' split)
    · exact (hmissed _).clockLost
    · exact hmissed _
    · exact h
  unfold State.idle
  (repeat' split)
  · exact hmonitor
  · exact h.clockReturned
  · exact h.cycle
  · rename_i hdue
    refine h.takeDue fun d hd => ?_
    rw [← hdue] at hd
    exact List.of_mem_filter hd

/-- Settles O58: every operation keeps MPERMIT, the record, the contour and v tied to FI's state, and
a step is the front command's operations or the block's own. -/
theorem permitKept : Obligations.PermitKept := by
  intro s t hs h
  unfold step at h
  split at h
  · cases h
    exact hs.idle
  · rename_i rest _
    exact exec_permitSafe _ (s := { s with pending := rest }) (hs.of_same rfl rfl) h

end Sys2Proof.Machine
end

section
/-! SUPPORT. ONLINE (R76, R146), RUN and PAUSE_AFTER (R77, R85), and the commands of the hold-reason set:
HOLD and RELEASE (R120), BLADE_STATE (R111, R123) and the edges of HOLDN (R121). -/

namespace Sys2Proof.Machine

/-! ### ONLINE -/

theorem onlyNotices_online (s : State) : onlyNotices s (s.enter .idle).raisePermit :=
  (onlyNotices.refl s).enter .idle

theorem passesKept_online (s : State) : passesKept s (s.enter .idle).raisePermit :=
  (passesKept.refl s).enter .idle

theorem permitRisen_online (s : State) (p : Port) (kind : Byte) (r : Reply) :
    permitRisen s (((s.enter .idle).raisePermit).busy p kind r) := by
  refine ⟨?_, ?_⟩
  · rw [State.busy_ap, State.raisePermit_ap, State.enter_ap, State.enter_gt, State.enter_fi]
    rfl
  · rw [State.busy_handOff_ap]
    exact State.raisePermit_handOff_laid _

/-- Settles O6: in OFFLINE the entry of IDLE and the rise of MPERMIT, elsewhere the refusal. -/
theorem online : Obligations.Online := by
  intro s hs
  have hexec := exec_online (d := []) hs (by simp [jobOnly]) rfl
  refine ⟨fun hst => ?_, fun hst => ?_⟩
  · have hown : ownOnline [] s = ((s.enter .idle).raisePermit, accept []) := if_pos hst
    rw [hown] at hexec
    refine ⟨_, hexec, ?_, ?_, permitRisen_online s .., fun q => ?_,
      answered_of_onlyNotices (onlyNotices_online s) .., ?_⟩
    · rw [State.busy_fi, State.raisePermit_fi, State.enter_fi]
      rfl
    · rw [State.busy_sv, State.raisePermit_sv, State.enter_sv]
    · rw [State.busy_notices]
      exact State.enter_pendingAll s .idle (by simp [hst, FiState.code]) q
    · refine keptBut_busy (onlyNotices_online s) (passesKept_online s) (by simp) (by simp) ?_ _ _ _
      intro b hb
      cases b <;> simp_all [Block.same]
  · rw [hexec, ownOnline, if_neg hst]

/-! ### RUN and PAUSE_AFTER -/

/-- FI's two flags at given values (R77, R85). -/
def State.withFlags (s : State) (run pause : Bool) : State :=
  { s with fi := { s.fi with runEnable := run, pauseAfter := pause } }

theorem State.pauseRun_contour {s : State} (hc : s.fi.contour.isSome = true)
    (hf : s.fi.st.isFault = false) : s.pauseRun = s.withFlags s.fi.runEnable true :=
  if_pos (by simp [State.contourActive, hc, hf])

theorem State.pauseRun_clear {s : State} (h : s.fi.contour = none ∨ s.fi.st.isFault = true) :
    s.pauseRun = if s.fi.st = .priming then (s.withFlags false false).enter .idle
      else s.withFlags false false :=
  if_neg (by rcases h with h | h <;> simp [State.contourActive, h])

/-- Settles O7: RUN and PAUSE_AFTER by the contour and the state. -/
theorem runAndPause : Obligations.RunAndPause := by
  intro s hs
  have hrun := exec_run (d := []) hs (by simp [jobOnly]) rfl
  have hpause := exec_pauseAfter (d := []) hs (by simp [jobOnly]) rfl
  refine ⟨fun hst hf => ?_, fun hst => ?_, fun hc hf => ?_, fun hc hst => ?_, fun hc hst => ?_⟩
  · rw [hrun, ownRun, if_neg (by simp [hst, hf])]
    rfl
  · rw [hrun, ownRun, if_pos hst]
  · have hbyte : bitsByte [s.fi.runEnable, true] = [if s.fi.runEnable then 3 else 2] := by
      cases s.fi.runEnable <;> rfl
    rw [hpause, ownPauseAfter, State.pauseRun_contour hc hf]
    exact congrArg (fun d => Host.Outcome.next ((s.withFlags _ true).busy .job 0x15 (accept d))) hbyte
  · rw [hpause, ownPauseAfter, State.pauseRun_clear hc, if_neg hst]
    rfl
  · have hown : ownPauseAfter [] s = ((s.withFlags false false).enter .idle, accept [0]) := by
      rw [ownPauseAfter, State.pauseRun_clear (.inl hc), if_pos hst, State.enter_fi]
      rfl
    have honly : onlyNotices s ((s.withFlags false false).enter .idle) :=
      onlyNotices.enter (s := s.withFlags false false) (onlyNotices.refl s) .idle
    have hpasses : passesKept s ((s.withFlags false false).enter .idle) :=
      passesKept.enter (s := s.withFlags false false) (passesKept.refl s) .idle
    rw [hown] at hpause
    refine ⟨_, hpause, ?_, fun q => ?_, answered_of_onlyNotices honly .., ?_⟩
    · rw [State.busy_fi, State.enter_fi]
      rfl
    · rw [State.busy_notices]
      refine State.enter_pendingAll (s.withFlags false false) .idle ?_ q
      simp [State.withFlags, hst, FiState.code]
    · refine keptBut_busy honly hpasses (by simp) (by simp) ?_ _ _ _
      intro b hb
      cases b <;> simp_all [Block.same, State.withFlags]

/-! ### The set and the jog under a change -/

theorem State.changeHolds_same (s : State) : s.changeHolds s.hj.holds = s := by
  have hput : s.putHolds s.hj.holds = s := if_pos rfl
  unfold State.changeHolds
  rw [hput]
  cases s.hj.holds.any <;> rfl

/-- A running jog takes its first end cause (R135). -/
theorem State.endJog_running {s : State} {m : JogMove} (h : s.hj.phase = .running m)
    (c : EndCause) :
    s.endJog c = { s with hj := { s.hj with phase := .ending m, endCause := some c } } := by
  unfold State.endJog
  rw [h]

/-- Any other phase keeps its cause (R135). -/
theorem State.endJog_other {s : State} (h : s.hj.phase.code ≠ 1) (c : EndCause) :
    s.endJog c = s := by
  unfold State.endJog
  split
  case h_1 m hm => simp [hm, JogPhase.code] at h
  case h_2 => rfl

/-- An end cause touches the phase and the cause alone. -/
theorem State.endJog_hj_frame (s : State) (c : EndCause) :
    (s.endJog c).hj =
      { s.hj with phase := (s.endJog c).hj.phase, endCause := (s.endJog c).hj.endCause } := by
  rw [State.endJog_hj]
  split <;> rfl

theorem HoldSet.put_has (h : HoldSet) (p : Port) : h.put p (h.has p) = h := by
  cases p <;> rfl

theorem HoldSet.put_ne {h : HoldSet} {p : Port} {b : Bool} (hb : h.has p ≠ b) : h.put p b ≠ h := by
  intro he
  have hhas : (h.put p b).has p = b := by cases p <;> rfl
  exact hb (by rw [← hhas, he])

theorem HoldSet.any_put (h : HoldSet) (p : Port) : (h.put p true).any = true := by
  cases p <;> simp [HoldSet.put, HoldSet.any]

theorem HoldSet.any_of_has {h : HoldSet} {p : Port} (hp : h.has p = true) : h.any = true := by
  rw [← h.put_has p, hp, HoldSet.any_put]

/-! ### HOLD and RELEASE -/

/-- The state in which a hold leaves FI (R86). -/
def FiState.onHold : FiState → FiState
  | .traversing => .holding .traversing
  | .cutNormal => .holding .cutNormal
  | .cutCrawl => .holding .cutCrawl
  | .pivotEntry => .held .pivotEntry
  | .pivotCorner => .held .pivotCorner
  | .pivotSettle => .held .pivotSettle
  | st => st

/-- The state to which FI returns from a hold (R89). -/
def FiState.offHold : FiState → FiState
  | .holding r => r.state
  | .held r => r.state
  | st => st

/-- A hold moves FI's state, and v where it stops the motion (R86). -/
theorem heldFi_facts (f : Interpolator) :
    (heldFi f).st = f.st.onHold ∧ (f.st.onHold.still = false → (heldFi f).v = f.v) ∧
      (f.st = f.st.onHold → heldFi f = f) ∧
      heldFi f = { f with st := (heldFi f).st, v := (heldFi f).v } := by
  have hframe : heldFi f = { f with st := (heldFi f).st, v := (heldFi f).v } := by
    unfold heldFi
    split <;> rfl
  refine ⟨?_, ?_, ?_, hframe⟩ <;> unfold heldFi <;> cases hst : f.st <;>
    simp [hst, FiState.onHold, FiState.still]

/-- A resume state is none of the states of a hold. -/
theorem Resume.state_ne_hold (r r' : Resume) : r.state ≠ .holding r' ∧ r.state ≠ .held r' := by
  cases r <;> simp [Resume.state]

/-- A release moves FI's state, with v as it stands out of HOLDING and 0 out of HELD (R89). -/
theorem resumedFi_facts (f : Interpolator) :
    (resumedFi f).st = f.st.offHold ∧
      resumedFi f = { f with st := (resumedFi f).st, v := (resumedFi f).v } ∧
      (∀ r, f.st = .holding r → f.st.offHold.still = false → (resumedFi f).v = f.v) ∧
      (∀ r, f.st = .held r → (resumedFi f).v = 0) ∧ (f.st = f.st.offHold → resumedFi f = f) := by
  unfold resumedFi
  cases hst : f.st with
  | holding r =>
    refine ⟨rfl, rfl, fun _ _ h => ?_, fun _ h => by simp at h, fun h => ?_⟩
    · exact if_neg (ne_true_of_eq_false h)
    · exact absurd h.symm (r.state_ne_hold r).1
  | held r =>
    refine ⟨rfl, rfl, fun _ h => by simp at h, fun _ _ => rfl, fun h => ?_⟩
    exact absurd h.symm (r.state_ne_hold r).2
  | _ => exact ⟨hst, rfl, fun _ h => by simp at h, fun _ h => by simp at h, fun _ => rfl⟩

theorem reactedFi_same {before after : HoldSet} (h : before.any = after.any) (f : Interpolator) :
    reactedFi before after f = f := if_pos h

theorem reactedFi_held {before after : HoldSet} (hb : before.any = false) (ha : after.any = true)
    (f : Interpolator) : reactedFi before after f = heldFi f := by
  simp [reactedFi, hb, ha]

theorem reactedFi_resumed {before after : HoldSet} (hb : before.any = true)
    (ha : after.any = false) (f : Interpolator) : reactedFi before after f = resumedFi f := by
  simp [reactedFi, hb, ha]

/-- JOB and BLADE end a running jog as they join, PANEL does not (R120, R135). -/
theorem State.addHold_absent {s : State} {p : Port} (h : s.hj.holds.has p = false) :
    s.addHold p = if p = .panel then s.changeHolds (s.hj.holds.put p true)
      else (s.changeHolds (s.hj.holds.put p true)).endJog .hold := by
  cases p
  case job => exact if_neg (ne_true_of_eq_false h)
  case blade => exact if_neg (ne_true_of_eq_false h)
  case panel => rfl

theorem State.addHold_present {s : State} {p : Port} (h : s.hj.holds.has p = true) :
    s.addHold p = s := by
  cases p
  case job => exact if_pos h
  case blade => exact if_pos h
  case panel =>
    have hput : s.hj.holds.put .panel true = s.hj.holds := by
      rw [← h]
      exact s.hj.holds.put_has .panel
    rw [State.addHold, hput, State.changeHolds_same]

theorem passesKept.joinHold {r s : State} (h : passesKept r s) (b : Bool) (x : HoldSet) :
    passesKept r (s.joinHold b x) := by
  unfold State.joinHold
  split
  · exact h
  · exact (h.changeHolds x).endJog .hold

theorem onlyNotices_addHold (s : State) (p : Port) : onlyNotices s (s.addHold p) := by
  cases p
  case panel => exact (onlyNotices.refl s).changeHolds _
  all_goals exact (onlyNotices.refl s).joinHold _ _

theorem passesKept_addHold (s : State) (p : Port) : passesKept s (s.addHold p) := by
  cases p
  case panel => exact (passesKept.refl s).changeHolds _
  all_goals exact (passesKept.refl s).joinHold _ _

/-- A change of the set leaves every block but FI and HJ. -/
theorem Block.same_changeHolds {b : Block} (s : State) (h : HoldSet)
    (hb : b ∉ [Block.fi, .hj, .ports, .notices]) : b.same s (s.changeHolds h) := by
  cases b <;> simp_all [Block.same]

/-- A jog's end and a change of the set leave every block but FI and HJ. -/
theorem Block.same_addHold {b : Block} (s : State) (p : Port)
    (hb : b ∉ [Block.fi, .hj, .ports, .notices]) : b.same s (s.addHold p) := by
  cases p <;> cases b <;> simp_all [Block.same, State.addHold]

/-- What the joining of an absent reason leaves of HJ and FI. -/
theorem State.addHold_facts {s : State} {p : Port} (h : s.hj.holds.has p = false) :
    (s.addHold p).fi = reactedFi s.hj.holds (s.hj.holds.put p true) s.fi ∧
      (s.addHold p).hj = { s.hj with
        holds := s.hj.holds.put p true
        phase := (s.addHold p).hj.phase, endCause := (s.addHold p).hj.endCause } ∧
      pendingAll (s.addHold p) .state := by
  have hpending := s.changeHolds_pendingAll (s.hj.holds.put p true) (HoldSet.put_ne (by simp [h]))
  rw [State.addHold_absent h]
  split
  · exact ⟨s.changeHolds_fi_reacted _, by rw [State.changeHolds_hj], hpending⟩
  · refine ⟨?_, ?_, fun q => (onlyNotices.refl _).endJog .hold |>.2.2 q _ (hpending q)⟩
    · rw [State.endJog_fi, State.changeHolds_fi_reacted]
    · rw [State.endJog_hj_frame, State.changeHolds_hj]

/-- The joining of JOB or BLADE ends a running jog; PANEL, or a jog not running, changes none
(R135). -/
theorem State.addHold_jog {s : State} {p : Port} (h : s.hj.holds.has p = false) :
    (∀ m, s.hj.phase = .running m → p ≠ .panel →
      (s.addHold p).hj.phase = .ending m ∧ (s.addHold p).hj.endCause = some .hold) ∧
    (p = .panel ∨ s.hj.phase.code ≠ 1 →
      (s.addHold p).hj.phase = s.hj.phase ∧ (s.addHold p).hj.endCause = s.hj.endCause) := by
  have hhj := s.changeHolds_hj (s.hj.holds.put p true)
  rw [State.addHold_absent h]
  refine ⟨fun m hm hp => ?_, fun hq => ?_⟩
  · rw [if_neg hp, State.endJog_running (m := m) (by rw [hhj]; exact hm)]
    exact ⟨rfl, rfl⟩
  · split
    · rw [hhj]
      exact ⟨rfl, rfl⟩
    · rename_i hp
      have hcode := hq.resolve_left hp
      rw [State.endJog_other (by rw [hhj]; exact hcode), hhj]
      exact ⟨rfl, rfl⟩

/-- Settles O20: an absent reason joins, a present one leaves, and FI reacts to the set's becoming
non-empty or empty. -/
theorem holdRelease : Obligations.HoldRelease := by
  intro s p hs joined left held resumed
  have hhold := exec_hold (d := []) hs (by cases p <;> simp [anyPort]) rfl
  have hrelease := exec_release (d := []) hs (by cases p <;> simp [anyPort]) rfl
  obtain ⟨hheldSt, hheldV, hheldSame, hheldFrame⟩ := heldFi_facts s.fi
  obtain ⟨hresSt, hresFrame, hresV, hresZero, hresSame⟩ := resumedFi_facts s.fi
  refine ⟨fun hp => ?_, fun hp => ?_, fun hp => ?_, fun hp => ?_⟩
  · rw [hhold, ownHold, State.addHold_present hp]
  · obtain ⟨hfi, hhj, hpending⟩ := State.addHold_facts hp
    obtain ⟨hends, hkeeps⟩ := State.addHold_jog hp
    have hholds : (s.addHold p).hj.holds = joined := by rw [hhj]
    have hany : joined.any = true := HoldSet.any_put _ _
    rw [ownHold, hholds] at hhold
    refine ⟨_, hhold, ?_, fun q => ?_, fun hb => ?_, fun hb => ?_, ?_, fun m hm hpanel => ?_,
      fun hq => ?_, answered_of_onlyNotices (onlyNotices_addHold s p) .., ?_⟩
    · rw [State.busy_hj, hholds]
    · rw [State.busy_notices]
      exact hpending q
    · rw [State.busy_fi, hfi, reactedFi_same (hb.trans hany.symm)]
    · rw [State.busy_fi, hfi, reactedFi_held hb hany]
      exact ⟨hheldSt, hheldV, hheldSame, hheldFrame⟩
    · rw [State.busy_hj]
      exact hhj
    · rw [State.busy_hj]
      exact hends m hm hpanel
    · rw [State.busy_hj]
      exact hkeeps hq
    · exact keptBut_busy (onlyNotices_addHold s p) (passesKept_addHold s p) (by simp) (by simp)
        (fun b hb => Block.same_addHold s p hb) _ _ _
  · have hput : s.hj.holds.put p false = s.hj.holds := by
      rw [← hp]
      exact s.hj.holds.put_has p
    rw [hrelease, ownRelease, hput, State.changeHolds_same, hp]
    rfl
  · have hhj := s.changeHolds_hj left
    have hfi := s.changeHolds_fi_reacted left
    have hany : s.hj.holds.any = true := HoldSet.any_of_has hp
    have honly : onlyNotices s (s.changeHolds left) := (onlyNotices.refl s).changeHolds _
    rw [ownRelease, hp, hhj] at hrelease
    refine ⟨_, hrelease, ?_, fun q => ?_, fun hb => ?_, fun hb => ?_,
      answered_of_onlyNotices honly .., ?_⟩
    · rw [State.busy_hj, hhj]
    · rw [State.busy_notices]
      exact s.changeHolds_pendingAll left (HoldSet.put_ne (by simp [hp])) q
    · rw [State.busy_fi, hfi, reactedFi_same (hany.trans hb.symm)]
    · rw [State.busy_fi, hfi, reactedFi_resumed hany hb]
      exact ⟨hresSt, hresFrame, hresV, hresZero, hresSame⟩
    · exact keptBut_busy honly ((passesKept.refl s).changeHolds _) (by simp) (by simp)
        (fun b hb => Block.same_changeHolds s left hb) _ _ _

/-! ### BLADE_STATE -/

/-- SD with a changed blade state (R111, R112). -/
def State.bladed (s : State) (running : Bool) : State :=
  { s with sd := { s.sd with
      running := running
      stallTimer := if running && s.contourActive then 0 else s.sd.stallTimer } }

/-- The set after a changed blade state (R123). -/
def State.bladeHolds (s : State) (running : Bool) : HoldSet :=
  { s.hj.holds with
    driveOff := if running then false else s.fi.contour.isSome || s.hj.holds.driveOff }

theorem State.setBlade_eq {s : State} {running : Bool} (h : running ≠ s.sd.running) :
    s.setBlade running = (s.bladed running).changeHolds (s.bladeHolds running) := by
  have hset : s.setBlade running = if running then
      (s.bladed running).changeHolds { s.hj.holds with driveOff := false }
    else if s.contourActive then (s.bladed running).changeHolds { s.hj.holds with driveOff := true }
    else s.bladed running := if_neg h
  rw [hset, State.bladeHolds]
  cases running with
  | true => rfl
  | false =>
    cases hc : s.fi.contour with
    | some c => simp [State.contourActive, hc]
    | none =>
      simp only [State.contourActive, hc, Option.isSome_none, Bool.false_eq_true, if_false]
      exact (s.bladed false).changeHolds_same.symm

/-- Settles O21: a changed blade state reaches SD, and DRIVE_OFF as any change of the set. -/
theorem bladeState : Obligations.BladeState := by
  intro s b hs
  have hexec := exec_bladeState (d := [b]) hs (by simp) rfl
  have hfield : field [b] 0 1 = b.toNat := field_byte b []
  have hone : (b.toNat = 1) = (b = 1) := by
    rw [← BitVec.toNat_inj]
    rfl
  have hown (hb : b.toNat ≤ 1) : ownBladeState [b] s = (s.setBlade (decide (b = 1)), accept [b]) := by
    have hbyte : boolByte (decide (b = 1)) = [b] := by
      obtain rfl | rfl : b = 0 ∨ b = 1 := by bv_omega
      · rfl
      · rfl
    simp only [ownBladeState, hfield, if_neg (Nat.not_lt.mpr hb), hone, hbyte]
  refine ⟨fun hb => ?_, fun hb hsame => ?_, fun hb hne => ?_⟩
  · rw [hexec, ownBladeState, hfield, if_pos hb]
  · have hset : s.setBlade (decide (b = 1)) = s := if_pos hsame.symm
    rw [hexec, hown hb, hset]
  · rw [hown hb, State.setBlade_eq (Ne.symm hne)] at hexec
    have hhj := (s.bladed (decide (b = 1))).changeHolds_hj (s.bladeHolds (decide (b = 1)))
    have honly : onlyNotices s
        ((s.bladed (decide (b = 1))).changeHolds (s.bladeHolds (decide (b = 1)))) :=
      onlyNotices.changeHolds (s := s.bladed _) (onlyNotices.refl s) _
    have hpasses : passesKept s
        ((s.bladed (decide (b = 1))).changeHolds (s.bladeHolds (decide (b = 1)))) :=
      passesKept.changeHolds (s := s.bladed _) (passesKept.refl s) _
    refine ⟨_, hexec, ?_, ?_, ?_, fun hc q => ?_, fun hc q => ?_, answered_of_onlyNotices honly ..,
      ?_⟩
    · simp [State.bladed, State.contourActive]
    · rw [State.busy_hj, hhj]
      simp [State.bladed, State.bladeHolds]
    · rw [State.busy_fi, State.busy_hj, hhj, State.changeHolds_fi_reacted]
      rfl
    · rw [State.busy_hj, hhj] at hc
      rw [State.busy_notices]
      exact (s.bladed _).changeHolds_pendingAll (s.bladeHolds _) hc q
    · rw [State.busy_hj, hhj] at hc
      have hc : s.bladeHolds (decide (b = 1)) = (s.bladed (decide (b = 1))).hj.holds := hc
      rw [State.busy_notices, hc, State.changeHolds_same]
      cases q <;> rfl
    · refine keptBut_busy honly hpasses (by simp) (by simp) ?_ _ _ _
      intro b hb
      cases b <;> simp_all [Block.same, State.bladed]

/-! ### HOLDN -/

/-- The filtered edge of HOLDN is one of SD and the pin alone. -/
theorem Block.same_holdnEdge {b : Block} {s t : State} {level : Bool}
    (h : b.same (s.holdnEdge level) t) (hb : b ∉ [Block.pins, .sd]) : b.same s t := by
  cases b
  case pins | sd => simp at hb
  case ports => exact fun q => (h q).trans (by cases q <;> rfl)
  case notices => exact fun q => by cases q <;> exact h _
  all_goals exact h

theorem State.lineFalls_present {s : State} (h : s.hj.holds.line = true) :
    s.lineFalls = s.holdnEdge false := if_pos h

theorem State.lineFalls_absent {s : State} (h : s.hj.holds.line = false) :
    s.lineFalls = ((s.holdnEdge false).changeHolds { s.hj.holds with line := true }).endJog .hold :=
  if_neg (ne_true_of_eq_false h)

/-- What a fall of HOLDN leaves of HJ and FI, with LINE in the set or not (R86, R121, R135). -/
theorem State.lineFalls_facts (s : State) :
    s.lineFalls.fi = reactedFi s.hj.holds { s.hj.holds with line := true } s.fi ∧
      s.lineFalls.hj = { s.hj with
        holds := { s.hj.holds with line := true }
        phase := s.lineFalls.hj.phase, endCause := s.lineFalls.hj.endCause } ∧
      (s.hj.holds.line = false → pendingAll s.lineFalls .state) := by
  cases hline : s.hj.holds.line with
  | true =>
    have hholds : { s.hj.holds with line := true } = s.hj.holds := by rw [← hline]
    rw [State.lineFalls_present hline, hholds, reactedFi_same rfl]
    exact ⟨rfl, rfl, fun h => by simp at h⟩
  | false =>
    have hne : { s.hj.holds with line := true } ≠ s.hj.holds := fun h =>
      absurd (congrArg HoldSet.line h) (by simp [hline])
    have hpending := (s.holdnEdge false).changeHolds_pendingAll { s.hj.holds with line := true } hne
    rw [State.lineFalls_absent hline]
    refine ⟨?_, ?_, fun _ q => (onlyNotices.refl _).endJog .hold |>.2.2 q _ (hpending q)⟩
    · rw [State.endJog_fi, State.changeHolds_fi_reacted]
      rfl
    · rw [State.endJog_hj_frame, State.changeHolds_hj]
      rfl

/-- LINE's joining ends a running jog; LINE in the set already, or a jog not running, changes none
(R135). -/
theorem State.lineFalls_jog (s : State) :
    (∀ m, s.hj.holds.line = false → s.hj.phase = .running m →
      s.lineFalls.hj.phase = .ending m ∧ s.lineFalls.hj.endCause = some .hold) ∧
    (s.hj.holds.line = true ∨ s.hj.phase.code ≠ 1 →
      s.lineFalls.hj.phase = s.hj.phase ∧ s.lineFalls.hj.endCause = s.hj.endCause) := by
  have hhj := (s.holdnEdge false).changeHolds_hj { s.hj.holds with line := true }
  refine ⟨fun m hline hm => ?_, fun hq => ?_⟩
  · rw [State.lineFalls_absent hline, State.endJog_running (m := m) (by rw [hhj]; exact hm)]
    exact ⟨rfl, rfl⟩
  · cases hline : s.hj.holds.line with
    | true =>
      rw [State.lineFalls_present hline]
      exact ⟨rfl, rfl⟩
    | false =>
      have hcode : s.hj.phase.code ≠ 1 := hq.resolve_left (by simp [hline])
      rw [State.lineFalls_absent hline, State.endJog_other (by rw [hhj]; exact hcode), hhj]
      exact ⟨rfl, rfl⟩

theorem keptBut_lineFalls (s : State) :
    keptBut [.pins, .sd, .fi, .hj, .notices] s s.lineFalls := by
  have hedge : onlyNotices s (s.holdnEdge false) := onlyNotices.refl s
  have hpasses : passesKept s (s.holdnEdge false) := passesKept.refl s
  refine keptBut_of_onlyNotices (hedge.joinHold _ _) (hpasses.joinHold _ _) fun b hb hports => ?_
  refine Block.same_holdnEdge (level := false) ?_ (by simp_all)
  cases b <;> simp_all [Block.same, State.lineFalls]

theorem keptBut_lineRises (s : State) :
    keptBut [.pins, .sd, .fi, .hj, .notices] s s.lineRises := by
  have hedge : onlyNotices s (s.holdnEdge true) := onlyNotices.refl s
  have hpasses : passesKept s (s.holdnEdge true) := passesKept.refl s
  refine keptBut_of_onlyNotices (hedge.changeHolds _) (hpasses.changeHolds _) fun b hb hports => ?_
  exact Block.same_holdnEdge (Block.same_changeHolds _ _ (by simp_all)) (by simp_all)

/-- Settles O23: a fall joins LINE, a rise takes it from the set, and FI reacts as to any reason. -/
theorem holdnEdges : Obligations.HoldnEdges := by
  intro s hclk
  have hfall : exec .holdnFall s = .next (if s.sd.holdn.filtered then s.lineFalls else s) :=
    clocked_run s _ hclk
  have hrise : exec .holdnRise s = .next (if s.sd.holdn.filtered then s else s.lineRises) :=
    clocked_run s (fun s => if s.sd.holdn.filtered then s else s.lineRises) hclk
  refine ⟨fun hf => ?_, fun hf => ?_, fun hf => ?_, fun hf => ?_⟩
  · obtain ⟨hfi, hhj, hpending⟩ := s.lineFalls_facts
    obtain ⟨hends, hkeeps⟩ := s.lineFalls_jog
    have hholds : s.lineFalls.hj.holds = { s.hj.holds with line := true } := by rw [hhj]
    rw [if_pos hf] at hfall
    refine ⟨_, hfall, hholds, State.joinHold_sd .., State.joinHold_pins .., ?_, hpending, hends, hkeeps,
      ?_, ?_, ?_, keptBut_lineFalls s⟩
    · rw [hfi, hholds]
    · rw [hhj]
    · rw [hhj]
    · rw [hhj]
  · have hhj := (s.holdnEdge true).changeHolds_hj { s.hj.holds with line := false }
    rw [if_neg (ne_true_of_eq_false hf)] at hrise
    refine ⟨_, hrise, hhj, State.changeHolds_sd .., State.changeHolds_pins .., ?_, fun hline => ?_,
      keptBut_lineRises s⟩
    · rw [State.lineRises, State.changeHolds_fi_reacted, hhj]
      rfl
    · refine (s.holdnEdge true).changeHolds_pendingAll _ fun h => ?_
      exact absurd (congrArg HoldSet.line h) (by simp [State.holdnEdge, hline])
  · rw [hfall, if_neg (ne_true_of_eq_false hf)]
  · rw [hrise, if_pos hf]

end Sys2Proof.Machine
end

section
/-! SUPPORT. STARVED_RESUME (R83): the take of the head cut entry and the state its junction gives. -/

namespace Sys2Proof.Machine

/-! ### The take of a cut entry under its bite (R70, R80, R83) -/

/-- The head entry taken with the lesser of the budget and its bite, and a state entered. -/
def State.takeCut (s : State) (e : Entry) (st : FiState) : State :=
  ((s.takeEntry e).limitBudget e).enter st

/-- FI once `e` has left the head, with D from what is then queued (R15, R58). -/
theorem State.takeEntry_fi_demandOf (s : State) (e : Entry) : (s.takeEntry e).fi = { s.fi with
    active := some e, done := 0, heading := e.entryHeading.getD s.fi.heading
    demand := s.demandOf s.fi.contour s.cq.entries.tail } := by
  rw [← State.takeEntry_demand s e, State.takeEntry_fi]

theorem State.takeEntry_limitBudget_fi {s : State} {e : Entry} {c : Contour}
    (hc : s.fi.contour = some c) : ((s.takeEntry e).limitBudget e).fi = { s.fi with
      active := some e, done := 0, heading := e.entryHeading.getD s.fi.heading
      budget := min s.fi.budget (biteOf c.grade e)
      demand := s.demandOf s.fi.contour s.cq.entries.tail } := by
  simp [State.limitBudget, State.bite, State.takeEntry_fi_demandOf, hc]

theorem State.takeCut_cq {s : State} {e : Entry} {rest : List Entry} (hq : s.cq.entries = e :: rest)
    (st : FiState) : (s.takeCut e st).cq = { s.cq with entries := rest } := by
  simp [State.takeCut, State.takeEntry_cq, hq]

theorem onlyNotices_takeCut (s : State) (e : Entry) (st : FiState) :
    onlyNotices (s.takeEntry e) (s.takeCut e st) :=
  onlyNotices.enter (s := (s.takeEntry e).limitBudget e) (onlyNotices.refl _) st

theorem passesKept_takeCut (s : State) (e : Entry) (st : FiState) :
    passesKept s (s.takeCut e st) :=
  passesKept.enter (s := (s.takeEntry e).limitBudget e) ((passesKept.refl s).takeEntry e) st

theorem demandNoticed_takeCut (s : State) (e : Entry) (st : FiState) :
    demandNoticed s (s.takeCut e st) :=
  (demandNoticed_takeEntry s e).mono (onlyNotices_takeCut s e st)
    (by simp [State.takeCut, State.enter_fi, State.limitBudget])

theorem refillNoticed_takeCut (s : State) (e : Entry) (st : FiState) :
    refillNoticed s (s.takeCut e st) :=
  (refillNoticed_takeEntry s e).mono (onlyNotices_takeCut s e st) (by simp [State.takeCut])

theorem pendingAll_takeCut (s : State) (e : Entry) {st : FiState} (h : st.code ≠ s.fi.st.code) :
    pendingAll (s.takeCut e st) .state :=
  State.enter_pendingAll _ _ (by simpa [State.limitBudget, State.takeEntry_fi] using h)

theorem keptBut_takeCut (s : State) (e : Entry) (st : FiState) :
    keptBut [.cq, .fi, .notices] s (s.takeCut e st) := by
  have honly : onlyNotices s (s.takeCut e st) :=
    onlyNotices.enter (s := (s.takeEntry e).limitBudget e) ((onlyNotices.refl s).takeEntry e) st
  refine keptBut_of_onlyNotices honly (passesKept_takeCut s e st) fun b hb _ => ?_
  cases b <;> simp_all [Block.same, State.takeCut]

/-! ### STARVED_RESUME -/

/-- Every junction class leads out of STARVED (R83). -/
theorem State.resumeClass_code (s : State) (c : Contour) (e : Entry) :
    (s.resumeClass c e).code ≠ FiState.starved.code := by
  unfold State.resumeClass
  (repeat' split) <;> decide

theorem State.resumeClass_smooth {s : State} {c : Contour} {e : Entry}
    (h : classify c.grade e.junction = .smooth) : s.resumeClass c e =
      if s.fi.h = (s.fi.heading + c.offset) % 36000 then .cutNormal else .cutCrawl := by
  rw [State.resumeClass, h, Contour.target_eq]

/-- With v at 0 the resumed state takes it as it stands. -/
theorem State.takeCut_fi_still {s : State} {e : Entry} {rest : List Entry} {c : Contour}
    (hc : s.fi.contour = some c) (hq : s.cq.entries = e :: rest) (hv : s.fi.v = 0) (st : FiState) :
    (s.takeCut e st).fi = { s.fi with
      st := st, active := some e, done := 0, heading := e.entryHeading.getD s.fi.heading
      budget := min s.fi.budget (biteOf c.grade e), demand := s.demandOf s.fi.contour rest } := by
  rw [State.takeCut, State.enter_fi, State.takeEntry_limitBudget_fi hc, hq, hv, ite_self, ← hv]
  rfl

theorem State.starvedResume_eq {s : State} {c : Contour} {e : Entry} {rest : List Entry}
    (hc : s.fi.contour = some c) (hq : s.cq.entries = e :: rest) : s.starvedResume =
      if decide (s.fi.st = .starved) && s.cq.primed && !s.hj.holds.any && e.isCut then
        s.takeCut e (s.resumeClass c e)
      else s := by
  rw [State.starvedResume, hc, hq]
  rfl

/-- Settles O41: under the two conditions the head is taken and its class gives the state; otherwise
the state stays. -/
theorem starvedResume : Obligations.StarvedResume := by
  intro s c e rest heading hclk hc hq hcut hheading hv primed
  have hexec : exec .starvedResume s = .next s.starvedResume := clocked_run s _ hclk
  rw [hexec, State.starvedResume_eq hc hq]
  refine ⟨fun hst hprimed hholds => ?_, fun hmissing => ?_⟩
  · have hready : (decide (s.fi.st = .starved) && s.cq.primed && !s.hj.holds.any && e.isCut) = true := by
      simp [hst, s.cq.primed_iff.mpr hprimed, hholds, hcut]
    have hfi := State.takeCut_fi_still hc hq hv (s.resumeClass c e)
    rw [hheading] at hfi
    have hst' : (s.takeCut e (s.resumeClass c e)).fi.st = s.resumeClass c e := by rw [hfi]
    rw [if_pos hready]
    refine ⟨_, rfl, ?_, fun hclass => ?_, fun hclass => ?_, fun hclass => ?_,
      State.takeCut_cq hq _, pendingAll_takeCut s e ?_, demandNoticed_takeCut s e _,
      refillNoticed_takeCut s e _, keptBut_takeCut s e _⟩
    · rw [hst']
      exact hfi
    · rw [hst', State.resumeClass, hclass]
    · rw [hst', State.resumeClass, hclass]
    · rw [hst', State.resumeClass_smooth hclass]
    · rw [hst]
      exact s.resumeClass_code c e
  · rw [if_neg]
    simp only [Bool.and_eq_true, decide_eq_true_eq, Bool.not_eq_true', ContourQueue.primed_iff]
    rintro ⟨⟨⟨hst, hprimed⟩, hholds⟩, -⟩
    rcases hmissing with h | h | h
    · exact h hst
    · exact h hprimed
    · simp [hholds] at h

end Sys2Proof.Machine
end

section
/-! SUPPORT. The report of a fault (R93, R94, R152 to R155), the slip of an index (R108), the blade's
monitors (R112 to R114), and the loss and return of the clock (R149, R161 to R163). -/

namespace Sys2Proof.Machine

/-! ### The end of the quick stop, seen from an earlier state -/

theorem onlyNotices_endStop_enter (u : State) : onlyNotices (u.enter .stopped) u.endStop := by
  unfold State.endStop
  refine onlyNotices.flush ?_
  exact (onlyNotices.refl _).lowerPermit

theorem stateNoticed.endStop {s u : State} (h : stateNoticed s u) : stateNoticed s u.endStop :=
  (h.enter .stopped).mono (onlyNotices_endStop_enter u) (by simp [State.endStop_fi, State.enter_fi])

/-- The end of the quick stop meets only what the two states share: FI but for its state and v, and the
blocks that the end touches. -/
theorem stoppedFrom.of_same {u w t : State} (h : stoppedFrom w t)
    (hfi : w.fi = { u.fi with st := w.fi.st, v := w.fi.v }) (hcq : w.cq = u.cq) (hsd : w.sd = u.sd)
    (hhj : w.hj = u.hj) (hsv : { w.sv with permit := false } = { u.sv with permit := false })
    (hap : w.ap.fallen w.sv.permit = u.ap.fallen u.sv.permit) (hst : stateNoticed u t) :
    stoppedFrom u t := by
  obtain ⟨hf, hq, hd, hj, hv, ha, -, hdemand, hholds⟩ := h
  have hcontour : w.fi.contour = u.fi.contour := by rw [hfi]
  rw [Decoder.released, hcontour, hsd] at hd
  rw [HoldSet.released, hcontour, hhj] at hj
  rw [demandNoticed, hfi] at hdemand
  rw [holdsNoticed, hhj] at hholds
  rw [hfi] at hf
  rw [hcq, hfi] at hq
  exact ⟨hf, hq, hd, hj, hv.trans hsv, ha.trans hap, hst, hdemand, hholds⟩

/-! ### The first fault and a further one (R93, R152 to R155) -/

theorem FiState.stopMode_eq (st : FiState) : st.stopMode = modeAt st := by
  unfold FiState.stopMode modeAt
  (repeat' split) <;> simp_all

theorem State.endJog_fault_hj (s : State) : (s.endJog .fault).hj = s.hj.faulted := by
  refine (s.endJog_hj .fault).trans ?_
  unfold HoldsJog.faulted
  cases s.hj.phase <;> rfl

/-- A jog of H in progress (R93). -/
theorem JogPhase.turnsH_iff (p : JogPhase) :
    p.turnsH = true ↔ ∃ m, m.axis = .h ∧ (p = .running m ∨ p = .ending m) := by
  cases p <;> simp [JogPhase.turnsH, JogPhase.move]

/-- FI in FAULT STOPPING with v at a value, on the state in which the fault found it. -/
def State.stopBegun (s : State) (v : Nat) : State :=
  let s1 := (s.endJog .fault).enter (.stopping s.fi.st.stopMode)
  { s1 with fi := { s1.fi with v := v } }

theorem State.stopBegun_fi (s : State) (v : Nat) :
    (s.stopBegun v).fi = { s.fi with st := .stopping (modeAt s.fi.st), v := v } := by
  simp [State.stopBegun, State.enter_fi, FiState.stopMode_eq]

theorem State.stopBegun_hj (s : State) (v : Nat) : (s.stopBegun v).hj = s.hj.faulted := by
  simp [State.stopBegun, State.endJog_fault_hj]

theorem onlyNotices_stopBegun (s : State) (v : Nat) : onlyNotices s (s.stopBegun v) :=
  ((onlyNotices.refl s).endJog .fault).enter _

theorem stateNoticed_stopBegun (s : State) (v : Nat) : stateNoticed s (s.stopBegun v) :=
  stateNoticed_enter (u := s.endJog .fault) (by simp) _

/-- The quick stop begins with v as it stands, or ends at once (R93). -/
theorem State.beginStop_cases (s : State) :
    (s.beginStop = s.stopBegun s.fi.v ∧ s.fi.v ≠ 0 ∧
      ¬(s.hj.phase.turnsH = true ∧ s.fi.st = .jog)) ∨
    (s.beginStop = (s.stopBegun 0).endStop ∧
      (s.fi.v = 0 ∨ s.hj.phase.turnsH = true ∧ s.fi.st = .jog)) := by
  rw [State.beginStop_eq]
  by_cases hturn : s.hj.phase.turnsH = true ∧ s.fi.st = .jog
  · refine .inr ⟨?_, .inr hturn⟩
    simp only [if_pos hturn, if_true]
    rfl
  · simp only [if_neg hturn]
    by_cases hv : s.fi.v = 0
    · exact .inr ⟨by simp only [hv, if_true]; rfl, .inl hv⟩
    · exact .inl ⟨if_neg hv, hv, hturn⟩

theorem passesKept.beginStop {r s : State} (h : passesKept r s) : passesKept r s.beginStop := by
  have hbegun (v : Nat) : passesKept r (s.stopBegun v) := passesKept.enter (h.endJog .fault) _
  rcases s.beginStop_cases with ⟨heq, -⟩ | ⟨heq, -⟩ <;> rw [heq]
  · exact hbegun _
  · exact (hbegun 0).endStop

theorem passesKept.recordFault {r s : State} (h : passesKept r s) (c : Cause) :
    passesKept r (s.recordFault c) := by
  unfold State.recordFault
  refine passesKept.raiseAll ?_ _
  exact h

theorem passesKept.reportFault {r s : State} (h : passesKept r s) (c : Cause) :
    passesKept r (s.reportFault c) := by
  unfold State.reportFault
  split
  · exact (h.recordFault c).beginStop
  · exact h

/-- A frame that lets the pins go, where they are the same. -/
theorem keptBut.of_pins {touched : List Block} {s t : State} (h : keptBut (.pins :: touched) s t)
    (hp : t.pins = s.pins) : keptBut touched s t := by
  refine ⟨fun b hb => ?_, h.2⟩
  by_cases hpins : b = .pins
  · subst hpins
    exact hp
  · exact h.1 b (by simp [hpins, hb])

/-- A state with the pins and the decoder at given values. -/
def State.sensed (s : State) (p : Pins) (d : Decoder) : State := { s with pins := p, sd := d }

section Report

variable (s : State) (p : Pins) (d : Decoder) (c : Cause)

theorem onlyNotices_report : onlyNotices s ((s.sensed p d).reportFault c) :=
  onlyNotices.reportFault (s := s.sensed p d) (onlyNotices.refl s) c

theorem passesKept_report : passesKept s ((s.sensed p d).reportFault c) :=
  passesKept.reportFault (s := s.sensed p d) (passesKept.refl s) c

/-- The record is filled from the state as it stands, and FI is in the quick stop or at its end. -/
theorem firstFault_report (hr : s.sv.record = none) :
    firstFault s ((s.sensed p d).reportFault c) d c := by
  set w := (s.sensed p d).recordFault c with hw
  have hreport : (s.sensed p d).reportFault c = w.beginStop := State.reportFault_first _ c hr
  have hwfi : w.fi = s.fi := by simp [hw, State.recordFault, State.sensed]
  have hwhj : w.hj = s.hj := by simp [hw, State.recordFault, State.sensed]
  have hwcq : w.cq = s.cq := by simp [hw, State.recordFault, State.sensed]
  have hwsd : w.sd = d := by simp [hw, State.recordFault, State.sensed]
  have hwap : w.ap = s.ap := by simp [hw, State.recordFault, State.sensed]
  have hwsv : w.sv = { s.sv with record := some (s.recordOf c), stopTimer := 0 } :=
    State.recordFault_sv _ c
  have hturning : (w.hj.phase.turnsH = true ∧ w.fi.st = .jog) ↔ s.fi.st = .jog ∧ ∃ m, m.axis = .h ∧
      (s.hj.phase = .running m ∨ s.hj.phase = .ending m) := by
    rw [hwhj, hwfi, JogPhase.turnsH_iff, and_comm]
  have hnoticed (v : Nat) : stateNoticed s (w.stopBegun v) := by
    have h := stateNoticed_stopBegun w v
    rwa [stateNoticed, hwfi] at h
  have hfault : pendingAll w .fault := State.recordFault_pendingAll _ c
  rw [hreport]
  rcases w.beginStop_cases with ⟨heq, hv, hturn⟩ | ⟨heq, hstop⟩ <;> rw [heq]
  · refine ⟨hfault.mono (onlyNotices_stopBegun w _), hnoticed _, fun _ _ => ?_, fun hstop => ?_⟩
    · refine ⟨?_, ?_, ?_, ?_, ?_, ?_⟩
      · rw [State.stopBegun_fi, hwfi]
      · simp [State.stopBegun, hwcq]
      · simp [State.stopBegun, hwsd]
      · rw [State.stopBegun_hj, hwhj]
      · simp [State.stopBegun, hwap]
      · simp [State.stopBegun, hwsv]
    · rw [hturning] at hturn
      rw [hwfi] at hv
      exact absurd hstop (not_or.mpr ⟨hv, hturn⟩)
  · have hended : stateNoticed s (w.stopBegun 0).endStop := (hnoticed 0).endStop
    refine ⟨hfault.mono ((onlyNotices_stopBegun w 0).endStop), hended, fun hv hturn => ?_, fun _ => ?_⟩
    · rw [hturning, hwfi] at hstop
      exact absurd hstop (not_or.mpr ⟨hv, hturn⟩)
    · refine (stoppedFrom_endStop (w.stopBegun 0)).of_same ?_ ?_ ?_ ?_ ?_ ?_ hended
      · rw [State.stopBegun_fi, hwfi]
      · simp [State.stopBegun, hwcq]
      · simp [State.stopBegun, hwsd]
      · rw [State.stopBegun_hj, hwhj]
      · simp [State.stopBegun, hwsv]
      · simp [State.stopBegun, hwsv, hwap]

theorem keptBut_report : keptBut [.pins, .cq, .fi, .sd, .hj, .ap, .sv, .notices] s
    ((s.sensed p d).reportFault c) := by
  refine keptBut_of_onlyNotices (onlyNotices_report s p d c) (passesKept_report s p d c) ?_
  intro b hb _
  cases b <;> simp_all [Block.same, State.sensed]

/-- A fault on top of another only advances its count (R155). -/
theorem furtherFault_report (hr : s.sv.record.isSome = true) :
    ((s.sensed p d).reportFault c).sd = d ∧ furtherFault s ((s.sensed p d).reportFault c) ∧
      keptBut [.pins, .sd, .sv] s ((s.sensed p d).reportFault c) := by
  obtain ⟨r, hr⟩ := Option.isSome_iff_exists.mp hr
  rw [State.reportFault_further (s.sensed p d) c r hr]
  refine ⟨rfl, ⟨rfl, rfl, rfl, rfl, rfl⟩, ?_⟩
  refine keptBut_of_onlyNotices (onlyNotices.refl s) (passesKept.refl s) fun b hb _ => ?_
  cases b <;> simp_all [Block.same, State.sensed, State.furtherFault, State.port]

end Report

/-! ### The slip (R70, R108) -/

/-- What a slip leaves at SD, with the slips in a row (R108). -/
def Decoder.slipped (d : Decoder) (run : Nat) : Decoder :=
  { d with
    cz := { raw := true, filtered := true, run := 0 }
    crank := 0, sinceIndex := 0, slipTally := min 65535 (d.slipTally + 1)
    startPresent := false, clearing := 0, slipRun := run }

theorem exec_slip {s : State} (hclk : s.pins.clkin = true) (hlow : 3 ≤ s.sd.crank.toNat)
    (hhigh : s.sd.crank.toNat ≤ 253) : exec .crankIndex s = .next
      (if s.sd.slipRun = 2 then
        (s.sensed { s.pins with cz := true } (s.sd.slipped 0)).reportCrank .index
      else s.sensed { s.pins with cz := true } (s.sd.slipped (s.sd.slipRun + 1))) := by
  have hexec : exec .crankIndex s = .next s.crankIndex := clocked_run s _ hclk
  have hcount : ¬ validCount s.sd.crank = true := by
    simp only [validCount, Bool.or_eq_true, decide_eq_true_eq]
    omega
  have hindex : s.crankIndex = s.czRises.slipIndex := if_neg hcount
  have hrun : s.czRises.sd.slipRun + 1 = 3 ↔ s.sd.slipRun = 2 := Nat.succ_inj
  rw [hexec, hindex, State.slipIndex]
  simp only [hrun]
  by_cases h : s.sd.slipRun = 2
  · simp only [if_pos h]
    rfl
  · simp only [if_neg h]
    rfl

theorem keptBut_sensed (s : State) (p : Pins) (d : Decoder) :
    keptBut [.pins, .sd] s (s.sensed p d) := by
  refine keptBut_of_onlyNotices (onlyNotices.refl s) (passesKept.refl s) fun b hb _ => ?_
  cases b <;> simp_all [Block.same, State.sensed, State.port]

/-- Settles O44: the third slip in a row is reported outside OFFLINE. -/
theorem slipIndex : Obligations.SlipIndex := by
  intro s hclk hlow hhigh slipped
  rw [exec_slip hclk hlow hhigh]
  refine ⟨fun hrun => ?_, fun hrun hst => ?_, fun hrun hst hr => ?_, fun hrun hst hr => ?_⟩
  · rw [if_neg hrun]
    exact ⟨_, rfl, rfl, keptBut_sensed s _ _⟩
  · rw [if_pos hrun, State.reportCrank, if_pos (by exact hst)]
    exact ⟨_, rfl, rfl, keptBut_sensed s _ _⟩
  · rw [if_pos hrun, State.reportCrank, if_neg (by exact hst)]
    exact ⟨_, rfl, furtherFault_report s _ _ .index hr⟩
  · rw [if_pos hrun, State.reportCrank, if_neg (by exact hst)]
    exact ⟨_, rfl, firstFault_report s _ _ .index hr, keptBut_report s _ _ .index⟩

/-! ### SLOW_OVERDUE and STALL_TIMEOUT (R112 to R114) -/

/-- The index age is past the threshold of R114 at the age the command brings. -/
theorem overdueAge_spec {minSpm : Nat} (h : 0 < minSpm) (age : Nat) :
    60000000 < max age (overdueAge minSpm) * minSpm := by
  have hover : 60000000 < overdueAge minSpm * minSpm := by
    rw [overdueAge, Nat.mul_comm]
    exact Nat.lt_mul_div_succ _ h
  exact hover.trans_le (Nat.mul_le_mul_right _ (le_max_right _ _))

/-- The index age at a value (log 1). -/
def State.aged (s : State) (age : Nat) : State := { s with sd := { s.sd with indexAge := age } }

theorem State.slowOverdue_eq {s : State} {c : Contour} (hc : s.fi.contour = some c) :
    s.slowOverdue =
      (s.aged (max s.sd.indexAge (overdueAge c.grade.minSpm))).setSlow true 0 := by
  rw [State.slowOverdue, hc]
  rfl

theorem keptBut_setSlow_aged (s : State) (age : Nat) :
    keptBut [.fi, .sd, .hj, .notices] s ((s.aged age).setSlow true 0) := by
  have honly : onlyNotices s (s.aged age) := onlyNotices.refl s
  have hpasses : passesKept s (s.aged age) := passesKept.refl s
  refine keptBut_of_onlyNotices (honly.setSlow _ _) (hpasses.setSlow _ _) fun b hb _ => ?_
  cases b <;> simp_all [Block.same, State.aged]

/-- SD as STALL_TIMEOUT takes the STALL (log 23). -/
def State.stallTakenSd (s : State) : Decoder :=
  if s.sd.stallDue then { s.sd with stallDue := false }
  else { s.sd with
    stallTimer := 0, stallTaken := true
    edgeAge := max (min 65535 (s.sd.edgeAge + 1)) s.gt.settings.stallTimeout }

theorem State.stallActive_iff (s : State) :
    s.stallActive = true ↔ s.fi.contour.isSome = true ∧ s.sd.running = true := by
  simp [State.stallActive, State.contourActive]

theorem State.stallTimeout_none {s : State} (hdue : s.sd.stallDue = false)
    (hactive : ¬ s.stallActive = true) : s.stallTimeout = s := by
  rw [State.stallTimeout, if_neg (ne_true_of_eq_false hdue), if_neg hactive]

theorem State.stallTimeout_reports {s : State} (h : s.sd.stallDue = true ∨ s.stallActive = true) :
    s.stallTimeout = (s.sensed s.pins s.stallTakenSd).reportFault .stall := by
  unfold State.stallTimeout State.stallTakenSd
  by_cases hdue : s.sd.stallDue = true
  · simp only [if_pos hdue]
    rfl
  · simp only [if_neg hdue, if_pos (h.resolve_left hdue)]
    rfl

/-- Settles O45: SLOW raised or kept by SLOW_OVERDUE, and the report of the STALL that is due or
brought. -/
theorem bladeMonitors : Obligations.BladeMonitors := by
  intro s hclk active taken
  have hslow : exec .slowOverdue s = .next s.slowOverdue := clocked_run s _ hclk
  have hstall : exec .stallTimeout s = .next s.stallTimeout := clocked_run s _ hclk
  have hreports : s.sd.stallDue = true ∨ active →
      s.stallTimeout = (s.sensed s.pins s.stallTakenSd).reportFault .stall := fun h =>
    State.stallTimeout_reports (h.imp_right s.stallActive_iff.mpr)
  refine ⟨fun hc => ?_, fun c hc hraised => ?_, fun c hc hclear => ?_, fun hdue hnone => ?_,
    fun h hr => ?_, fun h hr => ?_⟩
  · rw [hslow, State.slowOverdue, hc]
  · have hset : s.slowOverdue = _ := State.slowOverdue_eq hc
    rw [hslow, hset]
    generalize hage : max s.sd.indexAge (overdueAge c.grade.minSpm) = age
    have hsame := (s.aged age).setSlow_same 0
    rw [show (s.aged age).sd.slow = true from hraised] at hsame
    rw [hsame]
    refine ⟨_, rfl, ?_, hage ▸ le_max_left _ _, ?_⟩
    · rfl
    · refine keptBut_of_onlyNotices (onlyNotices.refl s) (passesKept.refl s) fun b hb _ => ?_
      cases b <;> simp_all [Block.same, State.aged, State.port]
  · rw [hslow, State.slowOverdue_eq hc]
    have hsd := (s.aged (max s.sd.indexAge (overdueAge c.grade.minSpm))).setSlow_sd true 0
    have hhj := (s.aged (max s.sd.indexAge (overdueAge c.grade.minSpm))).setSlow_hj true 0
    have hholds : (s.aged (max s.sd.indexAge (overdueAge c.grade.minSpm))).slowHolds true =
        { s.hj.holds with slow := true } := if_neg (by simp [State.aged, hclear])
    rw [hholds] at hhj
    refine ⟨_, rfl, ?_, ?_, fun hmin => ?_, hhj, ?_, fun hs => ?_, keptBut_setSlow_aged s _⟩
    · rw [hsd]
      rfl
    · rw [hsd]
      exact le_max_left _ _
    · rw [hsd]
      exact overdueAge_spec hmin _
    · rw [State.setSlow_fi, hholds, hhj]
      rfl
    · refine State.setSlow_pendingAll 0 ?_
      rw [hholds]
      exact fun h => absurd (congrArg HoldSet.slow h) (by simp [State.aged, hs])
  · rw [hstall, State.stallTimeout_none hdue (fun h => hnone (s.stallActive_iff.mp h))]
  · rw [hstall, hreports h]
    obtain ⟨hsd, hfurther, hkept⟩ := furtherFault_report s s.pins s.stallTakenSd .stall hr
    exact ⟨_, rfl, hsd, hfurther, hkept.of_pins (by simp [State.sensed])⟩
  · rw [hstall, hreports h]
    exact ⟨_, rfl, firstFault_report s _ _ .stall hr,
      (keptBut_report s _ _ .stall).of_pins (by simp [State.sensed])⟩

end Sys2Proof.Machine
end

section
/-! SUPPORT. The loss of CLKIN and its return (R94, R145, R149, R161 to R163). -/

namespace Sys2Proof.Machine

/-! ### The loss (R149, R161) -/

/-- What the monitor does to an axis: STEP falls, and a pulse cut short with the permit HIGH is taken
back (R149, log 24). -/
theorem AxisOut.cutPulse_facts (a : AxisOut) (permitted : Bool) :
    (a.cutPulse permitted).step = false ∧ (a.cutPulse permitted).target = a.target ∧
      (a.cutPulse permitted).dir = a.dir ∧ (a.step = false → a.cutPulse permitted = a) ∧
      (a.step = true → permitted = true →
        (a.cutPulse permitted).output = a.output + if a.dir then -1 else 1) := by
  cases hstep : a.step with
  | false =>
    have hcut : a.cutPulse permitted = { a with step := false } := if_neg (by simp [hstep])
    rw [hcut]
    exact ⟨rfl, rfl, rfl, fun _ => by rw [← hstep], fun h => by simp at h⟩
  | true =>
    unfold AxisOut.cutPulse
    cases permitted <;> cases a.dir <;> simp [hstep, Int.sub_eq_add_neg]

theorem State.clockLost_axis (s : State) (axis : Axis) :
    s.clockLost.ap.axis axis = (s.ap.axis axis).cutPulse s.sv.permit := by
  cases axis <;> rfl

theorem keptBut_clockLost (s : State) : keptBut [.pins, .ap, .sv] s s.clockLost := by
  refine keptBut_of_onlyNotices (onlyNotices.refl s) (passesKept.refl s) fun b hb _ => ?_
  cases b <;> simp_all [Block.same, State.port]

/-! ### FAULT STOPPED at the return (R94, R162) -/

theorem onlyNotices.stopDirect {r s : State} (h : onlyNotices r s) : onlyNotices r s.stopDirect :=
  (h.endJog .fault).endStop

theorem passesKept.stopDirect {r s : State} (h : passesKept r s) : passesKept r s.stopDirect :=
  (h.endJog .fault).endStop

theorem onlyNotices.lossFall {r s : State} (h : onlyNotices r s) : onlyNotices r s.lossFall :=
  h.lowerPermit

theorem passesKept.lossFall {r s : State} (h : passesKept r s) : passesKept r s.lossFall := by
  rw [State.lossFall, State.lowerPermit_rest]
  exact h

/-- The fall of MPERMIT before the stop and the stop's own come to one (R145, R162). -/
theorem stoppedFrom_lossFall (u : State) :
    stoppedFrom { u with hj := u.hj.faulted } u.lossFall.stopDirect := by
  have hsv : u.lossFall.sv = { u.sv with permit := false } := u.lowerPermit_sv
  have hap : u.lossFall.ap = u.ap.fallen u.sv.permit := u.lowerPermit_fallen
  have hstop := stoppedFrom_endStop (u.lossFall.endJog .fault)
  have hst : stateNoticed u (u.lossFall.endJog .fault) := by
    intro h
    simp at h
  refine hstop.of_same ?_ ?_ ?_ ?_ ?_ ?_ hst.endStop
  · simp
  · simp
  · simp
  · rw [State.endJog_fault_hj, State.lossFall_hj]
  · simp [hsv]
  · simp [hsv, hap, Pulses.fallen]

/-- With the permit state LOW already nothing falls (R149). -/
theorem State.lossFall_low {s : State} (h : s.sv.permit = false) : s.lossFall = s :=
  if_neg (ne_true_of_eq_false h)

/-! ### The return (R161 to R163) -/

/-- CLKIN is back and the missed count is cleared (R161, log 30). -/
def State.clockBack (s : State) : State :=
  { s with pins := { s.pins with clkin := true }, sv := { s.sv with missed := 0 } }

/-- SV is back in WATCHING (R162). -/
def State.watching (s : State) : State := { s with sv := { s.sv with monitor := .watching } }

@[simp] theorem State.watching_port (s : State) (q : Port) : s.watching.port q = s.port q := by
  cases q <;> rfl

theorem State.clockReturned_lost {s : State} (h : s.sv.monitor = .lost) :
    s.clockReturned = s.clockBack.returnAction.watching := if_pos h

theorem State.clockReturned_other {s : State} (h : s.sv.monitor ≠ .lost) :
    s.clockReturned = s.clockBack := if_neg h

/-- Outside OFFLINE and FAULT the first fault is CLOCK_LOSS (R162). -/
theorem State.returnAction_first {s : State} (hst : s.fi.st ≠ .offline)
    (hf : s.fi.st.isFault = false) (hr : s.sv.record = none) :
    s.returnAction = (s.recordFault .clockLoss).lossFall.stopDirect := by
  unfold State.returnAction
  split
  case h_1 h => exact absurd h hst
  case h_2 h => simp [h, FiState.isFault] at hf
  case h_3 h => simp [h, FiState.isFault] at hf
  case h_4 => rw [hr]

theorem stoppedFrom.stateNoticed {u t : State} (h : stoppedFrom u t) : stateNoticed u t := by
  obtain ⟨-, -, -, -, -, -, hst, -, -⟩ := h
  exact hst

/-- WATCHING again, the end of the quick stop reads the same from the state WATCHING again. -/
theorem stoppedFrom.watching {u t : State} (h : stoppedFrom u t) :
    stoppedFrom u.watching t.watching := by
  obtain ⟨hfi, hcq, hsd, hhj, hsv, hap, hst, hdemand, hholds⟩ := h
  refine ⟨hfi, hcq, hsd, hhj, ?_, hap, fun hc q => ?_, fun hc => hdemand hc, fun hc q => ?_⟩
  · rw [State.watching, hsv]
    rfl
  · rw [State.watching_port]
    exact hst hc q
  · rw [State.watching_port]
    exact hholds hc q

theorem keptBut_stopDirect {s w : State} (honly : onlyNotices s w) (hpasses : passesKept s w)
    (htb : w.tb = s.tb) (hgt : w.gt = s.gt) (hmodel : Block.model.same s w) :
    keptBut [.pins, .cq, .fi, .sd, .hj, .ap, .sv, .notices] s w.lossFall.stopDirect.watching := by
  refine keptBut_of_onlyNotices (t := w.lossFall.stopDirect.watching) ?_ ?_ ?_
  · exact honly.lossFall.stopDirect
  · exact hpasses.lossFall.stopDirect
  · intro b hb hports
    cases b <;> simp_all [Block.same, State.watching]

/-- Settles O47: the loss as the monitor finds it, and the return by FI's state. -/
theorem clockLossAndReturn : Obligations.ClockLossAndReturn := by
  intro s
  have hloss : exec .clockLossFound s =
      .next (if s.sv.monitor = .watching then s.clockLost else s) := rfl
  have hreturn : exec .clockReturn s = .next s.clockReturned := rfl
  have hback : onlyNotices s s.clockBack := onlyNotices.refl s
  have hbackPasses : passesKept s s.clockBack := passesKept.refl s
  refine ⟨fun hm => ?_, fun hm => ?_, fun hm => ?_, fun hm hst hp => ?_, fun hm hst hf hr => ?_,
    fun m hm hst => ?_, fun hm hst hp => ?_⟩
  · rw [hloss, if_neg hm]
  · rw [hloss, if_pos hm]
    refine ⟨_, rfl, rfl, rfl, ?_, fun axis => ?_, keptBut_clockLost s⟩
    · simp [State.mpermit, State.clockLost]
    · rw [State.clockLost_axis]
      exact (s.ap.axis axis).cutPulse_facts s.sv.permit
  · rw [hreturn, State.clockReturned_other hm]
    rfl
  · have hact : s.clockBack.returnAction = s.clockBack.lossFall := by
      rw [State.returnAction, show s.clockBack.fi.st = .offline from hst]
    rw [hreturn, State.clockReturned_lost hm, hact, State.lossFall_low (s := s.clockBack) hp]
    rfl
  · have hact : s.clockBack.returnAction = _ := State.returnAction_first (s := s.clockBack) hst hf hr
    rw [hreturn, State.clockReturned_lost hm, hact]
    set w := s.clockBack.recordFault .clockLoss with hw
    have hfault : pendingAll w .fault := State.recordFault_pendingAll _ _
    have hstopped := (stoppedFrom_lossFall w).watching
    have hended : onlyNotices w w.lossFall.stopDirect := (onlyNotices.refl w).lossFall.stopDirect
    refine ⟨_, rfl, hstopped.of_same ?_ ?_ ?_ ?_ ?_ ?_ ?_, fun q => ?_, ?_, ?_⟩
    · simp [State.watching, hw, State.clockBack]
    · simp [State.watching, hw, State.clockBack]
    · simp [State.watching, hw, State.clockBack]
    · simp [State.watching, hw, State.clockBack]
    · simp [State.watching, hw, State.clockBack, State.faultRecord, State.recordOf]
    · simp [State.watching, hw, State.clockBack]
    · exact hstopped.stateNoticed
    · rw [State.watching_port]
      exact hended.2.2 q _ (hfault q)
    · simp [State.watching, hw, State.clockBack]
    · exact keptBut_stopDirect (w := w) (hback.recordFault _) (hbackPasses.recordFault _)
        (by simp [hw, State.clockBack]) (by simp [hw, State.clockBack])
        (by simp [hw, Block.same, State.clockBack])
  · have hact : s.clockBack.returnAction = s.clockBack.furtherFault.lossFall.stopDirect := by
      rw [State.returnAction, show s.clockBack.fi.st = .stopping m from hst]
    rw [hreturn, State.clockReturned_lost hm, hact]
    refine ⟨_, rfl, (stoppedFrom_lossFall s.clockBack.furtherFault).watching, ?_,
      keptBut_stopDirect (w := s.clockBack.furtherFault) hback hbackPasses rfl rfl ⟨rfl, rfl, rfl⟩⟩
    simp [State.watching, State.clockBack]
  · have hact : s.clockBack.returnAction = s.clockBack.furtherFault.lossFall := by
      rw [State.returnAction, show s.clockBack.fi.st = .stopped from hst]
    rw [hreturn, State.clockReturned_lost hm, hact,
      State.lossFall_low (s := s.clockBack.furtherFault) hp]
    rfl

end Sys2Proof.Machine
end

section
/-! SUPPORT. The millisecond tick (R98, R112, R113, R134, R156) and the expiry in the states without
motion (R69). -/

namespace Sys2Proof.Machine

/-! ### The tick, block by block -/

theorem State.tick_decoder (s : State) : s.tick.sd = s.tickDecoder.sd := by
  unfold State.tick State.tickStop
  split <;> rfl

theorem State.ticked_sd (s : State) : s.ticked.sd = s.tickDecoder.sd := by
  rw [State.ticked, State.tickWindow_sd, State.tick_decoder]

theorem State.ticked_tb (s : State) : s.ticked.tb = { s.tb with ms := s.tb.ms + 1, phase := 0 } := by
  rw [State.ticked, State.tickWindow_tb, State.tick_tb]

theorem State.ticked_ap (s : State) : s.ticked.ap = { s.ap with slotClock := 0 } := by
  rw [State.ticked, State.tickWindow_ap, State.tick_ap]

theorem State.ticked_sv_stopping {s : State} {m : StopMode} (hst : s.fi.st = .stopping m) :
    s.ticked.sv = { s.sv with stopTimer := min 100 (s.sv.stopTimer + 1) } := by
  have htick : s.tickTime.tickDecoder.fi.st = .stopping m := hst
  rw [State.ticked, State.tickWindow_sv, State.tick, State.tickStop, htick]
  rfl

theorem State.ticked_sv_other {s : State} (hst : ∀ m, s.fi.st ≠ .stopping m) :
    s.ticked.sv = s.sv := by
  rw [State.ticked, State.tickWindow_sv, State.tick, State.tickStop]
  split
  case h_1 m hm => exact absurd hm (hst m)
  case h_2 => rfl

/-! The window (R134) -/

theorem State.tickWindow_counts {s : State} {m : JogMove} (hm : s.hj.phase = .running m)
    (hw : m.timer + 1 < m.window) :
    s.tickWindow.hj = { s.hj with phase := .running { m with timer := m.timer + 1 } } := by
  rw [State.tickWindow, hm]
  exact congrArg State.hj (if_neg (Nat.not_le.mpr hw))

theorem State.expireWindow_running {s : State} {m : JogMove} (hm : s.hj.phase = .running m) :
    s.expireWindow = { s with hj := { s.hj with
      phase := .ending { m with timer := m.window }, endCause := some .expired } } := by
  rw [State.expireWindow, hm]
  rfl

theorem State.tickWindow_expires {s : State} {m : JogMove} (hm : s.hj.phase = .running m)
    (hw : m.window ≤ m.timer + 1) : s.tickWindow.hj = { s.hj with
      phase := .ending { m with timer := m.window }, endCause := some .expired } := by
  have hexpire : s.tickWindow = s.expireWindow := by
    rw [State.tickWindow, hm]
    exact if_pos hw
  rw [hexpire, State.expireWindow_running hm]

theorem State.tickWindow_other {s : State} (h : s.hj.phase.code ≠ 1) : s.tickWindow = s := by
  unfold State.tickWindow
  split
  case h_1 m hm => simp [hm, JogPhase.code] at h
  case h_2 => rfl

@[simp] theorem State.ticked_port (s : State) (q : Port) : s.ticked.port q = s.port q := by
  cases q <;> simp [State.ticked, State.port]

theorem keptBut_ticked (s : State) : keptBut [.tb, .sd, .hj, .ap, .sv] s s.ticked := by
  refine ⟨fun b hb => ?_, fun q => by simp⟩
  cases b
  case ports => exact fun q => by rw [State.ticked_port]
  case notices => exact fun q => by rw [State.ticked_port]; exact ⟨rfl, rfl⟩
  all_goals simp_all [Block.same, State.ticked]

/-! ### The states without motion -/

/-- Where FI stands still with MPERMIT high the expiry only hands over (R69). -/
theorem State.feedWork_still {s : State}
    (hst : s.fi.st = .idle ∨ s.fi.st = .priming ∨ s.fi.st = .starved ∨ s.fi.st = .pivotCorner ∨
      s.fi.st = .pivotSettle ∨ ∃ r, s.fi.st = .held r) : s.feedWork = s.handOff := by
  rcases hst with h | h | h | h | h | ⟨r, h⟩ <;> rw [State.feedWork, h]

/-- With MPERMIT low it does nothing (log 39). -/
theorem State.feedWork_off {s : State} (hst : s.fi.st = .offline ∨ s.fi.st = .stopped) :
    s.feedWork = s := by
  rcases hst with h | h <;> rw [State.feedWork, h]

/-- Settles O35: the tick by its blocks, and the hand-off of the position as it stands. -/
theorem expiryStill : Obligations.ExpiryStill := by
  refine ⟨fun s => ?_, fun s hclk => ⟨fun hst => ?_, fun hst => ?_⟩⟩
  · have hphase : s.tick.hj.phase = s.hj.phase := by rw [State.tick_hj]
    refine ⟨s.ticked_tb, s.ticked_sd.trans ?_, fun m hm hw => ?_, fun m hm hw => ?_, fun hm => ?_,
      fun m hst => State.ticked_sv_stopping hst, State.ticked_sv_other, s.ticked_ap, keptBut_ticked s⟩
    · rfl
    · rw [State.ticked, State.tickWindow_counts (hphase.trans hm) hw, State.tick_hj]
    · rw [State.ticked, State.tickWindow_expires (hphase.trans hm) hw, State.tick_hj]
    · rw [State.ticked, State.tickWindow_other (by rwa [hphase]), State.tick_hj]
  · rw [exec_feedPeriodExpiry hclk, State.feedWork_off (by rwa [State.tick_fi])]
    rfl
  · have hwork : s.tick.feedWork = s.handedAt s.fi := by
      rw [State.feedWork_still (by rwa [State.tick_fi]), State.handedAt, ← s.tick_fi]
    obtain ⟨hfi, hhanded, hkept⟩ := handedOff_moved s s.fi
    rw [exec_feedPeriodExpiry hclk, hwork]
    refine ⟨_, rfl, hfi, hhanded, fun b hb => ?_, hkept.2⟩
    by_cases hbfi : b = .fi
    · subst hbfi
      exact hfi.trans (by simp [State.ticked])
    · exact hkept.1 b (by simp_all)

end Sys2Proof.Machine
end

section
/-! SUPPORT. The jog: JOG_KEEP, JOG_END and the window (R134, R135), and the expiry in JOG and in the quick
stop of a jog (R92 to R94, R131 to R133, R136). -/

namespace Sys2Proof.Machine

/-! ### JOG_KEEP, JOG_END and the expiry of the window (R134, R135) -/

/-- A jog ended with EARLY (R134). -/
def State.endedEarly (s : State) (m : JogMove) : State :=
  { s with hj := { s.hj with
      phase := .ending m, endCause := some .early, earlyTally := min 65535 (s.hj.earlyTally + 1) } }

section Running

variable {s : State} {m : JogMove} (hm : s.hj.phase = .running m)

include hm

theorem ownJogKeep_early (hearly : m.timer < m.window / 4) :
    ownJogKeep [] s = (s.endedEarly m, accept [1, 2, 1]) := by
  have hkeep : s.keepJog m = s.endedEarly m := by
    rw [State.keepJog, if_pos hearly, State.endJog_running hm]
    rfl
  unfold ownJogKeep
  rw [hm]
  dsimp only
  rw [hkeep]
  rfl

theorem ownJogKeep_restart (hlate : m.window / 4 ≤ m.timer) (hcause : s.hj.endCause = none) :
    ownJogKeep [] s =
      ({ s with hj := { s.hj with phase := .running { m with timer := 0 } } }, accept [0, 1, 0]) := by
  have hkeep : s.keepJog m = { s with hj := { s.hj with phase := .running { m with timer := 0 } } } :=
    if_neg (Nat.not_lt.mpr hlate)
  unfold ownJogKeep
  rw [hm]
  dsimp only
  rw [hkeep, State.keepBytes]
  simp only [hcause]
  rfl

theorem ownJogEnd_running :
    ownJogEnd [] s =
      ({ s with hj := { s.hj with phase := .ending m, endCause := some .ended } }, accept [2]) := by
  unfold ownJogEnd
  rw [hm]
  dsimp only
  rw [State.endJog_running hm]
  rfl

end Running

/-- In any other phase both are refused (R134, R135). -/
theorem ownJog_refused {s : State} {m : JogMove} (h : s.hj.phase = .none ∨ s.hj.phase = .ending m) :
    ownJogKeep [] s = (s, refuse .wrongState) ∧ ownJogEnd [] s = (s, refuse .wrongState) := by
  rcases h with h | h <;> rw [ownJogKeep, ownJogEnd, h] <;> exact ⟨rfl, rfl⟩

/-! ### The motion of a jog (R92, R131 to R133) -/

/-- FI after an expiry of a linear jog at a speed (R131, R132). -/
def State.slidFi (s : State) (m : JogMove) (v : Nat) : Interpolator :=
  let room := s.jogRoom m
  let whole := (s.fi.rem + v) / 1000
  let go (c : Nat) : Nat := if m.positive then c + min whole room else c - min whole room
  { s.fi with
    v := if room ≤ whole then 0 else v
    rem := if room ≤ whole then 0 else (s.fi.rem + v) % 1000
    x := if m.axis = .x then go s.fi.x else s.fi.x
    y := if m.axis = .y then go s.fi.y else s.fi.y }

/-- FI after an expiry of a jog of H at a rate (R133). -/
def State.spunFi (s : State) (m : JogMove) (rate : Nat) : Interpolator :=
  let turned := if m.positive then (s.fi.h : Int) + rate else (s.fi.h : Int) - rate
  { s.fi with v := rate, h := (turned % 36000).toNat }

/-- FI after the motion of an expiry in JOG, or in the quick stop of a jog (R92, R93, R131 to R133). -/
def State.joggedFi (s : State) (m : JogMove) : Interpolator :=
  if m.axis = .h then
    if s.fi.st = .jog then
      s.spunFi m (moveToward s.fi.v (if s.fi.st = .jog ∧ s.hj.phase = .running m then m.speed else 0)
        s.gt.settings.slewH)
    else { s.fi with v := 0 }
  else
    s.slidFi m (moveToward s.fi.v
      (if s.fi.st = .jog ∧ s.hj.phase = .running m then
        min m.speed (isqrt (2 * s.gt.settings.accel * s.jogRoom m)) else 0)
      (if s.fi.st = .jog then max 1 (s.gt.settings.accel / 1000)
        else max 1 (s.gt.settings.quickAccel / 1000)))

/-- FI moved by a jog, with the tail point at the commanded point (R92). -/
def State.tailed (s : State) (f : Interpolator) : State :=
  { s with fi := f, cq := { s.cq with tail := ⟨f.x, f.y⟩ } }

theorem State.jogLinear_eq (s : State) (m : JogMove) (target step : Nat) :
    s.jogLinear m target step = s.tailed (s.slidFi m (moveToward s.fi.v target step)) := by
  simp only [State.jogLinear, decide_eq_true_eq]
  rfl

theorem State.jogTurn_eq (s : State) (m : JogMove) (target : Nat) :
    s.jogTurn m target = s.tailed (s.spunFi m (moveToward s.fi.v target s.gt.settings.slewH)) := rfl

section Motion

variable {s : State} {m : JogMove}

/-- One expiry in JOG is the jog's motion with the tail point (R92, R131 to R133). -/
theorem State.jogStep_eq (hst : s.fi.st = .jog)
    (hphase : s.hj.phase = .running m ∨ s.hj.phase = .ending m) :
    s.jogStep = s.tailed (s.joggedFi m) := by
  have hlimit : constraintSpeed s.gt.settings.accel 0 (s.jogRoom m) =
      isqrt (2 * s.gt.settings.accel * s.jogRoom m) := by simp [constraintSpeed]
  unfold State.jogStep State.joggedFi
  rcases hphase with hphase | hphase <;> cases haxis : m.axis <;>
    simp [hphase, haxis, hst, State.jogLinear_eq, State.jogTurn_eq, hlimit, speedStep]

/-- In the quick stop a linear jog falls by the quick step (R93). -/
theorem State.stopMove_linear {k : StopMode} (hst : s.fi.st = .stopping k)
    (hphase : s.hj.phase = .running m ∨ s.hj.phase = .ending m) (haxis : m.axis ≠ .h) :
    s.stopMove = s.tailed (s.joggedFi m) := by
  have hmove : s.hj.phase.move = some m := by rcases hphase with h | h <;> rw [h] <;> rfl
  unfold State.stopMove State.joggedFi
  rw [hmove]
  cases hax : m.axis <;> simp_all [State.jogLinear_eq, speedStep]

/-- A jog of H has no path to fall along (R93). -/
theorem State.stopMove_turn {k : StopMode} (hst : s.fi.st = .stopping k)
    (hphase : s.hj.phase = .running m ∨ s.hj.phase = .ending m) (haxis : m.axis = .h) :
    s.stopMove = { s with fi := s.joggedFi m } ∧ (s.joggedFi m).v = 0 := by
  have hmove : s.hj.phase.move = some m := by rcases hphase with h | h <;> rw [h] <;> rfl
  unfold State.stopMove State.joggedFi
  simp [hmove, haxis, hst]

end Motion

/-! ### Under the tick -/

/-- The tick changes nothing the motion of a jog reads. -/
theorem State.joggedFi_tick (s : State) (m : JogMove) : s.tick.joggedFi m = s.joggedFi m := by
  unfold State.joggedFi State.slidFi State.spunFi State.jogRoom
  rw [s.tick_fi, s.tick_hj, s.tick_gt]

theorem Block.same_tailed (b : Block) (s : State) (f : Interpolator) (hfi : b ≠ .fi)
    (hcq : b ≠ .cq) : b.same s (s.tailed f) := by
  cases b
  case fi => exact absurd rfl hfi
  case cq => exact absurd rfl hcq
  case ports => exact fun q => by cases q <;> rfl
  case notices => exact fun q => by cases q <;> exact ⟨rfl, rfl⟩
  case model => exact ⟨rfl, rfl, rfl⟩
  all_goals rfl

/-- FI and the tail point after an expiry's motion, before the hand-off. -/
def State.tailedAt (s : State) (f : Interpolator) : State := s.tick.tailed f

theorem handsOff_tailedAt (s : State) (f : Interpolator) : handsOff s (s.tailedAt f) :=
  ⟨rfl, s.tick_gt, rfl⟩

theorem onlyNotices_tailedAt (s : State) (f : Interpolator) : onlyNotices s.tick (s.tailedAt f) :=
  onlyNotices.refl s.tick

theorem passesKept_tailedAt (s : State) (f : Interpolator) : passesKept s.tick (s.tailedAt f) :=
  passesKept.refl s.tick

/-- Where a jog goes on, the expiry leaves it moved and handed over. -/
theorem handedOff_tailed (s : State) (f : Interpolator) :
    (s.tailedAt f).handOff.tickWindow.fi = f ∧ handedOff s (s.tailedAt f).handOff.tickWindow ∧
      (s.tailedAt f).handOff.tickWindow.cq = { s.cq with tail := ⟨f.x, f.y⟩ } ∧
      keptBut [.fi, .cq, .ap] s.ticked (s.tailedAt f).handOff.tickWindow := by
  refine ⟨State.tickWindow_fi _, (handsOff_tailedAt s f).handedOff, ?_, ?_⟩
  · rw [State.tickWindow_cq, ← s.tick_cq]
    rfl
  · refine keptBut_handOff (onlyNotices_tailedAt s f) (passesKept_tailedAt s f) (by simp)
      fun b hb _ => b.same_tailed s.tick f ?_ ?_ <;> rintro rfl <;> simp at hb

/-! ### The end of the quick stop at an expiry (R94, R156) -/

/-- The end of the quick stop on whatever FI's work has left of FI and the queue. -/
theorem stoppedAt_of_handsOff {s w : State} (h : handsOff s w) (hsd : w.sd = s.tick.sd)
    (hhj : w.hj = s.hj) : stoppedAt s w.handOff.endStop.tickWindow w.fi w.cq := by
  rw [State.tickWindow_still (State.endStop_phase _), stoppedAt]
  have hstopped := stoppedFrom_endStop w.handOff
  refine hstopped.of_same rfl rfl ?_ hhj ?_ ?_ ?_
  · simp [hsd, State.ticked]
  · simp [h.sv, State.ticked]
  · simp [h.sv, h.handOff_ap, State.ticked]
  · exact hstopped.stateNoticed

/-- The frame of an expiry that ends the quick stop. -/
theorem keptBut_endStop_expiry {s w : State} (ho : onlyNotices s.tick w) (hp : passesKept s.tick w)
    (hb : ∀ b, b ∉ [Block.cq, .fi, .sd, .hj, .ap, .sv, .notices] → b ≠ .ports → b.same s.tick w) :
    keptBut [.cq, .fi, .sd, .hj, .ap, .sv, .notices] s.ticked w.handOff.endStop.tickWindow := by
  refine keptBut.tickWindow (keptBut_of_onlyNotices (t := w.handOff.endStop)
    (onlyNotices.endStop (s := w.handOff) ho) (passesKept.endStop (s := w.handOff) hp) ?_)
  intro b hnot hports
  have hsame := hb b hnot hports
  cases b <;> simp_all [Block.same]

/-- The flush sets the tail of the queue, so that the one it finds is not seen. -/
theorem stoppedAt.of_flushed {s t : State} {f : Interpolator} {q q' : ContourQueue}
    (h : stoppedAt s t f q) (hq : q.flushed f = q'.flushed f) : stoppedAt s t f q' := by
  obtain ⟨hfi, hcq, hsd, hhj, hsv, hap, hst, hdemand, hholds⟩ := h
  exact ⟨hfi, hcq.trans hq, hsd, hhj, hsv, hap, hst, hdemand, hholds⟩

/-! ### The expiry in JOG (R136) -/

theorem State.feedWork_jog {s : State} (hst : s.fi.st = .jog) :
    s.feedWork = s.jogStep.handOff.jogComplete := by rw [State.feedWork, hst]

theorem State.jogComplete_goes {s : State} (h : (∃ m, s.hj.phase = .running m) ∨ s.fi.v ≠ 0) :
    s.jogComplete = s := by
  unfold State.jogComplete
  split
  case h_1 m hm =>
    rcases h with ⟨m', h⟩ | h
    · simp [hm] at h
    · exact if_neg h
  case h_2 => rfl

/-- The jog's phase NONE, before the flush (R136). -/
def State.jogOver (s : State) : State := { s with hj := { s.hj with phase := .none } }

theorem State.jogComplete_ends {s : State} {m : JogMove} (hm : s.hj.phase = .ending m)
    (hv : s.fi.v = 0) : s.jogComplete = s.jogOver.flush.enter .idle := by
  rw [State.jogComplete, hm]
  exact if_pos hv

/-- A jog that is complete leaves FI in IDLE after the flush, the hand-off made (R136). -/
theorem handedOff_jogComplete {s : State} {f : Interpolator} (hst : f.st = .jog)
    (hdemand : f.demand = s.fi.demand) (hcontour : f.contour = s.fi.contour) :
    let t := ((s.tailedAt f).handOff.jogOver.flush.enter .idle).tickWindow
    t.fi = f.flushed .idle ∧ handedOff s t ∧ t.cq = s.cq.flushed f ∧
      t.sd = s.ticked.sd.released s.fi ∧
      t.hj = { s.hj with phase := .none, holds := s.hj.holds.released s.fi } ∧
      pendingAll t .state ∧ demandNoticed s t ∧
      keptBut [.fi, .cq, .sd, .hj, .ap, .notices] s.ticked t := by
  intro t
  set w := (s.tailedAt f).handOff.jogOver with hw
  have hwfi : w.fi = f := rfl
  have hwap : w.ap = s.handedTo f := (handsOff_tailedAt s f).handOff_ap
  have hwcq : w.cq = { s.cq with tail := ⟨f.x, f.y⟩ } := by
    rw [← s.tick_cq]
    rfl
  have hwsd : w.sd = s.tick.sd := rfl
  have hwhj : w.hj = { s.hj with phase := .none } := by
    rw [← s.tick_hj]
    rfl
  have honly : onlyNotices s.tick w := onlyNotices_tailedAt s f
  have hpasses : passesKept s.tick w := passesKept_tailedAt s f
  have hover : (w.flush.enter .idle).hj.phase = .none := by
    rw [State.enter_hj, State.flush_hj_released, hwhj]
  have ht : t = w.flush.enter .idle := State.tickWindow_still hover
  have hfi : t.fi = f.flushed .idle := by rw [ht, State.flush_enter_idle_fi, hwfi]
  refine ⟨hfi, ?_, ?_, ?_, ?_, ?_, ?_, ?_⟩
  · rw [handedOff, hfi, ht, State.enter_ap, State.flush_ap, hwap]
    exact s.handedTo_congr rfl rfl rfl
  · rw [ht, State.enter_cq, State.flush_cq_flushed, hwcq, hwfi]
    rfl
  · rw [ht, State.enter_sd, State.flush_sd_released, hwsd, hwfi, State.ticked, State.tickWindow_sd,
      Decoder.released, hcontour]
    rfl
  · rw [ht, State.enter_hj, State.flush_hj_released, hwhj, hwfi, HoldSet.released, hcontour]
    rfl
  · rw [ht]
    exact State.enter_pendingAll _ _ (by simp [State.flush_fi, hwfi, hst, FiState.code])
  · rw [ht]
    exact (demandNoticed_flush (s := s) (u := w) hdemand).mono ((onlyNotices.refl _).enter _)
      (by rw [State.enter_fi])
  · refine keptBut.tickWindow (keptBut_of_onlyNotices (honly.flush.enter _) (hpasses.flush.enter _)
      fun b hb hports => ?_)
    have hsame := b.same_tailed s.tick f (by rintro rfl; simp at hb) (by rintro rfl; simp at hb)
    cases b <;> simp_all [Block.same, State.jogOver, State.tailedAt]

/-! ### The expiry of a jog, by FI's state -/

section Expiry

variable {s : State} {m : JogMove} (hclk : s.pins.clkin = true)
  (hphase : s.hj.phase = .running m ∨ s.hj.phase = .ending m)

include hclk hphase

theorem exec_expiry_jog (hst : s.fi.st = .jog) : exec .feedPeriodExpiry s =
    .next ((s.tailedAt (s.joggedFi m)).handOff.jogComplete).tickWindow := by
  rw [exec_feedPeriodExpiry hclk, State.feedWork_jog (by rwa [State.tick_fi]),
    State.jogStep_eq (m := m) (by rwa [State.tick_fi]) (by rwa [State.tick_hj]),
    State.joggedFi_tick, State.tailedAt]

/-- In JOG the motion is handed over, and a jog that is complete leaves FI in IDLE. -/
theorem jog_expiry (hst : s.fi.st = .jog) : ∃ t, exec .feedPeriodExpiry s = .next t ∧
    (s.hj.phase = .running m ∨ (s.joggedFi m).v ≠ 0 →
      t = (s.tailedAt (s.joggedFi m)).handOff.tickWindow) ∧
    (s.hj.phase = .ending m → (s.joggedFi m).v = 0 →
      t = ((s.tailedAt (s.joggedFi m)).handOff.jogOver.flush.enter .idle).tickWindow) := by
  have hhj : (s.tailedAt (s.joggedFi m)).handOff.hj.phase = s.hj.phase := by
    rw [← s.tick_hj]
    rfl
  refine ⟨_, exec_expiry_jog hclk hphase hst, fun hgoes => ?_, fun hends hv => ?_⟩
  · rw [State.jogComplete_goes]
    rw [hhj]
    exact hgoes.imp_left fun h => ⟨m, h⟩
  · rw [State.jogComplete_ends (m := m) (by rw [hhj, hends]) hv]

/-- In the quick stop a jog falls, and FI is stopped where its speed is 0 (R93, R94). -/
theorem fall_expiry {k : StopMode} (hst : s.fi.st = .stopping k) :
    ∃ t, exec .feedPeriodExpiry s = .next t ∧
      ((s.joggedFi m).v ≠ 0 → t = (s.tailedAt (s.joggedFi m)).handOff.tickWindow) ∧
      ((s.joggedFi m).v = 0 → stoppedAt s t (s.joggedFi m) s.cq ∧
        keptBut [.cq, .fi, .sd, .hj, .ap, .sv, .notices] s.ticked t) := by
  have htick : s.tick.fi.st = .stopping k := by rw [State.tick_fi, hst]
  have hphase' : s.tick.hj.phase = .running m ∨ s.tick.hj.phase = .ending m := by
    rwa [State.tick_hj]
  rw [exec_feedPeriodExpiry hclk]
  refine ⟨_, rfl, ?_⟩
  by_cases haxis : m.axis = .h
  · obtain ⟨hmove, hv⟩ := State.stopMove_turn htick hphase' haxis
    rw [State.joggedFi_tick] at hmove hv
    rw [State.feedWork_stopped htick (by rw [hmove]; exact hv), hmove]
    refine ⟨fun h => absurd hv h, fun _ => ⟨?_, ?_⟩⟩
    · rw [← s.tick_cq]
      exact stoppedAt_of_handsOff (handsOff_withFi s _) rfl s.tick_hj
    · refine keptBut_endStop_expiry (onlyNotices.refl s.tick) (passesKept.refl s.tick)
        fun b hb _ => ?_
      exact b.same_withFi s.tick _ (by rintro rfl; simp at hb)
  · have hmove := State.stopMove_linear htick hphase' haxis
    rw [State.joggedFi_tick] at hmove
    by_cases hv : (s.joggedFi m).v = 0
    · rw [State.feedWork_stopped htick (by rw [hmove]; exact hv), hmove]
      refine ⟨fun h => absurd hv h, fun _ => ⟨?_, ?_⟩⟩
      · refine (stoppedAt_of_handsOff (handsOff_tailedAt s _) rfl s.tick_hj).of_flushed ?_
        rw [← s.tick_cq]
        rfl
      · refine keptBut_endStop_expiry (onlyNotices_tailedAt s _) (passesKept_tailedAt s _)
          fun b hb _ => ?_
        exact b.same_tailed s.tick _ (by rintro rfl; simp at hb) (by rintro rfl; simp at hb)
    · rw [State.feedWork_stopping htick (by rw [hmove]; exact hv), hmove]
      exact ⟨fun _ => rfl, fun h => absurd h hv⟩

end Expiry

/-- Settles O25: the panel's requests by the jog's phase, the window's expiry, and at each expiry the
jog's motion with the end it may bring. -/
theorem jogKeepEnd : Obligations.JogKeepEnd := by
  intro s m
  refine ⟨fun hs hm => ⟨fun hearly => ?_, fun hlate hcause => ?_, ?_⟩, fun hs hm => ⟨?_, ?_⟩,
    fun hclk hm => ?_, fun hclk hst hphase => ?_⟩
  · rw [exec_jogKeep (d := []) hs (by simp) rfl, ownJogKeep_early hm hearly, State.endedEarly]
  · rw [exec_jogKeep (d := []) hs (by simp) rfl, ownJogKeep_restart hm hlate hcause]
  · rw [exec_jogEnd (d := []) hs (by simp) rfl, ownJogEnd_running hm]
  · rw [exec_jogKeep (d := []) hs (by simp) rfl, (ownJog_refused hm).1]
  · rw [exec_jogEnd (d := []) hs (by simp) rfl, (ownJog_refused hm).2]
  · have hexec : exec .windowExpiry s = .next s.expireWindow := clocked_run s _ hclk
    rw [hexec, State.expireWindow_running hm]
  · intro settings room running step v whole go rate turned moved
    have hmoved : moved = s.joggedFi m := by
      have hroom : room = s.jogRoom m := rfl
      simp only [moved, State.joggedFi, State.slidFi, State.spunFi]
      cases haxis : m.axis with
      | h => simp [rate, turned, running, settings]
      | x => simp [go, whole, v, running, settings, step, hroom]
      | y => simp [go, whole, v, running, settings, step, hroom]
    clear_value moved
    subst hmoved
    obtain ⟨hfi, hhanded, hcq, hkept⟩ := handedOff_tailed s (s.joggedFi m)
    have hcommitted : (s.joggedFi m).st = s.fi.st ∧ (s.joggedFi m).demand = s.fi.demand ∧
        (s.joggedFi m).contour = s.fi.contour := by
      unfold State.joggedFi
      (repeat' split) <;> exact ⟨rfl, rfl, rfl⟩
    obtain ⟨hsame, hdemand, hcontour⟩ := hcommitted
    rcases hst with hst | ⟨k, hst⟩
    · obtain ⟨t, hexec, hgoes, hends⟩ := jog_expiry hclk hphase hst
      refine ⟨t, hexec, fun h => ?_, fun _ hm hv => ?_, fun h => absurd hst h⟩
      · rw [hgoes (h.imp_left fun hrun => hrun.2)]
        exact ⟨hfi, hhanded, hcq, hkept⟩
      · rw [hends hm hv]
        exact handedOff_jogComplete (hsame.trans hst) hdemand hcontour
    · obtain ⟨t, hexec, hgoes, hends⟩ := fall_expiry hclk hphase hst
      have hnojog : s.fi.st ≠ .jog := by simp [hst]
      refine ⟨t, hexec, fun h => ?_, fun h => absurd h hnojog, fun _ hv =>
        ⟨(hends hv).1, (hends hv).2.mono (by simp)⟩⟩
      rw [hgoes (h.resolve_left fun hrun => hnojog hrun.1)]
      exact ⟨hfi, hhanded, hcq, hkept⟩

end Sys2Proof.Machine
end

section
/-! SUPPORT. Operations of FI's work that leave every block but FI, the queue and the pending notices
(R15, R63, R65), and the dispatch behind a stop end (R77, R81, R84). -/

namespace Sys2Proof.Machine

/-! ### Work on FI and the queue alone -/

theorem Block.same.trans {b : Block} {r s t : State} (h : b.same r s) (h' : b.same s t) :
    b.same r t := by
  cases b
  case ports => exact fun q => (h' q).trans (h q)
  case notices => exact fun q => ⟨(h' q).1.trans (h q).1, (h' q).2.trans (h q).2⟩
  case model => exact ⟨h'.1.trans h.1, h'.2.1.trans h.2.1, h'.2.2.trans h.2.2⟩
  all_goals exact Eq.trans h' h

/-- The head taken by a dispatch, with v 0 (R63). -/
def State.takenStill (w : State) (e : Entry) : State :=
  { w.takeEntry e with fi := { (w.takeEntry e).fi with v := 0 } }

/-- A dispatch enters IDLE or PRIMING, or takes a TRAVERSE (R77). -/
theorem State.dispatchNow_cases (w : State) :
    (∃ st, (st = .idle ∨ st = .priming) ∧ w.dispatchNow = w.enter st) ∨
      ∃ e, w.dispatchNow = (w.takenStill e).enter .traversing := by
  unfold State.dispatchNow
  (repeat' split)
  · exact .inl ⟨_, .inl rfl, rfl⟩
  · exact .inl ⟨_, .inr rfl, rfl⟩
  · exact .inr ⟨_, rfl⟩
  · exact .inl ⟨_, .inl rfl, rfl⟩
  · exact .inl ⟨_, .inl rfl, rfl⟩

/-- From `s` to `w` nothing has changed but FI, the queue and the pending notices. -/
structure onlyFeeds (s w : State) : Prop where
  only : onlyNotices s w
  passes : passesKept s w
  frame : ∀ b, b ∉ [Block.cq, .fi, .ports, .notices] → b.same s w

namespace onlyFeeds

variable {r s : State}

theorem refl (s : State) : onlyFeeds s s :=
  ⟨onlyNotices.refl s, passesKept.refl s, fun b _ => by
    cases b <;> simp [Block.same]⟩

theorem withFi (h : onlyFeeds r s) (f : Interpolator) : onlyFeeds r { s with fi := f } :=
  ⟨h.only, h.passes, fun b hb => (h.frame b hb).trans
    (b.same_withFi s f (by rintro rfl; simp at hb))⟩

theorem enter (h : onlyFeeds r s) (st : FiState) : onlyFeeds r (s.enter st) :=
  ⟨h.only.enter st, h.passes.enter st, fun b hb => (h.frame b hb).trans (by
    cases b <;> simp_all [Block.same])⟩

theorem takeEntry (h : onlyFeeds r s) (e : Entry) : onlyFeeds r (s.takeEntry e) :=
  ⟨h.only.takeEntry e, h.passes.takeEntry e, fun b hb => (h.frame b hb).trans (by
    cases b <;> simp_all [Block.same])⟩

theorem dispatchNow (h : onlyFeeds r s) : onlyFeeds r s.dispatchNow := by
  obtain ⟨st, -, heq⟩ | ⟨e, heq⟩ := s.dispatchNow_cases <;> rw [heq]
  · exact h.enter st
  · exact ((h.takeEntry e).withFi _).enter _

theorem keptBut (h : onlyFeeds r s) : keptBut [.cq, .fi, .notices] r s :=
  keptBut_of_onlyNotices h.only h.passes fun b hb hports => h.frame b (by simp_all)

theorem hj_eq (h : onlyFeeds r s) : s.hj = r.hj := h.frame .hj (by simp)

theorem sd_eq (h : onlyFeeds r s) : s.sd = r.sd := h.frame .sd (by simp)

theorem handsOff {w : State} (h : onlyFeeds s.tick w) : handsOff s w :=
  ⟨h.frame .ap (by simp), Eq.trans (h.frame .gt (by simp)) s.tick_gt, h.frame .sv (by simp)⟩

/-- The expiry whose work is on FI and the queue alone. -/
theorem expiry {w : State} (h : onlyFeeds s.tick w) :
    handedOff s w.handOff.tickWindow ∧
      Machine.keptBut [.cq, .fi, .ap, .notices] s.ticked w.handOff.tickWindow :=
  ⟨h.handsOff.handedOff, keptBut_handOff h.only h.passes (by simp) fun b hb hports =>
    h.frame b (by simp_all)⟩

end onlyFeeds

/-- A frame that lets a block go, where it is the same. -/
theorem keptBut.without {touched : List Block} {s t : State} {b : Block}
    (h : keptBut (b :: touched) s t) (hb : b.same s t) : keptBut touched s t := by
  refine ⟨fun b' hb' => ?_, h.2⟩
  by_cases heq : b' = b
  · rwa [heq]
  · exact h.1 b' (by simp [heq, hb'])

/-! ### Notices over two steps -/

theorem demandNoticed.trans {s w t : State} (h : demandNoticed s w) (h' : demandNoticed w t)
    (ho : onlyNotices w t) : demandNoticed s t := by
  intro hc
  by_cases hw : t.fi.demand = w.fi.demand
  · exact ho.2.2 _ _ (h (hw ▸ hc))
  · exact h' hw

theorem stateNoticed_of_same {s w : State} (h : w.fi.st = s.fi.st) : stateNoticed s w := by
  intro hc
  simp [h] at hc

/-! ### The dispatch (R15, R77) -/

/-- FI and the queue after a dispatch, as the rules give them. -/
theorem State.dispatchNow_dispatched (w : State) :
    w.dispatchNow.fi = (w.dispatched w.hj.holds w.fi).1 ∧
      w.dispatchNow.cq = { w.cq with entries := (w.dispatched w.hj.holds w.fi).2 } := by
  unfold State.dispatched
  by_cases hstays : w.fi.runEnable = false ∨ w.hj.holds.any = true
  · rw [State.dispatchNow_idle (by tauto), State.enter_fi, State.enter_cq]
    cases hq : w.cq.entries with
    | nil => exact ⟨rfl, by simp [← hq]⟩
    | cons e rest =>
      simp only [if_pos hstays]
      exact ⟨rfl, by simp [← hq]⟩
  · cases hq : w.cq.entries with
    | nil =>
      rw [State.dispatchNow_idle (.inr (.inr hq)), State.enter_fi, State.enter_cq]
      exact ⟨rfl, by simp [← hq]⟩
    | cons e rest =>
      simp only [if_neg hstays]
      rw [not_or, Bool.not_eq_false, Bool.not_eq_true] at hstays
      obtain ⟨hrun, hholds⟩ := hstays
      cases hk : e.kind with
      | opening =>
        rw [State.dispatchNow_opening hrun hholds hq hk, State.enter_fi, State.enter_cq]
        exact ⟨rfl, by simp [← hq]⟩
      | traverse =>
        rw [State.dispatchNow_traverse hrun hholds hq hk, State.enter_fi, State.enter_cq,
          State.takeEntry_fi_demandOf, hq]
        exact ⟨rfl, by simp [State.takeEntry_cq, hq]⟩
      | line | arc =>
        have hidle : w.dispatchNow = w.enter .idle := by
          simp [State.dispatchNow, hrun, hholds, hq, hk]
        rw [hidle, State.enter_fi, State.enter_cq]
        exact ⟨rfl, by simp [← hq]⟩

/-- The dispatch reads the queue, the table and the override alone. -/
theorem State.dispatched_congr {s w : State} (hq : w.cq.entries = s.cq.entries) (hgt : w.gt = s.gt)
    (ho : w.hj.override = s.hj.override) (holds : HoldSet) (f : Interpolator) :
    w.dispatched holds f = s.dispatched holds f := by
  unfold State.dispatched State.demandOf
  rw [hq, hgt, ho]

/-- A dispatch leaves FI in no hold. -/
theorem State.dispatchNow_st (w : State) : w.dispatchNow.fi.st = .idle ∨
    w.dispatchNow.fi.st = .priming ∨ w.dispatchNow.fi.st = .traversing := by
  obtain ⟨st, hst, heq⟩ | ⟨e, heq⟩ := w.dispatchNow_cases <;> rw [heq, State.enter_fi]
  · exact hst.imp_right .inl
  · exact .inr (.inr rfl)

theorem stateNoticed.dispatchNow {s w : State} (h : stateNoticed s w) :
    stateNoticed s w.dispatchNow := by
  obtain ⟨st, -, heq⟩ | ⟨e, heq⟩ := w.dispatchNow_cases <;> rw [heq]
  · exact h.enter st
  · have htaken : stateNoticed s (w.takeEntry e) :=
      h.mono ((onlyNotices.refl w).takeEntry e) (by rw [State.takeEntry_fi])
    exact stateNoticed.enter (u := w.takenStill e) htaken _

theorem demandNoticed_dispatchNow (w : State) : demandNoticed w w.dispatchNow := by
  obtain ⟨st, -, heq⟩ | ⟨e, heq⟩ := w.dispatchNow_cases <;> rw [heq]
  · intro hc
    simp [State.enter_fi] at hc
  · refine (demandNoticed_takeEntry w e).mono ?_ (by rw [State.enter_fi]; rfl)
    exact onlyNotices.enter (s := w.takenStill e) (onlyNotices.refl (w.takeEntry e)) _

theorem refillNoticed_dispatchNow (w : State) : refillNoticed w w.dispatchNow := by
  obtain ⟨st, -, heq⟩ | ⟨e, heq⟩ := w.dispatchNow_cases <;> rw [heq]
  · intro hc
    simp at hc
  · refine (refillNoticed_takeEntry w e).mono ?_ (by rw [State.enter_cq]; rfl)
    exact onlyNotices.enter (s := w.takenStill e) (onlyNotices.refl (w.takeEntry e)) _

end Sys2Proof.Machine
end

section
/-! SUPPORT. The end of an entry at an expiry (R68, R69): the stop ends with what follows them (R74, R81,
R82, R84, R93), and the carry end (R68, R73, R87). -/

namespace Sys2Proof.Machine

/-! ### The advance at an entry's end -/

/-- The budget of a cut entry bounds its advance (R67). -/
theorem State.motionOn_whole_le (s : State) {e : Entry} (hcut : e.isCut = true) :
    (s.motionOn e).whole ≤ s.fi.budget := by
  unfold State.motionOn
  extract_lets m v whole rem
  split
  case isTrue => exact le_rfl
  case isFalse hover =>
    split
    case isTrue => exact Nat.zero_le _
    case isFalse => exact Nat.le_of_not_lt fun h => hover ⟨hcut, h⟩

/-- FI at the end point of the active entry, with v 0 (R68, log 11, log 14). -/
def State.endedFi (s : State) (e : Entry) : Interpolator :=
  let exit := e.exitHeading.getD s.fi.heading
  { s.fi with
    x := e.stop.x, y := e.stop.y, heading := exit, h := s.commandedH s.fi.st exit, v := 0, rem := 0
    budget := if e.isCut then s.fi.budget - (e.length - s.fi.done) else s.fi.budget
    done := e.length }

/-- FI there with no entry active any more. -/
def State.droppedFi (s : State) (e : Entry) : Interpolator :=
  { s.endedFi e with active := none, done := 0 }

theorem State.endedFi_tick (s : State) (e : Entry) : s.tick.endedFi e = s.endedFi e := by
  simp only [State.endedFi, State.commandedH, State.tick_fi]

/-- The state at the end point, before what follows a stop end. -/
def State.ended (s : State) (e : Entry) : State := { s with fi := s.endedFi e }

/-- A stop end sets the position, and the budget gets back what the advance did not need. -/
theorem State.stopAt_advance {s : State} {e : Entry} (hactive : s.fi.active = some e)
    (hopen : e.kind ≠ .opening) (hdone : s.fi.done < e.length)
    (hend : e.length ≤ s.fi.done + (s.motionOn e).whole) : s.advance.1.stopAt e = s.ended e := by
  have hbudget : (if e.isCut then s.fi.budget - (s.motionOn e).whole else s.fi.budget) +
      (if e.isCut then s.fi.done + (s.motionOn e).whole - e.length else 0) =
      if e.isCut then s.fi.budget - (e.length - s.fi.done) else s.fi.budget := by
    split
    · have hle := s.motionOn_whole_le (e := e) (by assumption)
      omega
    · rfl
  rw [State.advance_eq hactive hopen, State.ended, State.endedFi, State.commandedH_eq, ← hbudget]
  rfl

theorem State.carryNext_advance {s : State} {e : Entry} (hactive : s.fi.active = some e)
    (hopen : e.kind ≠ .opening) : s.advance.1.carryNext e = s.carryNext e := by
  rw [State.advance_eq hactive hopen]
  rfl

/-- What follows a stop end (R74, R81, R82, R84, R93). -/
def State.afterEnd (s : State) (e : Entry) : State :=
  if s.fi.st.isFault then s
  else if e.kind = .traverse then s.dropActive.dispatchNow
  else if e.endMark then s.contourEnd
  else
    match s.cq.entries with
    | [] => s.starve
    | next :: _ => s.startPivot next

section AtEnd

variable {s : State} {e : Entry} (hactive : s.fi.active = some e) (hopen : e.kind ≠ .opening)
  (hdone : s.fi.done < e.length) (hend : e.length ≤ s.fi.done + (s.motionOn e).whole)

include hactive hopen hdone hend

/-- Where nothing is carried the expiry stops at the entry's end. -/
theorem State.move_stopEnd (hcarry : s.carryNext e = none) : s.move = (s.ended e).afterEnd e := by
  have hadv : s.advance.1.fi.active = some e := by rw [State.advance_eq hactive hopen]; exact hactive
  have hpast : ¬ s.advance.1.fi.done < e.length := by
    rw [State.advance_eq hactive hopen]
    exact Nat.not_lt.mpr hend
  have hmove : s.move = s.advance.1.stopEnd e := by
    rw [State.move, State.runEnds, hadv]
    dsimp only
    rw [if_neg hpast, State.carryNext_advance hactive hopen, hcarry]
  have hfault : s.advance.1.fi.st.isFault = (s.ended e).fi.st.isFault := by
    rw [State.advance_eq hactive hopen]
    rfl
  rw [hmove, State.stopEnd, State.stopAt_advance hactive hopen hdone hend, hfault]
  rfl

theorem State.move_stopEnd_tick (hcarry : s.carryNext e = none) :
    s.tick.move = (s.tick.ended e).afterEnd e := by
  have hcarry' : s.tick.carryNext e = none := by
    rw [← hcarry, State.carryNext, State.carryNext, State.tick_fi, State.tick_cq]
  exact State.move_stopEnd (by rwa [State.tick_fi]) hopen (by rwa [State.tick_fi])
    (by rwa [State.motionOn_tick, State.tick_fi]) hcarry'

end AtEnd

/-! ### Where an entry carries (R68) -/

/-- A stop end: nothing follows in the contour, or a junction classed PIVOT does. -/
theorem State.carryNext_none {s : State} {e : Entry}
    (h : e.kind = .traverse ∨ e.endMark = true ∨ s.cq.entries = [] ∨ s.fi.contour = none ∨
      ∃ c next rest angle, s.fi.contour = some c ∧ s.cq.entries = next :: rest ∧
        next.junction = some angle ∧ c.grade.smooth < angle.natAbs ∧
        c.grade.pivot < angle.natAbs) : s.carryNext e = none := by
  unfold State.carryNext
  rcases h with hk | hmark | hq | hc | ⟨c, next, rest, angle, hc, hq, hj, hsmooth, hpivot⟩
  · have hcut : e.isCut = false := by
      obtain ⟨_, _, _, _, body⟩ := e
      cases body <;> simp_all [Entry.kind, Entry.isCut]
    split
    · rw [if_neg (by simp [hcut])]
    · rfl
  · split
    · rw [if_neg (by simp [hmark])]
    · rfl
  · rw [hq]
    cases s.fi.contour <;> rfl
  · rw [hc]
  · have hclass : classify c.grade next.junction = .pivot := by
      rw [hj, classify, if_neg (Nat.not_le.mpr hsmooth), if_neg (Nat.not_le.mpr hpivot)]
    rw [hc, hq]
    dsimp only
    rw [hclass]
    split <;> rfl

/-- A carry end: a SMOOTH or a TURN junction inside the contour. -/
theorem State.carryNext_some {s : State} {e next : Entry} {rest : List Entry} {c : Contour}
    {angle : Int} (hcut : e.isCut = true) (hmark : e.endMark = false) (hc : s.fi.contour = some c)
    (hq : s.cq.entries = next :: rest) (hj : next.junction = some angle)
    (hclass : angle.natAbs ≤ c.grade.smooth ∨ angle.natAbs ≤ c.grade.pivot) :
    s.carryNext e = some (next, !decide (angle.natAbs ≤ c.grade.smooth)) := by
  unfold State.carryNext
  rw [hc, hq]
  dsimp only
  rw [hcut, hmark, hj, classify]
  by_cases hsmooth : angle.natAbs ≤ c.grade.smooth
  · simp [hsmooth]
  · simp [hsmooth, hclass.resolve_left hsmooth]

/-! ### The expiry along a path, by FI's state (R69, R87, R93, R94) -/

section OnPath

variable {s : State} (hclk : s.pins.clkin = true)

include hclk

/-- Outside the quick stop the expiry is the motion and the hand-off, where FI does not end in HOLDING
with v 0. -/
theorem exec_expiry_running (hpath : s.onPath) (hrunning : ∀ m, s.fi.st ≠ .stopping m)
    (hgoes : ∀ r, s.tick.move.fi.st = .holding r → s.tick.move.fi.v ≠ 0) :
    exec .feedPeriodExpiry s = .next s.tick.move.handOff.tickWindow := by
  rw [exec_feedPeriodExpiry hclk]
  rcases hpath with hst | hst | hst | ⟨r, hst⟩ | ⟨⟨m, hst⟩, -⟩
  · rw [State.feedWork_moving (.inl (by rwa [State.tick_fi]))]
  · rw [State.feedWork_moving (.inr (.inl (by rwa [State.tick_fi])))]
  · rw [State.feedWork_moving (.inr (.inr (by rwa [State.tick_fi])))]
  · have htick : s.tick.fi.st = .holding r := by rw [State.tick_fi, hst]
    rw [State.feedWork, htick]
    dsimp only
    rw [State.handOff_fi]
    split
    case h_1 r' hr => rw [if_neg (hgoes r' hr)]
    case h_2 => rfl
  · exact absurd hst (hrunning m)

/-- HOLDING with v 0 becomes HELD (R87). -/
theorem exec_expiry_held {r r' : Resume} (hst : s.fi.st = .holding r)
    (hkept : s.tick.move.fi.st = .holding r') (hv : s.tick.move.fi.v = 0) :
    exec .feedPeriodExpiry s = .next (s.tick.move.handOff.enter (.held r')).tickWindow := by
  have htick : s.tick.fi.st = .holding r := by rw [State.tick_fi, hst]
  rw [exec_feedPeriodExpiry hclk, State.feedWork, htick]
  simp only [State.handOff_fi, hkept, hv, if_true]

/-- The quick stop along a path goes on, or ends with v 0 (R93, R94). -/
theorem exec_expiry_quickStop {m : StopMode} {e : Entry} (hst : s.fi.st = .stopping m)
    (hphase : s.hj.phase = .none) (hactive : s.fi.active = some e) :
    exec .feedPeriodExpiry s = .next (if s.tick.move.fi.v = 0
      then s.tick.move.handOff.endStop.tickWindow else s.tick.move.handOff.tickWindow) := by
  have htick : s.tick.fi.st = .stopping m := by rw [State.tick_fi, hst]
  have hmove : s.tick.stopMove = s.tick.move :=
    State.stopMove_path (e := e) (by rwa [State.tick_hj]) (by rwa [State.tick_fi])
  rw [exec_feedPeriodExpiry hclk]
  split
  case isTrue hv => rw [State.feedWork_stopped htick (by rwa [hmove]), hmove]
  case isFalse hv => rw [State.feedWork_stopping htick (by rwa [hmove]), hmove]

end OnPath

theorem State.onPath_stopping {s : State} {m : StopMode} (hpath : s.onPath)
    (hst : s.fi.st = .stopping m) : s.hj.phase = .none := by
  simpa [State.onPath, hst] using hpath

theorem State.onPath_running {s : State} (hpath : s.onPath) (hrunning : ∀ m, s.fi.st ≠ .stopping m) :
    s.fi.st.isFault = false := by
  rcases hpath with hst | hst | hst | ⟨r, hst⟩ | ⟨⟨m, hst⟩, -⟩
  case inr.inr.inr.inr => exact absurd hst (hrunning m)
  all_goals rw [hst]; rfl

end Sys2Proof.Machine
end

section
/-! SUPPORT. What follows a stop end at an expiry (R74, R81, R82, R84, R87, R93). -/

namespace Sys2Proof.Machine

/-! ### Notices and passes over two steps -/

theorem onlyNotices.trans {r s t : State} (h : onlyNotices r s) (h' : onlyNotices s t) :
    onlyNotices r t := by
  obtain ⟨hrequest, hline, hnotices⟩ := h
  obtain ⟨hrequest', hline', hnotices'⟩ := h'
  exact ⟨fun q => (hrequest' q).trans (hrequest q), fun q => (hline' q).trans (hline q),
    fun q k hk => hnotices' q k (hnotices q k hk)⟩

theorem passesKept.trans {r s t : State} (h : passesKept r s) (h' : passesKept s t) :
    passesKept r t := by
  intro q
  rcases h' q with heq | hzero
  · rw [heq]
    exact h q
  · exact .inr hzero

/-! ### The end point after the tick -/

theorem onlyFeeds_ended (s : State) (e : Entry) : onlyFeeds s.tick (s.tick.ended e) :=
  (onlyFeeds.refl s.tick).withFi _

theorem State.ended_tick_fi (s : State) (e : Entry) : (s.tick.ended e).fi = s.endedFi e :=
  s.endedFi_tick e

/-- The state at the end point with no entry active, after the tick. -/
theorem State.dropActive_ended_fi (s : State) (e : Entry) :
    (s.tick.ended e).dropActive.fi = s.droppedFi e := by
  rw [State.droppedFi, ← s.ended_tick_fi]
  rfl

theorem onlyFeeds_dropped (s : State) (e : Entry) :
    onlyFeeds s.tick (s.tick.ended e).dropActive :=
  (onlyFeeds_ended s e).withFi _

/-! ### The quick stop at the end point (R93, R94) -/

/-- The flush drops the distance done, so that the one it finds is not seen. -/
theorem stoppedAt.withDone {s t : State} {f : Interpolator} {q : ContourQueue}
    (h : stoppedAt s t f q) (n : Nat) : stoppedAt s t { f with done := n } q := h

theorem State.afterEnd_fault {s : State} (h : s.fi.st.isFault = true) (e : Entry) :
    s.afterEnd e = s := if_pos h

section StopEnd

variable {s : State} {e : Entry} (hclk : s.pins.clkin = true) (hpath : s.onPath)
  (hactive : s.fi.active = some e) (hopen : e.kind ≠ .opening) (hdone : s.fi.done < e.length)
  (hend : e.length ≤ s.fi.done + (s.motionOn e).whole) (hcarry : s.carryNext e = none)

include hclk hpath hactive hopen hdone hend hcarry

/-- The quick stop ends at the end point. -/
theorem stopEnd_quickStop {m : StopMode} (hst : s.fi.st = .stopping m) :
    ∃ t, exec .feedPeriodExpiry s = .next t ∧
      stoppedAt s t { s.droppedFi e with active := some e } s.cq ∧
      keptBut [.cq, .fi, .sd, .hj, .ap, .sv, .notices] s.ticked t := by
  have hfi := s.ended_tick_fi e
  have hfault : (s.tick.ended e).fi.st.isFault = true := by
    rw [hfi, State.endedFi, hst]
    rfl
  have hmove : s.tick.move = s.tick.ended e := by
    rw [State.move_stopEnd_tick hactive hopen hdone hend hcarry, State.afterEnd_fault hfault]
  have hv : s.tick.move.fi.v = 0 := by rw [hmove, hfi, State.endedFi]
  have hfeeds := onlyFeeds_ended s e
  rw [exec_expiry_quickStop hclk hst (State.onPath_stopping hpath hst) hactive, if_pos hv, hmove]
  refine ⟨_, rfl, ?_, keptBut_endStop_expiry hfeeds.only hfeeds.passes fun b hb hports =>
    hfeeds.frame b (by simp_all)⟩
  have hstopped := stoppedAt_of_handsOff hfeeds.handsOff hfeeds.sd_eq (hfeeds.hj_eq.trans s.tick_hj)
  have hcq : (s.tick.ended e).cq = s.cq := s.tick_cq
  have hdropped : ({ s.droppedFi e with active := some e } : Interpolator) =
      { s.endedFi e with done := 0 } := by
    rw [State.droppedFi, ← hactive]
    rfl
  rw [hfi, hcq] at hstopped
  rw [hdropped]
  exact hstopped.withDone 0

end StopEnd

/-! ### Outside the quick stop -/

theorem State.endedFi_running {s : State} (hpath : s.onPath)
    (hrunning : ∀ m, s.fi.st ≠ .stopping m) (e : Entry) :
    ¬ (s.tick.ended e).fi.st.isFault = true := by
  rw [s.ended_tick_fi]
  exact ne_true_of_eq_false (State.onPath_running hpath hrunning)

/-- The dispatch behind a stop end, from a state that shares the queue, the table and the override
(R77, R81, R84). -/
theorem dispatched_expiry {s w : State} {f : Interpolator} {holds : HoldSet} (hfi : w.fi = f)
    (hholds : w.hj.holds = holds) (hcq : w.cq = s.cq) (hgt : w.gt = s.gt)
    (ho : w.hj.override = s.hj.override) :
    w.dispatchNow.handOff.tickWindow.fi = (s.dispatched holds f).1 ∧
      w.dispatchNow.handOff.tickWindow.cq =
        { s.cq with entries := (s.dispatched holds f).2 } := by
  obtain ⟨hwfi, hwcq⟩ := w.dispatchNow_dispatched
  rw [State.dispatched_congr (s := s) (by rw [hcq]) hgt ho, hfi, hholds] at hwfi hwcq
  rw [State.tickWindow_fi, State.tickWindow_cq, State.handOff_fi, State.handOff_cq, hwfi, hwcq, hcq]
  exact ⟨rfl, rfl⟩

theorem stateNoticed.of_tick {s w : State} (h : stateNoticed s.tick w) :
    stateNoticed s w.handOff.tickWindow := by simpa [stateNoticed] using h

theorem State.dispatchNow_goes (w : State) (r : Resume) :
    w.dispatchNow.fi.st = .holding r → w.dispatchNow.fi.v ≠ 0 := by
  rcases w.dispatchNow_st with h | h | h <;> simp [h]

/-! ### The contour end (R84) -/

/-- FI once the contour has ended, before the dispatch. -/
def State.closedFi (s : State) (f : Interpolator) (c : Contour) : Interpolator :=
  { f with
    contour := none, contours := f.contours + 1, doneTag := c.tag, doneStrokes := f.strokes
    demand := s.demandOf none s.cq.entries }

/-- The end of the contour up to the dispatch: the counts, the notices and the release. -/
def State.contourClosed (u : State) (c : Contour) : State :=
  let s1 : State := { u.dropActive with fi := { u.dropActive.fi with
      contours := u.fi.contours + 1, doneTag := c.tag, doneStrokes := u.fi.strokes } }
  ((s1.raise .job .contourDone).raise .panel .contourDone).releaseContour.recomputeDemand

/-- FI's flags clear at a pause (R85). -/
theorem State.contourEnd_eq {u : State} {c : Contour} (hc : u.fi.contour = some c) :
    u.contourEnd = if u.fi.pauseAfter then ((u.contourClosed c).withFlags false false).enter .idle
      else (u.contourClosed c).dispatchNow := by
  have hpause : (u.contourClosed c).fi.pauseAfter = u.fi.pauseAfter := by
    simp [State.contourClosed, State.recomputeDemand_fi, State.releaseContour_fi, State.dropActive]
  rw [← hpause, State.contourEnd, hc]
  rfl

section Closed

variable {u : State} {c : Contour} (hc : u.fi.contour = some c)

theorem onlyNotices_contourClosed : onlyNotices u (u.contourClosed c) := by
  unfold State.contourClosed
  refine onlyNotices.recomputeDemand (onlyNotices.releaseContour ?_)
  exact ((onlyNotices.refl u).raise .job .contourDone).raise .panel .contourDone

theorem passesKept_contourClosed : passesKept u (u.contourClosed c) := by
  unfold State.contourClosed
  refine passesKept.recomputeDemand (passesKept.releaseContour ?_)
  refine passesKept.raise (passesKept.raise ?_ .job .contourDone) .panel .contourDone
  exact passesKept.refl u

/-- CONTOUR_DONE is pending on the job and the panel port (R84). -/
theorem contourDone_contourClosed (q : Port) (hq : q = .job ∨ q = .panel) :
    ((u.contourClosed c).port q).notices.has .contourDone = true := by
  unfold State.contourClosed
  dsimp only
  refine ((onlyNotices.refl _).releaseContour.recomputeDemand).2.2 q _ ?_
  rcases hq with rfl | rfl <;> simp [State.raise_has]

theorem State.contourClosed_cq : (u.contourClosed c).cq = u.cq := by
  simp [State.contourClosed]

theorem Block.same_contourClosed {b : Block}
    (hb : b ∉ [Block.cq, .fi, .sd, .hj, .ports, .notices]) : b.same u (u.contourClosed c) := by
  cases b <;> simp_all [Block.same, State.contourClosed]

include hc

theorem State.contourClosed_fi :
    (u.contourClosed c).fi = u.closedFi u.dropActive.fi c := by
  unfold State.contourClosed
  dsimp only
  rw [State.recomputeDemand_fi, State.demandNow_eq_demandOf, State.releaseContour_fi]
  simp [State.demandOf, State.releaseContour_hj, State.dropActive, hc, State.closedFi]

theorem State.contourClosed_hj : (u.contourClosed c).hj =
    { u.hj with holds := { u.hj.holds with slow := false, driveOff := false } } := by
  simp [State.contourClosed, State.releaseContour_hj, State.dropActive, hc]

theorem State.contourClosed_sd :
    (u.contourClosed c).sd = { u.sd with slow := false, clearing := 0 } := by
  simp [State.contourClosed, State.releaseContour_sd, State.dropActive, hc]

end Closed

theorem demandNoticed_contourClosed {u : State} {c : Contour} :
    demandNoticed u (u.contourClosed c) := by
  unfold State.contourClosed
  refine demandNoticed_recomputeDemand ?_
  simp [State.releaseContour_fi, State.dropActive]

/-- The set under the tick of the window is the set the tick finds (R134). -/
theorem State.tickWindow_hj_holds {s w : State} {h : HoldSet}
    (hw : w.hj = { s.hj with holds := h }) : w.tickWindow.hj = { s.ticked.hj with holds := h } := by
  have hphase : w.hj.phase = s.tick.hj.phase := by rw [hw, s.tick_hj]
  cases hp : s.tick.hj.phase with
  | running m =>
    rw [hp] at hphase
    by_cases hwin : m.window ≤ m.timer + 1
    · rw [State.ticked, State.tickWindow_expires hphase hwin, State.tickWindow_expires hp hwin, hw,
        s.tick_hj]
    · have hlt := Nat.lt_of_not_le hwin
      rw [State.ticked, State.tickWindow_counts hphase hlt, State.tickWindow_counts hp hlt, hw,
        s.tick_hj]
  | none | ending m =>
    rw [hp] at hphase
    rw [State.ticked, State.tickWindow_other (s := w) (by rw [hphase]; simp [JogPhase.code]),
      State.tickWindow_other (s := s.tick) (by rw [hp]; simp [JogPhase.code]), hw, s.tick_hj]

/-- What follows the closing: the pause, or the dispatch (R84, R85). -/
def State.afterClosed (s : State) (f : Interpolator) (holds : HoldSet) :
    Interpolator × List Entry :=
  if s.fi.pauseAfter then
    ({ f with st := .idle, runEnable := false, pauseAfter := false }, s.cq.entries)
  else s.dispatched holds f

/-- What follows the closing is work on FI and the queue alone, with its notices. -/
theorem contourEnd_behind {s u : State} {c : Contour} {f : Interpolator} {holds : HoldSet}
    (hc : u.fi.contour = some c) (hpause : u.fi.pauseAfter = s.fi.pauseAfter)
    (hfi : (u.contourClosed c).fi = f) (hv : f.v = 0)
    (hholds : (u.contourClosed c).hj.holds = holds) (hcq : u.cq = s.cq) (hgt : u.gt = s.gt)
    (ho : (u.contourClosed c).hj.override = s.hj.override) :
    onlyFeeds (u.contourClosed c) u.contourEnd ∧ u.contourEnd.fi = (s.afterClosed f holds).1 ∧
      u.contourEnd.cq = { s.cq with entries := (s.afterClosed f holds).2 } ∧
      stateNoticed (u.contourClosed c) u.contourEnd ∧
      demandNoticed (u.contourClosed c) u.contourEnd ∧
      refillNoticed (u.contourClosed c) u.contourEnd ∧
      ∀ r, u.contourEnd.fi.st = .holding r → u.contourEnd.fi.v ≠ 0 := by
  have hclosed : (u.contourClosed c).cq = s.cq := State.contourClosed_cq.trans hcq
  have hclosedGt : (u.contourClosed c).gt = s.gt :=
    Eq.trans (Block.same_contourClosed (b := .gt) (by simp)) hgt
  rw [State.contourEnd_eq hc, State.afterClosed, hpause]
  split
  · set w := (u.contourClosed c).withFlags false false with hw
    have hfeeds : onlyFeeds (u.contourClosed c) w := (onlyFeeds.refl _).withFi _
    have hst : stateNoticed (u.contourClosed c) w := stateNoticed_of_same rfl
    refine ⟨hfeeds.enter _, ?_, ?_, hst.enter _, fun h => ?_, fun h => ?_, fun r h => ?_⟩
    · rw [State.enter_fi, hw, State.withFlags, hfi, ← hv]
      rfl
    · rw [State.enter_cq, hw, State.withFlags, hclosed]
    · simp [State.enter_fi, hw, State.withFlags] at h
    · simp [hw, State.withFlags] at h
    · simp [State.enter_fi] at h
  · obtain ⟨hwfi, hwcq⟩ := (u.contourClosed c).dispatchNow_dispatched
    rw [State.dispatched_congr (s := s) (by rw [hclosed]) hclosedGt ho, hfi, hholds] at hwfi hwcq
    rw [hclosed] at hwcq
    have hst : stateNoticed (u.contourClosed c) (u.contourClosed c) := stateNoticed_of_same rfl
    exact ⟨(onlyFeeds.refl _).dispatchNow, hwfi, hwcq, hst.dispatchNow, demandNoticed_dispatchNow _,
      refillNoticed_dispatchNow _, State.dispatchNow_goes _⟩

/-- The whole contour end behind the end point, seen from the tick. -/
theorem contourEnd_expiry {s : State} {e : Entry} {c : Contour} (hc : s.fi.contour = some c) :
    let w := (s.tick.ended e).contourEnd
    let freed : HoldSet := { s.hj.holds with slow := false, driveOff := false }
    let next := s.afterClosed (s.closedFi (s.droppedFi e) c) freed
    let t := w.handOff.tickWindow
    (∀ r, w.fi.st = .holding r → w.fi.v ≠ 0) ∧ handedOff s t ∧ t.fi = next.1 ∧
      t.cq = { s.cq with entries := next.2 } ∧
      (t.port .job).notices.has .contourDone = true ∧
      (t.port .panel).notices.has .contourDone = true ∧ stateNoticed s t ∧ demandNoticed s t ∧
      refillNoticed s t ∧ t.hj = { s.ticked.hj with holds := freed } ∧
      t.sd = { s.ticked.sd with slow := false, clearing := 0 } ∧
      keptBut [.cq, .fi, .sd, .hj, .ap, .notices] s.ticked t := by
  intro w freed next t
  set u := s.tick.ended e with hu
  have huc : u.fi.contour = some c := by rw [hu, s.ended_tick_fi]; exact hc
  have hfeeds : onlyFeeds s.tick u := onlyFeeds_ended s e
  have hfi : (u.contourClosed c).fi = s.closedFi (s.droppedFi e) c := by
    rw [State.contourClosed_fi huc, hu, s.dropActive_ended_fi]
    simp [State.closedFi, State.demandOf, State.ended]
  have hhj : (u.contourClosed c).hj = { s.hj with holds := freed } := by
    rw [State.contourClosed_hj huc, hfeeds.hj_eq, s.tick_hj]
  have hsd : (u.contourClosed c).sd = { s.tick.sd with slow := false, clearing := 0 } := by
    rw [State.contourClosed_sd huc, hfeeds.sd_eq]
  have hcq : (u.contourClosed c).cq = s.tick.cq := State.contourClosed_cq
  have hst : (u.contourClosed c).fi.st = s.tick.fi.st := by rw [hfi, s.tick_fi]; rfl
  have honly : onlyNotices s.tick (u.contourClosed c) := onlyNotices_contourClosed (u := u)
  have hpasses : passesKept s.tick (u.contourClosed c) := passesKept_contourClosed (u := u)
  have hclosed : demandNoticed s.tick (u.contourClosed c) := demandNoticed_contourClosed (u := u)
  obtain ⟨hbehind, hwfi, hwcq, hnoticed, hdemand, hrefill, hgoes⟩ := contourEnd_behind (s := s)
    (holds := freed) huc (by rw [hu, s.ended_tick_fi]; rfl) hfi rfl (by rw [hhj]) s.tick_cq s.tick_gt
    (by rw [hhj])
  rw [stateNoticed, hst] at hnoticed
  rw [refillNoticed, hcq] at hrefill
  have hframe (b : Block) (hb : b ∉ [Block.cq, .fi, .sd, .hj, .ports, .notices]) : b.same s.tick w :=
    (hfeeds.frame b (by simp_all)).trans
      ((Block.same_contourClosed hb).trans (hbehind.frame b (by simp_all)))
  have hwhj : w.hj = { s.hj with holds := freed } := hbehind.hj_eq.trans hhj
  have hwork : handsOff s w :=
    ⟨hframe .ap (by simp), Eq.trans (hframe .gt (by simp)) s.tick_gt, hframe .sv (by simp)⟩
  have hdone (q : Port) (hq : q = .job ∨ q = .panel) :
      (t.port q).notices.has .contourDone = true := by
    rw [State.tickWindow_port, State.handOff_port]
    exact hbehind.only.2.2 q _ (contourDone_contourClosed q hq)
  refine ⟨hgoes, hwork.handedOff, ?_, ?_, hdone .job (.inl rfl), hdone .panel (.inr rfl),
    stateNoticed.of_tick hnoticed, (hclosed.trans hdemand hbehind.only).of_tick,
    refillNoticed.of_tick hrefill, ?_, ?_, ?_⟩
  · rw [State.tickWindow_fi, State.handOff_fi, hwfi]
  · rw [State.tickWindow_cq, State.handOff_cq, hwcq]
  · exact State.tickWindow_hj_holds (w := w.handOff) hwhj
  · rw [State.tickWindow_sd, State.handOff_sd, hbehind.sd_eq, hsd, State.ticked, State.tickWindow_sd]
  · exact keptBut_handOff (honly.trans hbehind.only) (hpasses.trans hbehind.passes) (by simp)
      fun b hb hports => hframe b (by simp_all)

end Sys2Proof.Machine
end

section
/-! SUPPORT. The stop ends at an expiry outside the quick stop (R74, R81, R82, R84, R87). -/

namespace Sys2Proof.Machine

/-! ### What follows, by the entry and the queue -/

theorem Entry.kind_ne_traverse_of_isCut {e : Entry} (h : e.isCut = true) : e.kind ≠ .traverse := by
  obtain ⟨_, _, _, _, body⟩ := e
  cases body <;> simp_all [Entry.kind, Entry.isCut]

theorem Entry.kind_ne_traverse_of_endMark {e : Entry} (h : e.endMark = true) :
    e.kind ≠ .traverse := by
  obtain ⟨_, _, _, _, body⟩ := e
  cases body <;> simp_all [Entry.kind, Entry.endMark]

section AfterEnd

variable {s : State} {e : Entry} (hf : ¬ s.fi.st.isFault = true)

include hf

theorem State.afterEnd_traverse (hk : e.kind = .traverse) :
    s.afterEnd e = s.dropActive.dispatchNow := by
  rw [State.afterEnd, if_neg hf, if_pos hk]

theorem State.afterEnd_endMark (hmark : e.endMark = true) : s.afterEnd e = s.contourEnd := by
  rw [State.afterEnd, if_neg hf, if_neg (Entry.kind_ne_traverse_of_endMark hmark), if_pos hmark]

theorem State.afterEnd_empty (hk : e.kind ≠ .traverse) (hmark : e.endMark = false)
    (hq : s.cq.entries = []) : s.afterEnd e = s.starve := by
  rw [State.afterEnd, if_neg hf, if_neg hk, if_neg (ne_true_of_eq_false hmark), hq]

theorem State.afterEnd_pivot (hk : e.kind ≠ .traverse) (hmark : e.endMark = false) {next : Entry}
    {rest : List Entry} (hq : s.cq.entries = next :: rest) : s.afterEnd e = s.startPivot next := by
  rw [State.afterEnd, if_neg hf, if_neg hk, if_neg (ne_true_of_eq_false hmark), hq]

end AfterEnd

/-! ### STARVED and the pivot (R74, R82, R87) -/

theorem State.starve_fi (s : State) : s.starve.fi = { s.fi with
    st := .starved, v := 0, active := none, done := 0
    starves := min 65535 (s.fi.starves + 1) } := by
  rw [State.starve, State.enter_fi]
  rfl

theorem onlyFeeds.starve {r s : State} (h : onlyFeeds r s) : onlyFeeds r s.starve :=
  (h.withFi _).enter _

theorem stateNoticed.starve {r s : State} (h : stateNoticed r s) : stateNoticed r s.starve := by
  unfold State.starve
  refine stateNoticed.enter ?_ _
  exact h

/-- The state in which a PIVOT junction leaves FI (R74, R87). -/
def FiState.pivoted : FiState → FiState
  | .holding _ => .held .pivotCorner
  | _ => .pivotCorner

theorem State.startPivot_eq (s : State) (next : Entry) :
    s.startPivot next = (s.takeEntry next).enter s.fi.st.pivoted := by
  unfold State.startPivot FiState.pivoted
  cases s.fi.st <;> rfl

theorem FiState.pivoted_still (st : FiState) : st.pivoted.still = true := by
  cases st <;> rfl

theorem FiState.pivoted_ne_holding (st : FiState) (r : Resume) : st.pivoted ≠ .holding r := by
  cases st <;> simp [FiState.pivoted]

theorem State.startPivot_fi (s : State) {next : Entry} {rest : List Entry}
    (hq : s.cq.entries = next :: rest) : (s.startPivot next).fi = { s.fi with
      st := s.fi.st.pivoted, v := 0, active := some next, done := 0
      heading := next.entryHeading.getD s.fi.heading, demand := s.demandOf s.fi.contour rest } := by
  rw [State.startPivot_eq, State.enter_fi, State.takeEntry_fi_demandOf, hq,
    if_pos s.fi.st.pivoted_still]
  rfl

theorem State.startPivot_cq (s : State) {next : Entry} {rest : List Entry}
    (hq : s.cq.entries = next :: rest) :
    (s.startPivot next).cq = { s.cq with entries := rest } := by
  rw [State.startPivot_eq, State.enter_cq, State.takeEntry_cq, hq]
  rfl

theorem onlyFeeds.startPivot {r s : State} (h : onlyFeeds r s) (next : Entry) :
    onlyFeeds r (s.startPivot next) := by
  rw [State.startPivot_eq]
  exact (h.takeEntry next).enter _

theorem stateNoticed.takeEntry {r s : State} (h : stateNoticed r s) (e : Entry) :
    stateNoticed r (s.takeEntry e) :=
  h.mono ((onlyNotices.refl s).takeEntry e) (by rw [State.takeEntry_fi])

theorem stateNoticed.startPivot {r s : State} (h : stateNoticed r s) (next : Entry) :
    stateNoticed r (s.startPivot next) := by
  rw [State.startPivot_eq]
  exact (h.takeEntry next).enter _

theorem demandNoticed_startPivot (s : State) (next : Entry) :
    demandNoticed s (s.startPivot next) := by
  rw [State.startPivot_eq]
  exact (demandNoticed_takeEntry s next).mono ((onlyNotices.refl _).enter _) (by rw [State.enter_fi])

theorem refillNoticed_startPivot (s : State) (next : Entry) :
    refillNoticed s (s.startPivot next) := by
  rw [State.startPivot_eq]
  exact (refillNoticed_takeEntry s next).mono ((onlyNotices.refl _).enter _) (by rw [State.enter_cq])

/-! ### The expiry at a stop end -/

section StopEnd

variable {s : State} {e : Entry} (hclk : s.pins.clkin = true) (hpath : s.onPath)
  (hactive : s.fi.active = some e) (hopen : e.kind ≠ .opening) (hdone : s.fi.done < e.length)
  (hend : e.length ≤ s.fi.done + (s.motionOn e).whole) (hrunning : ∀ m, s.fi.st ≠ .stopping m)

include hclk hpath hactive hopen hdone hend hrunning

/-- A stop end outside the quick stop is what follows it and the hand-off. -/
theorem exec_stopEnd {w : State} (hcarry : s.carryNext e = none)
    (hw : (s.tick.ended e).afterEnd e = w) (hgoes : ∀ r, w.fi.st = .holding r → w.fi.v ≠ 0) :
    exec .feedPeriodExpiry s = .next w.handOff.tickWindow := by
  have hmove : s.tick.move = w :=
    (State.move_stopEnd_tick hactive hopen hdone hend hcarry).trans hw
  rw [exec_expiry_running hclk hpath hrunning (by rwa [hmove]), hmove]

/-- A TRAVERSE ends in a dispatch (R81). -/
theorem stopEnd_traverse (hk : e.kind = .traverse) :
    ∃ t, exec .feedPeriodExpiry s = .next t ∧ handedOff s t ∧
      t.fi = (s.dispatched s.hj.holds (s.droppedFi e)).1 ∧
      t.cq = { s.cq with entries := (s.dispatched s.hj.holds (s.droppedFi e)).2 } ∧
      stateNoticed s t ∧ demandNoticed s t ∧ refillNoticed s t ∧
      keptBut [.cq, .fi, .ap, .notices] s.ticked t := by
  set w := (s.tick.ended e).dropActive with hw
  have hfi : w.fi = s.droppedFi e := s.dropActive_ended_fi e
  have hfeeds : onlyFeeds s.tick w := onlyFeeds_dropped s e
  have hst : stateNoticed s.tick w := stateNoticed_of_same (by rw [hfi, s.tick_fi]; rfl)
  have hexec := exec_stopEnd hclk hpath hactive hopen hdone hend hrunning
    (State.carryNext_none (.inl hk))
    (State.afterEnd_traverse (State.endedFi_running hpath hrunning e) hk) w.dispatchNow_goes
  obtain ⟨htfi, htcq⟩ := dispatched_expiry (s := s) hfi (holds := s.hj.holds)
    (by rw [hfeeds.hj_eq, s.tick_hj]) s.tick_cq s.tick_gt (by rw [hfeeds.hj_eq, s.tick_hj])
  have hdemand : demandNoticed s.tick w.dispatchNow := demandNoticed_dispatchNow w
  have hrefill : refillNoticed s.tick w.dispatchNow := refillNoticed_dispatchNow w
  exact ⟨_, hexec, hfeeds.dispatchNow.expiry.1, htfi, htcq, hst.dispatchNow.of_tick,
    hdemand.of_tick, hrefill.of_tick, hfeeds.dispatchNow.expiry.2⟩

/-- The END mark ends the contour (R84). -/
theorem stopEnd_contour {c : Contour} (hmark : e.endMark = true) (hc : s.fi.contour = some c) :
    let freed : HoldSet := { s.hj.holds with slow := false, driveOff := false }
    let next := s.afterClosed (s.closedFi (s.droppedFi e) c) freed
    ∃ t, exec .feedPeriodExpiry s = .next t ∧ handedOff s t ∧ t.fi = next.1 ∧
      t.cq = { s.cq with entries := next.2 } ∧
      (t.port .job).notices.has .contourDone = true ∧
      (t.port .panel).notices.has .contourDone = true ∧ stateNoticed s t ∧ demandNoticed s t ∧
      refillNoticed s t ∧ t.hj = { s.ticked.hj with holds := freed } ∧
      t.sd = { s.ticked.sd with slow := false, clearing := 0 } ∧
      keptBut [.cq, .fi, .sd, .hj, .ap, .notices] s.ticked t := by
  obtain ⟨hgoes, hrest⟩ := contourEnd_expiry (e := e) hc
  exact ⟨_, exec_stopEnd hclk hpath hactive hopen hdone hend hrunning
    (State.carryNext_none (.inr (.inl hmark)))
    (State.afterEnd_endMark (State.endedFi_running hpath hrunning e) hmark) hgoes, hrest⟩

/-- Without the END mark FI starves on an empty queue (R82). -/
theorem stopEnd_starve (hcut : e.isCut = true) (hmark : e.endMark = false)
    (hq : s.cq.entries = []) :
    ∃ t, exec .feedPeriodExpiry s = .next t ∧ handedOff s t ∧
      t.fi = { s.droppedFi e with st := .starved, starves := min 65535 (s.fi.starves + 1) } ∧
      stateNoticed s t ∧ keptBut [.fi, .ap, .notices] s.ticked t := by
  set u := s.tick.ended e with hu
  have hfi : u.starve.fi =
      { s.droppedFi e with st := .starved, starves := min 65535 (s.fi.starves + 1) } := by
    rw [State.starve_fi, hu, s.ended_tick_fi]
    rfl
  have hfeeds : onlyFeeds s.tick u.starve := (onlyFeeds_ended s e).starve
  have hst : stateNoticed s.tick u := stateNoticed_of_same (by rw [hu, s.ended_tick_fi, s.tick_fi]; rfl)
  obtain ⟨hhanded, hkept⟩ := hfeeds.expiry
  refine ⟨_, exec_stopEnd hclk hpath hactive hopen hdone hend hrunning
    (State.carryNext_none (.inr (.inr (.inl hq)))) (State.afterEnd_empty
      (State.endedFi_running hpath hrunning e) (Entry.kind_ne_traverse_of_isCut hcut) hmark
      (by rw [← hq]; exact congrArg _ s.tick_cq)) (fun r h => ?_), hhanded, ?_, hst.starve.of_tick,
    hkept.without ?_⟩
  · rw [← hu, hfi] at h
    cases h
  · rw [State.tickWindow_fi, State.handOff_fi, ← hu, hfi]
  · simp [Block.same, hu, State.ticked, State.ended]

/-- At a PIVOT junction the next entry is taken and the pivot begins (R74, R87). -/
theorem stopEnd_pivot {c : Contour} {next : Entry} {rest : List Entry} {angle : Int}
    (hcut : e.isCut = true) (hmark : e.endMark = false) (hc : s.fi.contour = some c)
    (hq : s.cq.entries = next :: rest) (hj : next.junction = some angle)
    (hsmooth : c.grade.smooth < angle.natAbs) (hpivot : c.grade.pivot < angle.natAbs) :
    ∃ t, exec .feedPeriodExpiry s = .next t ∧ handedOff s t ∧
      t.fi = { s.droppedFi e with
        st := s.fi.st.pivoted, active := some next
        heading := next.entryHeading.getD (e.exitHeading.getD s.fi.heading)
        demand := s.demandOf s.fi.contour rest } ∧
      t.cq = { s.cq with entries := rest } ∧ stateNoticed s t ∧ demandNoticed s t ∧
      refillNoticed s t ∧ keptBut [.cq, .fi, .ap, .notices] s.ticked t := by
  set u := s.tick.ended e with hu
  have huq : u.cq.entries = next :: rest := by rw [← hq]; exact congrArg _ s.tick_cq
  have hufi : u.fi = s.endedFi e := s.ended_tick_fi e
  have hfi := u.startPivot_fi huq
  have hcq := u.startPivot_cq huq
  have hfeeds : onlyFeeds s.tick (u.startPivot next) := (onlyFeeds_ended s e).startPivot next
  have hst : stateNoticed s.tick u := stateNoticed_of_same (by rw [hufi, s.tick_fi]; rfl)
  have hdemand : demandNoticed s.tick (u.startPivot next) := by
    have h := demandNoticed_startPivot u next
    rw [demandNoticed, hufi] at h
    rw [demandNoticed, s.tick_fi]
    exact h
  have hrefill : refillNoticed s.tick (u.startPivot next) := refillNoticed_startPivot u next
  obtain ⟨hhanded, hkept⟩ := hfeeds.expiry
  refine ⟨_, exec_stopEnd hclk hpath hactive hopen hdone hend hrunning (State.carryNext_none
    (.inr (.inr (.inr (.inr ⟨c, next, rest, angle, hc, hq, hj, hsmooth, hpivot⟩)))))
    (State.afterEnd_pivot (State.endedFi_running hpath hrunning e)
      (Entry.kind_ne_traverse_of_isCut hcut) hmark huq) (fun r h => ?_), hhanded, ?_, ?_,
    (hst.startPivot next).of_tick, hdemand.of_tick, hrefill.of_tick, hkept⟩
  · rw [← hu, hfi] at h
    exact absurd h (u.fi.st.pivoted_ne_holding r)
  · have hnext : u.demandOf s.fi.contour rest = s.demandOf s.fi.contour rest := by
      simp [State.demandOf, hu, State.ended]
    rw [State.tickWindow_fi, State.handOff_fi, ← hu, hfi, hufi, ← hnext]
    rfl
  · rw [State.tickWindow_cq, State.handOff_cq, ← hu, hcq]
    exact congrArg (fun q : ContourQueue => { q with entries := rest }) s.tick_cq

end StopEnd

end Sys2Proof.Machine
end

section
/-! SUPPORT. The carry end at an expiry (R68, R73, R87, R93): the take of the next entry, the excess under
its budget, and the commit behind it. -/

namespace Sys2Proof.Machine

theorem onlyFeeds.trans {r s t : State} (h : onlyFeeds r s) (h' : onlyFeeds s t) : onlyFeeds r t :=
  ⟨h.only.trans h'.only, h.passes.trans h'.passes, fun b hb => (h.frame b hb).trans (h'.frame b hb)⟩

/-! ### The take of the next entry -/

theorem FiState.crawling_eq (st : FiState) : st.crawling = crawlingState st := by
  unfold FiState.crawling crawlingState
  (repeat' split) <;> simp_all

/-- The state FI carries on in: CRAWL behind a TURN junction (R73, R87, R93). -/
def FiState.carriedBy (st : FiState) (turn : Bool) : FiState := if turn then st.crawling else st

/-- Along a path a carry keeps FI moving, in FAULT or outside it, and the cap holds outside it alone. -/
theorem FiState.carriedBy_facts {s : State} (hpath : s.onPath) (turn : Bool) :
    (s.fi.st.carriedBy turn).still = false ∧ (s.fi.st.carriedBy turn).capped = !s.fi.st.isFault := by
  rcases hpath with hst | hst | hst | ⟨r, hst⟩ | ⟨⟨m, hst⟩, -⟩ <;> rw [hst] <;> cases turn
  case inr.inr.inr.inl.true => cases r <;> exact ⟨rfl, rfl⟩
  case inr.inr.inr.inr.true => cases m <;> exact ⟨rfl, rfl⟩
  all_goals exact ⟨rfl, rfl⟩

/-- The budget gets back what the advance did not need (R68, log 11). -/
def State.budgetBack (s : State) (e : Entry) : State :=
  { s with fi := { s.fi with budget := s.fi.budget + (s.fi.done - e.length) } }

/-- The next entry taken under its bite (R68). -/
def State.carryBegun (s : State) (e next : Entry) : State :=
  ((s.budgetBack e).takeEntry next).limitBudget next

/-- The next entry taken, and CRAWL entered at a TURN (R68, R73). -/
def State.carryTake (s : State) (e next : Entry) (turn : Bool) : State :=
  if turn then (s.carryBegun e next).enter (s.carryBegun e next).fi.st.crawling
  else s.carryBegun e next

section Take

variable (s : State) (e next : Entry) (turn : Bool)

theorem onlyFeeds_carryBegun : onlyFeeds s (s.carryBegun e next) := by
  have hback : onlyFeeds s (s.budgetBack e) := (onlyFeeds.refl s).withFi _
  exact (hback.takeEntry next).withFi _

theorem onlyFeeds_carryTake : onlyFeeds s (s.carryTake e next turn) := by
  unfold State.carryTake
  split
  · exact (onlyFeeds_carryBegun s e next).enter _
  · exact onlyFeeds_carryBegun s e next

theorem onlyNotices_carryTake : onlyNotices (s.carryBegun e next) (s.carryTake e next turn) := by
  unfold State.carryTake
  split
  · exact (onlyNotices.refl _).enter _
  · exact onlyNotices.refl _

theorem stateNoticed_carryTake : stateNoticed s (s.carryTake e next turn) := by
  have hbegun : stateNoticed s (s.carryBegun e next) := stateNoticed_of_same (by
    simp [State.carryBegun, State.limitBudget, State.takeEntry_fi, State.budgetBack])
  unfold State.carryTake
  split
  · exact hbegun.enter _
  · exact hbegun

theorem State.carryTake_rest : (s.carryTake e next turn).fi.demand =
      (s.carryBegun e next).fi.demand ∧
    (s.carryTake e next turn).cq = { s.cq with entries := s.cq.entries.tail } := by
  have hcq : (s.carryBegun e next).cq = { s.cq with entries := s.cq.entries.tail } := by
    simp [State.carryBegun, State.takeEntry_cq, State.budgetBack]
  unfold State.carryTake
  split
  · rw [State.enter_fi, State.enter_cq, hcq]
    exact ⟨rfl, rfl⟩
  · exact ⟨rfl, hcq⟩

theorem demandNoticed_carryTake : demandNoticed s (s.carryTake e next turn) := by
  have hbegun : demandNoticed s (s.carryBegun e next) :=
    demandNoticed_takeEntry (s.budgetBack e) next
  exact hbegun.mono (onlyNotices_carryTake s e next turn) (s.carryTake_rest e next turn).1

theorem refillNoticed_carryTake : refillNoticed s (s.carryTake e next turn) := by
  have hbegun : refillNoticed s (s.carryBegun e next) :=
    refillNoticed_takeEntry (s.budgetBack e) next
  refine hbegun.mono (onlyNotices_carryTake s e next turn) ?_
  rw [(s.carryTake_rest e next turn).2]
  simp [State.carryBegun, State.takeEntry_cq, State.budgetBack]

/-- FI at the take, in the state it carries on in. -/
theorem State.carryTake_fi {c : Contour} (hc : s.fi.contour = some c)
    (hstill : (s.fi.st.carriedBy turn).still = false) : (s.carryTake e next turn).fi = { s.fi with
      st := s.fi.st.carriedBy turn, active := some next, done := 0
      heading := next.entryHeading.getD s.fi.heading
      budget := min (s.fi.budget + (s.fi.done - e.length)) (biteOf c.grade next)
      demand := s.demandOf s.fi.contour s.cq.entries.tail } := by
  have hfi : (s.carryBegun e next).fi = { s.fi with
      active := some next, done := 0, heading := next.entryHeading.getD s.fi.heading
      budget := min (s.fi.budget + (s.fi.done - e.length)) (biteOf c.grade next)
      demand := s.demandOf s.fi.contour s.cq.entries.tail } :=
    State.takeEntry_limitBudget_fi (s := s.budgetBack e) hc
  unfold State.carryTake
  cases turn with
  | true =>
    have hcrawl : s.fi.st.crawling.still = false := hstill
    rw [if_pos rfl, State.enter_fi, hfi]
    simp only [hcrawl]
    rfl
  | false =>
    rw [if_neg Bool.false_ne_true, hfi]
    rfl

end Take

/-! ### The excess carried (R68, log 12) -/

/-- The advance of this expiry that lies past the entry's end. -/
def State.excess (s : State) (e : Entry) : Nat := s.fi.done + (s.motionOn e).whole - e.length

/-- The budget the next entry begins with (R68). -/
def State.granted (s : State) (c : Contour) (e next : Entry) : Nat :=
  min (s.fi.budget - (s.motionOn e).whole + s.excess e) (biteOf c.grade next)

/-- The distance carried into the next entry. -/
def State.carried (s : State) (c : Contour) (e next : Entry) : Nat :=
  min (s.excess e) (s.granted c e next)

/-- The advance of this expiry as it then stands. -/
def State.carryWhole (s : State) (c : Contour) (e next : Entry) : Nat :=
  (s.motionOn e).whole - (s.excess e - s.carried c e next)

/-- A speed under the cap of the next entry, outside the quick stop (R65, R68, R93). -/
def State.lowered (s : State) (st : FiState) (next : Entry) (v : Nat) : Nat :=
  if s.fi.st.isFault then v else min v (s.capFor st (some next))

/-- FI behind a carry end, before the commit (R68, R73, R93). -/
def State.carriedFi (s : State) (c : Contour) (e next : Entry) (rest : List Entry) (st : FiState) :
    Interpolator :=
  { s.fi with
    st := st
    v := if s.carried c e next < s.excess e then
        s.lowered st next (s.carryWhole c e next * 1000)
      else s.lowered st next (s.motionOn e).v
    rem := if s.carried c e next < s.excess e then 0 else (s.motionOn e).rem
    budget := s.granted c e next - s.carried c e next
    active := some next
    done := s.carried c e next
    heading := next.entryHeading.getD s.fi.heading
    demand := s.demandOf s.fi.contour rest }

/-- The new cap on the next entry, with what it reads unchanged (R65). -/
theorem State.applyCap_lowered {s u : State} {next : Entry}
    (hcap : u.fi.st.capped = !s.fi.st.isFault) (hactive : u.fi.active = some next)
    (hgt : u.gt = s.gt) (ho : u.hj.override = s.hj.override) (hc : u.fi.contour = s.fi.contour)
    (hp : u.sd.period = s.sd.period) : u.applyCap =
      { u with fi := { u.fi with v := s.lowered u.fi.st next u.fi.v } } := by
  rw [State.applyCap_eq, State.cappedSpeed, State.lowered, hactive,
    State.capFor_congr hgt ho hc hp, hcap]
  cases s.fi.st.isFault <;> rfl

/-- The new cap, and the excess carried as far as the budget allows (R68). -/
def State.carryOver (u : State) (excess whole : Nat) : State × Nat :=
  let s2 := u.applyCap
  let carried := min excess s2.fi.budget
  let s3 : State := { s2 with fi := { s2.fi with done := carried,
                                                 budget := s2.fi.budget - carried } }
  if carried < excess then
    let w := whole - (excess - carried)
    (({ s3 with fi := { s3.fi with v := w * 1000, rem := 0 } } : State).applyCap, w)
  else (s3, whole)

theorem State.carryEnd_over (s : State) (e next : Entry) (turn : Bool) (whole : Nat) :
    s.carryEnd e next turn whole =
      (s.carryTake e next turn).carryOver (s.fi.done - e.length) whole := rfl

/-- The carry in one formula, with the cap as a bound on v. -/
theorem State.carryOver_eq {u : State} {lower : Nat → Nat} {excess whole : Nat}
    (hlower : ∀ f : Interpolator, f.st = u.fi.st → f.active = u.fi.active →
      f.contour = u.fi.contour → State.applyCap { u with fi := f } =
        { u with fi := { f with v := lower f.v } }) : u.carryOver excess whole =
      (let carried := min excess u.fi.budget
       ({ u with fi := { u.fi with
          v := if carried < excess then lower ((whole - (excess - carried)) * 1000)
            else lower u.fi.v
          rem := if carried < excess then 0 else u.fi.rem
          budget := u.fi.budget - carried
          done := carried } }, whole - (excess - carried))) := by
  have hcapped : u.applyCap = { u with fi := { u.fi with v := lower u.fi.v } } :=
    hlower u.fi rfl rfl rfl
  unfold State.carryOver
  rw [hcapped]
  dsimp only
  by_cases hless : min excess u.fi.budget < excess
  · simp only [if_pos hless]
    exact congrArg (·, _) (hlower { u.fi with
      done := min excess u.fi.budget, budget := u.fi.budget - min excess u.fi.budget
      v := (whole - (excess - min excess u.fi.budget)) * 1000, rem := 0 } rfl rfl rfl)
  · have hall : excess - min excess u.fi.budget = 0 := by omega
    simp only [if_neg hless, hall, Nat.sub_zero]

/-- A carry end is the take of the next entry with FI carried. -/
theorem State.carryEnd_eq {s : State} {c : Contour} {e next : Entry} {rest : List Entry}
    (hpath : s.onPath) (hactive : s.fi.active = some e) (hopen : e.kind ≠ .opening)
    (hcut : e.isCut = true) (hc : s.fi.contour = some c) (hq : s.cq.entries = next :: rest)
    (turn : Bool) : s.advance.1.carryEnd e next turn s.advance.2 =
      ({ s.advance.1.carryTake e next turn with
          fi := s.carriedFi c e next rest (s.fi.st.carriedBy turn) }, s.carryWhole c e next) := by
  set u := s.advance.1.carryTake e next turn with hu
  set st := s.fi.st.carriedBy turn with hst
  obtain ⟨hstill, hcap⟩ := FiState.carriedBy_facts hpath turn
  have hadv := State.advance_eq hactive hopen
  have hexcess : s.advance.1.fi.done - e.length = s.excess e := by rw [hadv]; rfl
  have hfi : u.fi = { s.fi with
      st := st, v := (s.motionOn e).v, rem := (s.motionOn e).rem, active := some next, done := 0
      heading := next.entryHeading.getD s.fi.heading, budget := s.granted c e next
      demand := s.demandOf s.fi.contour rest } := by
    have h := State.carryTake_fi s.advance.1 e next turn (c := c) (by rw [hadv]; exact hc)
      (by rw [hadv]; exact hstill)
    rw [← hu, hexcess, hadv] at h
    simp only [hcut, if_true, hq] at h
    exact h
  have hfeeds : onlyFeeds s u := by
    have hadvanced : onlyFeeds s s.advance.1 := by
      rw [hadv]
      exact (onlyFeeds.refl s).withFi _
    exact hadvanced.trans (onlyFeeds_carryTake _ e next turn)
  have hlower (f : Interpolator) (hf : f.st = st ∧ f.active = some next ∧ f.contour = s.fi.contour) :
      State.applyCap { u with fi := f } =
        { u with fi := { f with v := s.lowered st next f.v } } := by
    obtain ⟨hfst, hfactive, hfcontour⟩ := hf
    have hwith : onlyFeeds s { u with fi := f } := hfeeds.withFi f
    rw [← hfst]
    exact State.applyCap_lowered (u := { u with fi := f }) (by rw [← hcap, ← hst, ← hfst]) hfactive
      (hwith.frame .gt (by simp)) (by rw [hwith.hj_eq]) hfcontour (by rw [hwith.sd_eq])
  have hwhole : s.advance.2 = (s.motionOn e).whole := by rw [hadv]
  rw [State.carryEnd_over, ← hu, State.carryOver_eq (lower := s.lowered st next) fun f h1 h2 h3 =>
    hlower f ⟨h1.trans (by rw [hfi]), h2.trans (by rw [hfi]), h3.trans (by rw [hfi])⟩]
  rw [hexcess, hwhole, hfi]
  rfl

end Sys2Proof.Machine
end

section
/-! SUPPORT. The expiry at a carry end (R68, R69, R73, R87, R93). -/

namespace Sys2Proof.Machine

/-! ### The carry under the tick -/

section Tick

variable (s : State) (c : Contour) (e next : Entry)

theorem State.excess_tick : s.tick.excess e = s.excess e := by
  simp only [State.excess, State.motionOn_tick, State.tick_fi]

theorem State.granted_tick : s.tick.granted c e next = s.granted c e next := by
  simp only [State.granted, State.excess_tick, State.motionOn_tick, State.tick_fi]

theorem State.carried_tick : s.tick.carried c e next = s.carried c e next := by
  simp only [State.carried, State.excess_tick, State.granted_tick]

theorem State.carryWhole_tick : s.tick.carryWhole c e next = s.carryWhole c e next := by
  simp only [State.carryWhole, State.carried_tick, State.excess_tick, State.motionOn_tick]

theorem State.lowered_tick (st : FiState) (v : Nat) :
    s.tick.lowered st next v = s.lowered st next v := by
  have hcap : s.tick.capFor st (some next) = s.capFor st (some next) :=
    State.capFor_congr s.tick_gt (by rw [s.tick_hj]) (by rw [s.tick_fi]) s.tick_period _ _
  rw [State.lowered, State.lowered, hcap, s.tick_fi]

theorem State.carriedFi_tick (rest : List Entry) (st : FiState) :
    s.tick.carriedFi c e next rest st = s.carriedFi c e next rest st := by
  simp only [State.carriedFi, State.lowered_tick, State.carryWhole_tick, State.carried_tick,
    State.granted_tick, State.excess_tick, State.motionOn_tick, State.demandOf, State.tick_fi, State.tick_gt,
    State.tick_hj]

/-- The state behind a carry end, after the tick. -/
def State.carryWork (rest : List Entry) (turn : Bool) : State :=
  { s.tick.advance.1.carryTake e next turn with
    fi := s.carriedFi c e next rest (s.fi.st.carriedBy turn) }

end Tick

theorem State.onPath_tick {s : State} (hpath : s.onPath) : s.tick.onPath := by
  rwa [State.onPath, s.tick_fi, s.tick_hj]

section Work

variable {s : State} {c : Contour} {e next : Entry} {rest : List Entry}
  (hactive : s.fi.active = some e) (hopen : e.kind ≠ .opening)

include hactive hopen

theorem State.advance_tick_fi : s.tick.advance.1 = { s.tick with fi := s.tick.advance.1.fi } := by
  rw [State.advance_eq (e := e) (by rwa [s.tick_fi]) hopen]

theorem onlyFeeds_carryWork (turn : Bool) : onlyFeeds s.tick (s.carryWork c e next rest turn) := by
  have hadvanced : onlyFeeds s.tick s.tick.advance.1 := by
    rw [State.advance_tick_fi hactive hopen]
    exact (onlyFeeds.refl _).withFi _
  exact (hadvanced.trans (onlyFeeds_carryTake _ e next turn)).withFi _

theorem State.carryWork_cq (hq : s.cq.entries = next :: rest) (turn : Bool) :
    (s.carryWork c e next rest turn).cq = { s.cq with entries := rest } := by
  have h := (s.tick.advance.1.carryTake_rest e next turn).2
  rw [State.advance_tick_fi hactive hopen] at h
  rw [State.carryWork, State.advance_tick_fi hactive hopen]
  refine h.trans ?_
  simp [hq]

end Work

/-- The expiry's motion takes the carry end, and the same rule meets what is behind it (R68). -/
theorem State.move_carry_tick {s : State} {c : Contour} {e next : Entry} {rest : List Entry}
    {turn : Bool} (hpath : s.onPath) (hactive : s.fi.active = some e) (hopen : e.kind ≠ .opening)
    (hend : e.length ≤ s.fi.done + (s.motionOn e).whole) (hcut : e.isCut = true)
    (hc : s.fi.contour = some c) (hq : s.cq.entries = next :: rest)
    (hcarry : s.carryNext e = some (next, turn)) :
    s.tick.move = State.runEnds (rest.length + 1) (s.carryWork c e next rest turn)
      (s.carryWhole c e next) := by
  have hactive' : s.tick.fi.active = some e := by rwa [s.tick_fi]
  have hadv := State.advance_eq hactive' hopen
  have hcarry' : s.tick.advance.1.carryNext e = some (next, turn) := by
    rw [State.carryNext_advance hactive' hopen, ← hcarry, State.carryNext, State.carryNext, s.tick_fi,
      s.tick_cq]
  have hadvanced : s.tick.advance.1.fi.active = some e := by rw [hadv]; exact hactive'
  have hpast : ¬ s.tick.advance.1.fi.done < e.length := by
    rw [hadv]
    simpa [State.motionOn_tick, s.tick_fi] using hend
  have heq := State.carryEnd_eq (c := c) (State.onPath_tick hpath) hactive' hopen hcut
    (by rwa [s.tick_fi]) (by rwa [s.tick_cq]) turn
  rw [State.carriedFi_tick, State.carryWhole_tick, s.tick_fi] at heq
  rw [State.move, State.runEnds, hadvanced]
  dsimp only
  rw [if_neg hpast, hcarry']
  dsimp only
  rw [heq, s.tick_cq, hq]
  rfl

/-! ### The commit behind a carry end (R69) -/

/-- FI behind a carry end whose commit lies inside the next entry (R69). -/
def State.carryMoved (s : State) (c : Contour) (e next : Entry) (rest : List Entry)
    (st : FiState) : Interpolator :=
  let heading := pathHeading next (s.carried c e next) s.fi.heading
  { s.carriedFi c e next rest st with
    x := (s.pathPoint next (s.carried c e next)).x, y := (s.pathPoint next (s.carried c e next)).y
    heading := heading, h := s.commandedH st heading }

/-- The path heading of an entry does not depend on the heading it replaces, but for an OPEN. -/
theorem pathHeading_taken (e : Entry) (d old : Nat) :
    pathHeading e d (e.entryHeading.getD old) = pathHeading e d old := by
  obtain ⟨_, _, _, _, body⟩ := e
  cases body <;> rfl

/-- An excess inside the next entry is committed there. -/
theorem State.runEnds_carryWork {s : State} {c : Contour} {e next : Entry} {rest : List Entry}
    {turn : Bool} (hactive : s.fi.active = some e) (hopen : e.kind ≠ .opening)
    (hinside : s.carried c e next < next.length) (fuel whole : Nat) :
    State.runEnds (fuel + 1) (s.carryWork c e next rest turn) whole =
      { s.carryWork c e next rest turn with
        fi := s.carryMoved c e next rest (s.fi.st.carriedBy turn) } := by
  set w := s.carryWork c e next rest turn with hw
  have hgt : w.gt = s.gt := (onlyFeeds_carryWork hactive hopen turn).handsOff.gt
  have hfi : w.fi = s.carriedFi c e next rest (s.fi.st.carriedBy turn) := rfl
  have hrun : State.runEnds (fuel + 1) w whole = w.commit next := by
    have hnext : w.fi.active = some next := rfl
    rw [State.runEnds, hnext]
    exact if_pos hinside
  have hpoint : w.pathPoint next w.fi.done = s.pathPoint next (s.carried c e next) := by
    simp only [State.pathPoint, hgt, hfi, State.carriedFi]
  have hheading : pathHeading next w.fi.done w.fi.heading =
      pathHeading next (s.carried c e next) s.fi.heading := pathHeading_taken ..
  have hcommanded (heading : Nat) : w.commandedH w.fi.st heading =
      s.commandedH (s.fi.st.carriedBy turn) heading := rfl
  rw [hrun, State.commit, State.commitAt, State.pointAt_eq, headingAt_eq, ← State.commandedH_eq,
    hpoint, hheading, hcommanded, State.carryMoved, ← hfi]

end Sys2Proof.Machine
end

section
/-! SUPPORT. The expiry that carries into the next entry, by what FI does with the speed it is left with
(R69, R87, R93, R94). -/

namespace Sys2Proof.Machine

/-! ### The notices of a carry end -/

/-- The state behind a carry end with FI moved on, after the tick. -/
def State.carryInto (s : State) (c : Contour) (e next : Entry) (rest : List Entry) (turn : Bool) :
    State :=
  { s.carryWork c e next rest turn with
    fi := s.carryMoved c e next rest (s.fi.st.carriedBy turn) }

section Into

variable {s : State} {c : Contour} {e next : Entry} {rest : List Entry} (turn : Bool)
  (hpath : s.onPath) (hactive : s.fi.active = some e) (hopen : e.kind ≠ .opening)
  (hc : s.fi.contour = some c) (hq : s.cq.entries = next :: rest)

include hactive hopen

theorem onlyFeeds_carryInto : onlyFeeds s.tick (s.carryInto c e next rest turn) :=
  (onlyFeeds_carryWork hactive hopen turn).withFi _

theorem State.carryInto_cq (hq : s.cq.entries = next :: rest) :
    (s.carryInto c e next rest turn).cq = { s.cq with entries := rest } :=
  State.carryWork_cq (c := c) hactive hopen hq turn

include hpath hc hq

/-- The take gives FI the state and D it keeps to the end of the expiry. -/
theorem State.carryTake_kept :
    (s.tick.advance.1.carryTake e next turn).fi.st = s.fi.st.carriedBy turn ∧
      (s.tick.advance.1.carryTake e next turn).fi.demand = s.demandOf s.fi.contour rest := by
  have hadv : s.tick.advance.1.fi.st = s.fi.st ∧ s.tick.advance.1.fi.contour = s.fi.contour := by
    rw [State.advance_eq (e := e) (by rwa [s.tick_fi]) hopen, s.tick_fi]
    exact ⟨rfl, rfl⟩
  obtain ⟨hst, hcontour⟩ := hadv
  have hfi := State.carryTake_fi s.tick.advance.1 e next turn (c := c) (by rw [hcontour, hc])
    (by rw [hst]; exact (FiState.carriedBy_facts hpath turn).1)
  rw [hfi, hst, hcontour, State.advance_tick_fi hactive hopen]
  simp [State.demandOf, hq]

theorem stateNoticed_carryInto : stateNoticed s.tick (s.carryInto c e next rest turn) := by
  have h := stateNoticed_carryTake s.tick.advance.1 e next turn
  obtain ⟨hst, -⟩ := State.carryTake_kept turn hpath hactive hopen hc hq
  rw [stateNoticed, hst] at h
  exact h

theorem demandNoticed_carryInto : demandNoticed s.tick (s.carryInto c e next rest turn) := by
  have h := demandNoticed_carryTake s.tick.advance.1 e next turn
  obtain ⟨-, hd⟩ := State.carryTake_kept turn hpath hactive hopen hc hq
  rw [demandNoticed, hd] at h
  exact h

omit hpath hc in
theorem refill_carryInto (hlevel : rest.length = s.cq.refill) :
    ((s.carryInto c e next rest turn).port .job).notices.has .refill = true := by
  have h := refillNoticed_carryTake s.tick.advance.1 e next turn
  have hcq : (s.tick.advance.1.carryTake e next turn).cq = { s.cq with entries := rest } :=
    State.carryWork_cq (c := c) hactive hopen hq turn
  have hbefore : s.tick.advance.1.cq = s.cq := s.tick_cq
  rw [refillNoticed, hcq, hbefore] at h
  exact h (by simp [hq]) hlevel

end Into

/-! ### The hand-off of every expiry along a path (R69, R141, R145) -/

theorem State.onPath_moving {s : State} (hpath : s.onPath) : s.fi.st.still = false := by
  rcases hpath with hst | hst | hst | ⟨r, hst⟩ | ⟨⟨m, hst⟩, -⟩ <;> rw [hst] <;> rfl

/-- The motion leaves FI out of FAULT STOPPED. -/
theorem State.move_ne_stopped {s : State} (hpath : s.onPath) : s.tick.move.fi.st ≠ .stopped :=
  ((FiState.powered_iff _).mp
    (goesOn.move (s := s.tick) (by rw [s.tick_fi]; exact State.onPath_moving hpath)).powered).2

theorem State.tick_permit (s : State) : s.tick.sv.permit = s.sv.permit := by
  unfold State.tick State.tickStop
  split <;> rfl

theorem handsOff_move (s : State) : handsOff s s.tick.move :=
  ⟨by simp, by simp, by simp⟩

/-- Every expiry along a path hands the position over; the end of the quick stop then discards it. -/
theorem expiry_handed {s : State} {e : Entry} (hclk : s.pins.clkin = true) (hpath : s.onPath)
    (hactive : s.fi.active = some e) : ∃ t, exec .feedPeriodExpiry s = .next t ∧
      t.ap = if t.fi.st = .stopped then (s.handedTo t.fi).fallen s.sv.permit
        else s.handedTo t.fi := by
  set w := s.tick.move with hw
  have hap : w.handOff.ap = s.handedTo w.fi := (handsOff_move s).handOff_ap
  have hon : w.fi.st ≠ .stopped := State.move_ne_stopped hpath
  have hgoes : w.handOff.tickWindow.ap = if w.handOff.tickWindow.fi.st = .stopped
      then (s.handedTo w.handOff.tickWindow.fi).fallen s.sv.permit
      else s.handedTo w.handOff.tickWindow.fi := by
    rw [State.tickWindow_ap, State.tickWindow_fi, State.handOff_fi, if_neg hon, hap]
  have hmoves (h : s.fi.st = .traversing ∨ s.fi.st = .cutNormal ∨ s.fi.st = .cutCrawl) :
      exec .feedPeriodExpiry s = .next w.handOff.tickWindow := by
    rw [exec_feedPeriodExpiry hclk, State.feedWork_moving (by rwa [s.tick_fi])]
  rcases hpath with hst | hst | hst | ⟨r, hst⟩ | ⟨⟨m, hst⟩, hphase⟩
  · exact ⟨_, hmoves (.inl hst), hgoes⟩
  · exact ⟨_, hmoves (.inr (.inl hst)), hgoes⟩
  · exact ⟨_, hmoves (.inr (.inr hst)), hgoes⟩
  · by_cases hheld : ∃ r', w.fi.st = .holding r' ∧ w.fi.v = 0
    · obtain ⟨r', hr, hv⟩ := hheld
      refine ⟨_, exec_expiry_held hclk hst hr hv, ?_⟩
      rw [State.tickWindow_ap, State.tickWindow_fi, State.enter_ap, hap, State.enter_fi,
        if_neg (by simp)]
      exact s.handedTo_congr rfl rfl rfl
    · exact ⟨_, exec_expiry_running hclk (.inr (.inr (.inr (.inl ⟨r, hst⟩)))) (by simp [hst])
        fun r' hr hv => hheld ⟨r', hr, hv⟩, hgoes⟩
  · refine ⟨_, exec_expiry_quickStop hclk hst hphase hactive, ?_⟩
    by_cases hv : w.fi.v = 0
    · rw [if_pos hv, State.tickWindow_ap, State.tickWindow_fi, State.endStop_fi, if_pos rfl,
        State.handOff_fi]
      obtain ⟨-, -, -, -, -, hfallen, -⟩ := stoppedFrom_endStop w.handOff
      have hpermit : w.handOff.sv.permit = s.sv.permit := by
        rw [State.handOff_sv, (handsOff_move s).sv]
        exact s.tick_permit
      rw [hfallen, hap, hpermit]
      rfl
    · rw [if_neg hv]
      exact hgoes

/-! ### The expiry behind a carry end -/

theorem FiState.carriedBy_holding {st : FiState} {turn : Bool} {r : Resume}
    (h : st.carriedBy turn = .holding r) : ∃ r', st = .holding r' := by
  cases st with
  | holding r' => exact ⟨r', rfl⟩
  | stopping m => cases turn <;> cases m <;> cases h
  | _ => cases turn <;> cases h

section Expiry

variable {s : State} {c : Contour} {e next : Entry} {rest : List Entry} {turn : Bool}
  (hclk : s.pins.clkin = true) (hpath : s.onPath) (hactive : s.fi.active = some e)
  (hopen : e.kind ≠ .opening) (hc : s.fi.contour = some c) (hq : s.cq.entries = next :: rest)

include hactive hopen

section Goes

include hpath hc hq

/-- FI moves on into the next entry: the expiry is the motion and the hand-off. -/
theorem carryInto_goes :
    let t := (s.carryInto c e next rest turn).handOff.tickWindow
    handedOff s t ∧ t.fi = s.carryMoved c e next rest (s.fi.st.carriedBy turn) ∧
      t.cq = { s.cq with entries := rest } ∧ stateNoticed s t ∧ demandNoticed s t ∧
      keptBut [.cq, .fi, .ap, .notices] s.ticked t := by
  intro t
  obtain ⟨hhanded, hkept⟩ := (onlyFeeds_carryInto (c := c) (rest := rest) turn hactive hopen).expiry
  refine ⟨hhanded, ?_, ?_, ?_, ?_, hkept⟩
  · rw [State.tickWindow_fi, State.handOff_fi]
    rfl
  · rw [State.tickWindow_cq, State.handOff_cq, State.carryInto_cq turn hactive hopen hq]
  · exact (stateNoticed_carryInto turn hpath hactive hopen hc hq).of_tick
  · exact (demandNoticed_carryInto turn hpath hactive hopen hc hq).of_tick

/-- HOLDING with v 0 is HELD in the next entry (R87). -/
theorem carryInto_held {r : Resume}
    (hv : (s.carryMoved c e next rest (s.fi.st.carriedBy turn)).v = 0) :
    let t := ((s.carryInto c e next rest turn).handOff.enter (.held r)).tickWindow
    handedOff s t ∧
      t.fi = { s.carryMoved c e next rest (s.fi.st.carriedBy turn) with st := .held r } ∧
      t.cq = { s.cq with entries := rest } ∧ stateNoticed s t ∧
      keptBut [.cq, .fi, .ap, .notices] s.ticked t := by
  intro t
  set w := s.carryInto c e next rest turn with hw
  have hfeeds : onlyFeeds s.tick w := onlyFeeds_carryInto turn hactive hopen
  have hfi : (w.handOff.enter (.held r)).fi =
      { s.carryMoved c e next rest (s.fi.st.carriedBy turn) with st := .held r } := by
    rw [State.enter_fi, State.handOff_fi, ← hv]
    rfl
  refine ⟨?_, ?_, ?_, ?_, ?_⟩
  · rw [handedOff, State.tickWindow_ap, State.tickWindow_fi, State.enter_ap,
      hfeeds.handsOff.handOff_ap, hfi]
    exact s.handedTo_congr rfl rfl rfl
  · rw [State.tickWindow_fi, hfi]
  · rw [State.tickWindow_cq, State.enter_cq, State.handOff_cq,
      State.carryInto_cq turn hactive hopen hq]
  · have hnoticed : stateNoticed s.tick w.handOff :=
      stateNoticed_carryInto turn hpath hactive hopen hc hq
    have hentered := hnoticed.enter (.held r)
    simpa [t, stateNoticed] using hentered
  · refine keptBut.tickWindow (keptBut_of_onlyNotices (onlyNotices.enter (s := w.handOff)
      hfeeds.only _) (passesKept.enter (s := w.handOff) hfeeds.passes _) fun b hb hports => ?_)
    have hsame := hfeeds.frame b (by simp_all)
    cases b <;> simp_all [Block.same]

/-- The quick stop ends in the next entry (R94). -/
theorem carryInto_stops :
    let t := (s.carryInto c e next rest turn).handOff.endStop.tickWindow
    stoppedAt s t (s.carryMoved c e next rest (s.fi.st.carriedBy turn))
        { s.cq with entries := rest } ∧
      demandNoticed s t ∧ keptBut [.cq, .fi, .sd, .hj, .ap, .sv, .notices] s.ticked t := by
  intro t
  set w := s.carryInto c e next rest turn with hw
  have hfeeds : onlyFeeds s.tick w := onlyFeeds_carryInto turn hactive hopen
  have hstopped := stoppedAt_of_handsOff hfeeds.handsOff hfeeds.sd_eq (hfeeds.hj_eq.trans s.tick_hj)
  rw [State.carryInto_cq turn hactive hopen hq] at hstopped
  refine ⟨hstopped, ?_, keptBut_endStop_expiry hfeeds.only hfeeds.passes fun b hb hports =>
    hfeeds.frame b (by simp_all)⟩
  obtain ⟨-, -, -, -, -, -, -, hdemand, -⟩ := stoppedFrom_endStop w.handOff
  have hnoticed : demandNoticed s.tick w.handOff :=
    demandNoticed_carryInto turn hpath hactive hopen hc hq
  have hboth := hnoticed.trans hdemand ((onlyNotices.refl _).endStop)
  simpa [t, demandNoticed] using hboth

end Goes

/-! ### The carry end of the rules -/

include hclk hpath hc hq

/-- Where the excess lies inside the next entry: FI goes on, is HELD, or ends the quick stop. -/
theorem exec_carryInto (hend : e.length ≤ s.fi.done + (s.motionOn e).whole)
    (hcut : e.isCut = true) (hcarry : s.carryNext e = some (next, turn))
    (hinside : s.carried c e next < next.length) :
    let st := s.fi.st.carriedBy turn
    let v := (s.carryMoved c e next rest st).v
    let w := s.carryInto c e next rest turn
    (v ≠ 0 ∨ (∀ r, st ≠ .holding r) ∧ (∀ m, s.fi.st ≠ .stopping m) →
      exec .feedPeriodExpiry s = .next w.handOff.tickWindow) ∧
    (∀ r, v = 0 → st = .holding r →
      exec .feedPeriodExpiry s = .next (w.handOff.enter (.held r)).tickWindow) ∧
    (∀ m, v = 0 → s.fi.st = .stopping m →
      exec .feedPeriodExpiry s = .next w.handOff.endStop.tickWindow) := by
  intro st v w
  have hmove : s.tick.move = w := by
    rw [State.move_carry_tick hpath hactive hopen hend hcut hc hq hcarry,
      State.runEnds_carryWork hactive hopen hinside]
    rfl
  have hv : s.tick.move.fi.v = v := by rw [hmove]; rfl
  have hst : s.tick.move.fi.st = st := by rw [hmove]; rfl
  refine ⟨fun hgoes => ?_, fun r hzero hholding => ?_, fun m hzero hm => ?_⟩
  · rw [← hmove]
    by_cases hstop : ∃ m, s.fi.st = .stopping m
    · obtain ⟨m, hm⟩ := hstop
      have hmoving : v ≠ 0 := hgoes.resolve_right fun h => h.2 m hm
      rw [exec_expiry_quickStop hclk hm (State.onPath_stopping hpath hm) hactive,
        if_neg (by rwa [hv])]
    · refine exec_expiry_running hclk hpath (not_exists.mp hstop) fun r hholding => ?_
      rw [hv]
      exact hgoes.resolve_right fun h => h.1 r (hst.symm.trans hholding)
  · obtain ⟨r', hfrom⟩ := FiState.carriedBy_holding hholding
    rw [← hmove]
    exact exec_expiry_held hclk hfrom (hst.trans hholding) (hv.trans hzero)
  · rw [exec_expiry_quickStop hclk hm (State.onPath_stopping hpath hm) hactive,
      if_pos (hv.trans hzero), hmove]

/-- The carry end whose excess lies inside the next entry (R68, R69, R73, R87, R93, R94). -/
theorem carryEnd_inside (hend : e.length ≤ s.fi.done + (s.motionOn e).whole)
    (hcut : e.isCut = true) (hcarry : s.carryNext e = some (next, turn))
    (hinside : s.carried c e next < next.length) :
    let st := s.fi.st.carriedBy turn
    let moved := s.carryMoved c e next rest st
    ∃ t, exec .feedPeriodExpiry s = .next t ∧
      ((∀ m, s.fi.st = .stopping m → moved.v ≠ 0) → handedOff s t) ∧
      (rest.length = s.cq.refill → (t.port .job).notices.has .refill = true) ∧
      (moved.v ≠ 0 ∨ s.fi.st = .cutNormal ∨ s.fi.st = .cutCrawl ∨ s.fi.st = .traversing →
        t.fi = moved ∧ t.cq = { s.cq with entries := rest } ∧ stateNoticed s t ∧
          demandNoticed s t ∧ keptBut [.cq, .fi, .ap, .notices] s.ticked t) ∧
      (∀ r, moved.v = 0 → st = .holding r →
        t.fi = { moved with st := .held r } ∧ t.cq = { s.cq with entries := rest } ∧
          stateNoticed s t ∧ keptBut [.cq, .fi, .ap, .notices] s.ticked t) ∧
      (∀ m, moved.v = 0 → s.fi.st = .stopping m →
        stoppedAt s t moved { s.cq with entries := rest } ∧ demandNoticed s t ∧
          keptBut [.cq, .fi, .sd, .hj, .ap, .sv, .notices] s.ticked t) := by
  intro st moved
  obtain ⟨hgo, hheld, hstopped⟩ :=
    exec_carryInto (rest := rest) hclk hpath hactive hopen hc hq hend hcut hcarry hinside
  set w := s.carryInto c e next rest turn with hw
  have hrefill (t : State) (ho : onlyNotices w t) (hlevel : rest.length = s.cq.refill) :
      (t.tickWindow.port .job).notices.has .refill = true := by
    rw [State.tickWindow_port]
    exact ho.2.2 _ _ (refill_carryInto turn hactive hopen hq hlevel)
  have honly : onlyNotices w w.handOff := onlyNotices.refl w
  by_cases hstop : moved.v = 0 ∧ ∃ m, s.fi.st = .stopping m
  · obtain ⟨hzero, m, hm⟩ := hstop
    have hnot : ∀ r, st ≠ .holding r := by
      intro r hr
      obtain ⟨r', hr'⟩ := FiState.carriedBy_holding hr
      simp [hm] at hr'
    exact ⟨_, hstopped m hzero hm, fun h => absurd hzero (h m hm), hrefill _ honly.endStop,
      fun h => absurd hzero (h.resolve_right (by simp [hm])), fun r _ hr => absurd hr (hnot r),
      fun _ _ _ => carryInto_stops hpath hactive hopen hc hq⟩
  by_cases hhold : moved.v = 0 ∧ ∃ r, st = .holding r
  · obtain ⟨hzero, r, hr⟩ := hhold
    obtain ⟨r', hfrom⟩ := FiState.carriedBy_holding hr
    obtain ⟨hhanded, hrest⟩ := carryInto_held (r := r) hpath hactive hopen hc hq hzero
    refine ⟨_, hheld r hzero hr, fun _ => hhanded, hrefill _ (honly.enter _),
      fun h => absurd hzero (h.resolve_right (by simp [hfrom])), fun r' _ hr' => ?_,
      fun m _ hm => absurd ⟨hzero, m, hm⟩ hstop⟩
    obtain rfl : r = r' := by simpa using hr.symm.trans hr'
    exact hrest
  · have hgoes : moved.v ≠ 0 ∨ (∀ r, st ≠ .holding r) ∧ ∀ m, s.fi.st ≠ .stopping m := by
      by_cases hzero : moved.v = 0
      · exact .inr ⟨fun r hr => hhold ⟨hzero, r, hr⟩, fun m hm => hstop ⟨hzero, m, hm⟩⟩
      · exact .inl hzero
    obtain ⟨hhanded, hrest⟩ := carryInto_goes (turn := turn) hpath hactive hopen hc hq
    exact ⟨_, hgo hgoes, fun _ => hhanded, hrefill _ honly, fun _ => hrest,
      fun r hzero hr => absurd ⟨hzero, r, hr⟩ hhold, fun m hzero hm => absurd ⟨hzero, m, hm⟩ hstop⟩

include hpath hactive hopen hclk hc hq in
/-- An excess that reaches the end of the next entry too meets the same rule again (R68, R69). -/
theorem carryEnd_beyond (hend : e.length ≤ s.fi.done + (s.motionOn e).whole)
    (hcut : e.isCut = true) (hcarry : s.carryNext e = some (next, turn)) :
    ∃ u, s.tick.move = u.runEnds (rest.length + 1) (s.carryWhole c e next) ∧
      u.fi = s.carriedFi c e next rest (s.fi.st.carriedBy turn) ∧
      u.cq = { s.cq with entries := rest } ∧ keptBut [.cq, .fi, .notices] s.tick u ∧
      ∃ t, exec .feedPeriodExpiry s = .next t ∧
        t.ap = if t.fi.st = .stopped then (s.handedTo t.fi).fallen s.sv.permit
          else s.handedTo t.fi :=
  ⟨s.carryWork c e next rest turn,
    State.move_carry_tick hpath hactive hopen hend hcut hc hq hcarry, rfl,
    State.carryWork_cq hactive hopen hq turn, (onlyFeeds_carryWork hactive hopen turn).keptBut,
    expiry_handed hclk hpath hactive⟩

end Expiry

end Sys2Proof.Machine
end

section
/-! O37. Every end of an entry at an expiry (R68, R69, R73, R74, R81, R82, R84, R87, R93 to R95). -/

namespace Sys2Proof.Machine

/-- SMOOTH leaves FI's state, TURN enters CRAWL (R68, R73). -/
theorem FiState.carriedBy_class (st : FiState) (smooth : Prop) [Decidable smooth] :
    st.carriedBy (!decide smooth) = if smooth then st else crawlingState st := by
  by_cases h : smooth
  · simp [FiState.carriedBy, h]
  · simp [FiState.carriedBy, h, FiState.crawling_eq]

/-- Settles O37: a stop end is the end point and what follows it, a carry end the take of the next entry
and the excess carried. -/
theorem entryEnds : Obligations.EntryEnds := by
  intro s e hclk hpath hactive hopen hdone a d exit dropped freed running hend
  refine ⟨?_, ?_, ?_, ?_, ?_, ?_⟩
  · intro m hst hstops
    exact stopEnd_quickStop hclk hpath hactive hopen hdone hend (State.carryNext_none hstops) hst
  · exact stopEnd_traverse hclk hpath hactive hopen hdone hend
  · intro c hrunning hmark hc
    exact stopEnd_contour hclk hpath hactive hopen hdone hend hrunning hmark hc
  · exact stopEnd_starve hclk hpath hactive hopen hdone hend
  · intro c next rest angle hrunning hcut hmark hc hq hj hsmooth hpivot
    exact stopEnd_pivot hclk hpath hactive hopen hdone hend hrunning hcut hmark hc hq hj hsmooth hpivot
  · intro c next rest angle hcut hmark hc hq hj hclass st
    have hcarry := State.carryNext_some hcut hmark hc hq hj hclass
    have hst : st = s.fi.st.carriedBy (!decide (angle.natAbs ≤ c.grade.smooth)) :=
      (s.fi.st.carriedBy_class _).symm
    clear_value st
    subst hst
    exact ⟨carryEnd_inside hclk hpath hactive hopen hc hq hend hcut hcarry,
      fun _ => carryEnd_beyond hclk hpath hactive hopen hc hq hend hcut hcarry⟩

end Sys2Proof.Machine
end

section
/-! SUPPORT. The quadrature edges of the crank (R104, R105, R109): which way an edge counts, what a count
leaves at SD, and the INDEX or REVERSAL it reports. -/

namespace Sys2Proof.Machine

/-- A report from the crank: nothing in OFFLINE, a further fault on top of a record, else the first
fault (R105, R109, R152, R155). -/
theorem reportCrank_sensed (s : State) (p : Pins) (d : Decoder) (c : Cause) :
    let t := (s.sensed p d).reportCrank c
    (s.fi.st = .offline → t.sd = d ∧ keptBut [.pins, .sd] s t) ∧
      (s.fi.st ≠ .offline → s.sv.record.isSome = true →
        t.sd = d ∧ furtherFault s t ∧ keptBut [.pins, .sd, .sv] s t) ∧
      (s.fi.st ≠ .offline → s.sv.record = none →
        firstFault s t d c ∧ keptBut [.pins, .cq, .fi, .sd, .hj, .ap, .sv, .notices] s t) := by
  refine ⟨fun hst => ?_, fun hst hr => ?_, fun hst hr => ?_⟩
  · rw [State.reportCrank, if_pos (by exact hst)]
    exact ⟨rfl, keptBut_sensed s p d⟩
  · rw [State.reportCrank, if_neg (by exact hst)]
    exact furtherFault_report s p d c hr
  · rw [State.reportCrank, if_neg (by exact hst)]
    exact ⟨firstFault_report s p d c hr, keptBut_report s p d c⟩

section Counts

variable (s : State) (p : Pins) {d : Decoder}

theorem countForward_counts (hsince : d.sinceIndex ≠ 258) :
    (s.sensed p d).countForward = s.sensed p { d with
      crank := d.crank + 1, sinceIndex := d.sinceIndex + 1, backRun := 0 } := by
  have h : ¬ d.sinceIndex + 1 = 259 := by omega
  exact if_neg h

/-- SD after the count at which an index is missing, with the missing indexes in a row (R109). -/
def Decoder.missed (d : Decoder) (run : Nat) : Decoder :=
  { d with crank := d.crank + 1, sinceIndex := 3, backRun := 0, startPresent := false, clearing := 0,
           missingTally := min 65535 (d.missingTally + 1), missingRun := run }

theorem countForward_misses (hsince : d.sinceIndex = 258) :
    (s.sensed p d).countForward =
      if d.missingRun = 1 then (s.sensed p (d.missed 0)).reportCrank .index
      else s.sensed p (d.missed (d.missingRun + 1)) := by
  have hcount : (s.sensed p d).countForward = (s.sensed p { d with
      crank := d.crank + 1, sinceIndex := d.sinceIndex + 1, backRun := 0 }).missIndex :=
    if_pos (show d.sinceIndex + 1 = 259 by omega)
  have hthree : d.sinceIndex + 1 - 256 = 3 := by omega
  have hrun : d.missingRun + 1 = 2 ↔ d.missingRun = 1 := Nat.succ_inj
  rw [hcount, State.missIndex]
  simp only [State.sensed, hthree, hrun]
  by_cases h : d.missingRun = 1
  · simp only [if_pos h]
    rfl
  · simp only [if_neg h]
    rfl

/-- SD after a back count, with the run of them (R104, R105). -/
def Decoder.countedBack (d : Decoder) (run : Nat) : Decoder :=
  { d with crank := d.crank - 1
           sinceIndex := if d.sinceIndex = -32768 then -32768 else d.sinceIndex - 1
           backRun := run }

theorem countBack_counts :
    (s.sensed p d).countBack =
      if d.backRun = 7 then (s.sensed p (d.countedBack 0)).reportCrank .reversal
      else s.sensed p (d.countedBack (d.backRun + 1)) := by
  have hrun : d.backRun + 1 = 8 ↔ d.backRun = 7 := Nat.succ_inj
  have hsince : (if d.sinceIndex = -32768 then d.sinceIndex else d.sinceIndex - 1) =
      if d.sinceIndex = -32768 then -32768 else d.sinceIndex - 1 := by
    split <;> simp_all
  rw [State.countBack]
  simp only [State.sensed, Decoder.countedBack, ← hsince, hrun]
  by_cases h : d.backRun = 7
  · simp only [if_pos h]
    rfl
  · simp only [if_neg h]
    rfl

end Counts

/-- The direction of R104 by the line that moved, the levels after the edge and the setting. -/
theorem countsForward_eq (onA a b bLeads : Bool) :
    countsForward onA a b bLeads =
      (let aLeadsForward := if onA then decide (a ≠ b) else decide (a = b)
       if bLeads then !aLeadsForward else aLeadsForward) := by
  revert onA a b bLeads
  decide

/-- The pins and SD after the edges of one sample, before they count (R104, R112, R113). -/
theorem crankSample_eq_sensed (s : State) (onA onB : Bool) :
    s.crankSample onA onB = s.sensed (s.crankSample onA onB).pins (s.crankSample onA onB).sd := rfl

/-- An edge on one line counts forward or back (R104). -/
theorem crankEdge_one (s : State) (onA : Bool) :
    s.crankEdge onA (!onA) =
      if countsForward onA (s.crankSample onA (!onA)).sd.ca.filtered
          (s.crankSample onA (!onA)).sd.cb.filtered s.gt.settings.bLeads then
        (s.crankSample onA (!onA)).countForward
      else (s.crankSample onA (!onA)).countBack := by
  cases onA <;> rfl

/-- Settles O42: an edge on one line counts by R104, and the counts report at the second missing index
and the eighth back count. -/
theorem crankEdges : Obligations.CrankEdges := by
  intro s onA hclk a b aLeadsForward forward sampled missing back reports
  have hexec (onB : Bool) (hedge : (onA || onB) = true) :
      exec (.crankEdge onA onB) s = .next (s.crankEdge onA onB) :=
    (clocked_run s _ hclk).trans (by rw [if_pos hedge])
  have hsampled : (s.crankSample onA (!onA)).sd = sampled := by cases onA <;> rfl
  have hforward : countsForward onA (s.crankSample onA (!onA)).sd.ca.filtered
      (s.crankSample onA (!onA)).sd.cb.filtered s.gt.settings.bLeads = forward := by
    rw [hsampled, countsForward_eq]
    cases onA <;> rfl
  obtain ⟨p, hp⟩ : ∃ p, s.crankSample onA (!onA) = s.sensed p sampled :=
    ⟨_, hsampled ▸ crankSample_eq_sensed s onA (!onA)⟩
  rw [hexec _ (by simp), crankEdge_one, hforward, hp]
  refine ⟨fun hf hsince => ?_, fun hf hsince hrun => ?_, fun hf hsince hrun => ?_, fun hf hrun => ?_,
    fun hf hrun => ?_, ?_⟩
  · rw [if_pos hf, countForward_counts s p (d := sampled) hsince]
    exact ⟨_, rfl, rfl, keptBut_sensed s p _⟩
  · rw [if_pos hf, countForward_misses s p (d := sampled) hsince, if_neg (by exact hrun)]
    exact ⟨_, rfl, rfl, keptBut_sensed s p _⟩
  · rw [if_pos hf, countForward_misses s p (d := sampled) hsince, if_pos (by exact hrun)]
    exact ⟨_, rfl, reportCrank_sensed s p _ .index⟩
  · rw [if_neg (by simp [hf]), countBack_counts s p (d := sampled), if_neg (by exact hrun)]
    exact ⟨_, rfl, rfl, keptBut_sensed s p _⟩
  · rw [if_neg (by simp [hf]), countBack_counts s p (d := sampled), if_pos (by exact hrun)]
    exact ⟨_, rfl, reportCrank_sensed s p _ .reversal⟩
  · exact ⟨_, clocked_run s _ hclk, rfl, keptBut_sensed s _ _⟩

end Sys2Proof.Machine
end

section
/-! SUPPORT. The commands as clocked steps (R100, R163, R166): which commands CLKIN drives, and that
none of them touches the commands waiting behind it (log 36). -/

namespace Sys2Proof.Machine

/-- Whatever the state, `f` leaves the commands that wait as they are. -/
def keepsCommands (f : State → State) : Prop := ∀ s, (f s).pending = s.pending

/-! ### The owners of the requests -/

/-- An owner leaves the commands that wait as they are. -/
def ownerKeeps (owner : State → State × Reply) : Prop := keepsCommands fun s => (owner s).1

theorem ownerKeeps.of_state {owner : State → State × Reply} (h : ∀ s, (owner s).1 = s) :
    ownerKeeps owner := fun s => congrArg State.pending (h s)

theorem acceptReply_pending (s : State) (e : Entry) (clamped : Bool) :
    (s.acceptReply e clamped).1.pending = s.pending := s.acceptEntry_pending e

theorem ownTraverse_keeps (d : List Byte) : ownerKeeps (ownTraverse d) := by
  intro s
  simp only [ownTraverse]
  split
  · rfl
  · (repeat' split)
    case isFalse.isFalse => exact acceptReply_pending ..
    all_goals rfl

theorem ownOpen_keeps (d : List Byte) : ownerKeeps (ownOpen d) := by
  intro s
  simp only [ownOpen]
  split
  · rfl
  · (repeat' split)
    case isFalse.isFalse.isFalse => exact acceptReply_pending ..
    all_goals rfl

theorem ownLine_keeps (d : List Byte) : ownerKeeps (ownLine d) := by
  intro s
  simp only [ownLine]
  split
  · rfl
  · (repeat' split)
    case isFalse.isFalse => exact acceptReply_pending ..
    all_goals rfl

theorem ownArc_keeps (d : List Byte) : ownerKeeps (ownArc d) := by
  intro s
  simp only [ownArc]
  split
  · rfl
  · (repeat' split)
    case isFalse.isFalse.isFalse.isFalse => exact acceptReply_pending ..
    all_goals rfl

theorem ownMachine_keeps (d : List Byte) : ownerKeeps (ownMachine d) := by
  intro s
  simp only [ownMachine]
  (repeat' split) <;> simp

theorem ownGrade_keeps (d : List Byte) : ownerKeeps (ownGrade d) := by
  intro s
  simp only [ownGrade]
  (repeat' split) <;> simp

theorem ownOrigin_keeps (d : List Byte) : ownerKeeps (ownOrigin d) := by
  intro s
  simp only [ownOrigin]
  (repeat' split) <;> rfl

theorem ownOnline_keeps (d : List Byte) : ownerKeeps (ownOnline d) := by
  intro s
  simp only [ownOnline]
  split <;> simp

theorem ownArm_keeps (d : List Byte) : ownerKeeps (ownArm d) := by
  intro s
  simp only [ownArm]
  split <;> rfl

theorem ownJogLock_keeps (d : List Byte) : ownerKeeps (ownJogLock d) := by
  intro s
  simp only [ownJogLock]
  split <;> rfl

theorem ownRun_keeps (d : List Byte) : ownerKeeps (ownRun d) := by
  intro s
  simp only [ownRun]
  split <;> rfl

theorem ownFlush_keeps (d : List Byte) : ownerKeeps (ownFlush d) := by
  intro s
  simp only [ownFlush]
  split <;> simp

theorem ownResetCut_keeps (d : List Byte) : ownerKeeps (ownResetCut d) := by
  intro s
  simp only [ownResetCut]
  split <;> simp

theorem ownClearFault_keeps (d : List Byte) : ownerKeeps (ownClearFault d) := by
  intro s
  simp only [ownClearFault]
  (repeat' split) <;> simp

theorem ownBladeState_keeps (d : List Byte) : ownerKeeps (ownBladeState d) := by
  intro s
  simp only [ownBladeState]
  split <;> simp

theorem ownOffset_keeps (d : List Byte) : ownerKeeps (ownOffset d) := by
  intro s
  simp only [ownOffset]
  split <;> rfl

theorem ownJogStart_keeps (d : List Byte) : ownerKeeps (ownJogStart d) := by
  intro s
  simp only [ownJogStart]
  (repeat' split) <;> simp

theorem ownJogKeep_keeps (d : List Byte) : ownerKeeps (ownJogKeep d) := by
  intro s
  simp only [ownJogKeep]
  split <;> simp

theorem ownJogEnd_keeps (d : List Byte) : ownerKeeps (ownJogEnd d) := by
  intro s
  simp only [ownJogEnd]
  split <;> simp

/-! ### The requests, taken on arrival or from the slot -/

theorem keepsCommands.takeRequest {owner : State → State × Reply} (ho : ownerKeeps owner) (p : Port)
    (kind : Byte) (roles : List Port) (n : Nat) (d turned : List Byte) :
    keepsCommands fun s => s.takeRequest p kind roles n d turned owner := by
  intro s
  have howner : (owner s).1.pending = s.pending := ho s
  simp only [State.takeRequest]
  (repeat' split) <;> simp [howner]

theorem takeKind_keeps (p : Port) (kind : Byte) (d : List Byte) :
    keepsCommands (takeKind p kind d) := by
  unfold takeKind
  split <;> intro s
  · exact keepsCommands.takeRequest (ownOnline_keeps d) ..
  · exact keepsCommands.takeRequest (ownMachine_keeps d) ..
  · exact keepsCommands.takeRequest (ownGrade_keeps d) ..
  · exact keepsCommands.takeRequest (owner := ownLevels d) (fun _ => rfl) ..
  · exact keepsCommands.takeRequest (ownOrigin_keeps d) ..
  · exact keepsCommands.takeRequest (ownArm_keeps d) ..
  · exact keepsCommands.takeRequest (owner := ownSyncTime d) (fun _ => rfl) ..
  · exact keepsCommands.takeRequest (ownJogLock_keeps d) ..
  · exact keepsCommands.takeRequest (ownTraverse_keeps d) ..
  · exact keepsCommands.takeRequest (ownOpen_keeps d) ..
  · exact keepsCommands.takeRequest (ownLine_keeps d) ..
  · exact keepsCommands.takeRequest (ownArc_keeps d) ..
  · exact keepsCommands.takeRequest (ownRun_keeps d) ..
  · exact keepsCommands.takeRequest (owner := ownPauseAfter d) (fun s => s.pauseRun_pending) ..
  · exact keepsCommands.takeRequest (ownFlush_keeps d) ..
  · exact keepsCommands.takeRequest (ownResetCut_keeps d) ..
  · exact keepsCommands.takeRequest (ownClearFault_keeps d) ..
  · exact keepsCommands.takeRequest (owner := ownHold p d) (fun s => s.addHold_pending p) ..
  · exact keepsCommands.takeRequest (owner := ownRelease p d) (fun s => s.changeHolds_pending _) ..
  · exact keepsCommands.takeRequest (ownBladeState_keeps d) ..
  · exact keepsCommands.takeRequest (ownOffset_keeps d) ..
  · exact keepsCommands.takeRequest (owner := ownOverride d) (fun s => s.setOverride_pending _) ..
  · exact keepsCommands.takeRequest (ownJogStart_keeps d) ..
  · exact keepsCommands.takeRequest (ownJogKeep_keeps d) ..
  · exact keepsCommands.takeRequest (ownJogEnd_keeps d) ..
  · exact keepsCommands.takeRequest (owner := ownProgress d) (fun _ => rfl) ..
  · exact keepsCommands.takeRequest (.of_state (ownStatus_state d)) ..
  · exact keepsCommands.takeRequest (owner := ownStroke d) (fun _ => rfl) ..
  · exact keepsCommands.takeRequest (.of_state (ownReadGrade_state d)) ..
  · exact keepsCommands.takeRequest (.of_state (ownReadPort_state d)) ..
  · exact keepsCommands.takeRequest (owner := ownSetBaud p d) (fun s => s.onPort_pending p _) ..
  · exact s.busy_pending p _ _

theorem keepsCommands.arrive {take : State → State} (h : keepsCommands take) (p : Port)
    (chars : List Byte) : keepsCommands fun s => s.arrive p chars take := by
  intro s
  simp only [State.arrive]
  (repeat' split)
  case isTrue.isTrue => exact (h _).trans (s.setPort_pending p _)
  all_goals exact s.setPort_pending p _

theorem takeSlot_keeps (p : Port) : keepsCommands fun s => s.takeSlot p := by
  have htelegram (chars : List Byte) (u : State) : (u.takeTelegram p chars).pending = u.pending := by
    unfold State.takeTelegram
    split
    · exact u.onPort_pending p _
    · exact takeKind_keeps p _ _ u
  intro s
  simp only [State.takeSlot]
  (repeat' split)
  · rfl
  · exact (htelegram _ _).trans (s.onPort_pending p _)
  · rfl

/-! ### The commands -/

/-- A command of the clocked blocks: its meaning is a clocked step, which leaves the commands that wait
as they are. -/
def Instr.clockDriven (c : Instr) : Prop :=
  ∃ f : State → State, (∀ s, exec c s = clocked s f) ∧ keepsCommands f

/-- A request command takes the telegram of its kind. -/
theorem Instr.clockDriven.request {c : Instr} {p : Port} {kind : Byte} {d : List Byte}
    (h : ∀ s, exec c s = clocked s fun s => s.arrive p (telegram kind d) (takeKind p kind d)) :
    Instr.clockDriven c :=
  ⟨_, h, (takeKind_keeps p kind d).arrive p _⟩

/-- A command that CLKIN does not drive: a reset, the finding of the loss, the return (R161, R162,
R166). -/
def Instr.unclocked (c : Instr) : Prop :=
  (∃ straps lines, c = .powerOn straps lines) ∨ (∃ straps lines, c = .resetn straps lines) ∨
    c = .clockLossFound ∨ c = .clockReturn

theorem Instr.clockDriven_or_unclocked (c : Instr) : Instr.clockDriven c ∨ Instr.unclocked c := by
  cases c with
  | powerOn straps lines => exact .inr (.inl ⟨straps, lines, rfl⟩)
  | resetn straps lines => exact .inr (.inr (.inl ⟨straps, lines, rfl⟩))
  | clockLossFound => exact .inr (.inr (.inr (.inl rfl)))
  | clockReturn => exact .inr (.inr (.inr (.inr rfl)))
  | online p d => exact .inl (.request (kind := 0x01) fun _ => rfl)
  | setMachine p d => exact .inl (.request (kind := 0x02) fun _ => rfl)
  | setGrade p d => exact .inl (.request (kind := 0x03) fun _ => rfl)
  | setLevels p d => exact .inl (.request (kind := 0x04) fun _ => rfl)
  | setOrigin p d => exact .inl (.request (kind := 0x05) fun _ => rfl)
  | armSupervision p d => exact .inl (.request (kind := 0x06) fun _ => rfl)
  | syncTime p d => exact .inl (.request (kind := 0x07) fun _ => rfl)
  | setJogLock p d => exact .inl (.request (kind := 0x08) fun _ => rfl)
  | queueTraverse p d => exact .inl (.request (kind := 0x10) fun _ => rfl)
  | queueOpen p d => exact .inl (.request (kind := 0x11) fun _ => rfl)
  | queueLine p d => exact .inl (.request (kind := 0x12) fun _ => rfl)
  | queueArc p d => exact .inl (.request (kind := 0x13) fun _ => rfl)
  | run p d => exact .inl (.request (kind := 0x14) fun _ => rfl)
  | pauseAfter p d => exact .inl (.request (kind := 0x15) fun _ => rfl)
  | flush p d => exact .inl (.request (kind := 0x16) fun _ => rfl)
  | resetCut p d => exact .inl (.request (kind := 0x17) fun _ => rfl)
  | clearFault p d => exact .inl (.request (kind := 0x18) fun _ => rfl)
  | hold p d => exact .inl (.request (kind := 0x19) fun _ => rfl)
  | release p d => exact .inl (.request (kind := 0x1A) fun _ => rfl)
  | bladeState p d => exact .inl (.request (kind := 0x1B) fun _ => rfl)
  | setBladeOffset p d => exact .inl (.request (kind := 0x1C) fun _ => rfl)
  | setOverride p d => exact .inl (.request (kind := 0x1D) fun _ => rfl)
  | jogStart p d => exact .inl (.request (kind := 0x1E) fun _ => rfl)
  | jogKeep p d => exact .inl (.request (kind := 0x1F) fun _ => rfl)
  | jogEnd p d => exact .inl (.request (kind := 0x20) fun _ => rfl)
  | readProgress p d => exact .inl (.request (kind := 0x21) fun _ => rfl)
  | readStatus p d => exact .inl (.request (kind := 0x22) fun _ => rfl)
  | readStroke p d => exact .inl (.request (kind := 0x23) fun _ => rfl)
  | readGrade p d => exact .inl (.request (kind := 0x24) fun _ => rfl)
  | readPort p d => exact .inl (.request (kind := 0x25) fun _ => rfl)
  | setBaud p d => exact .inl (.request (kind := 0x27) fun _ => rfl)
  | checkDiscard p chars =>
    refine .inl ⟨_, fun _ => rfl, fun s => ?_⟩
    split
    · exact keepsCommands.arrive (fun u => u.onPort_pending p _) p chars s
    · rfl
  | unknownKindTelegram p kind d =>
    refine .inl ⟨_, fun _ => rfl, fun s => ?_⟩
    split
    · rfl
    · exact keepsCommands.arrive (fun u => u.busy_pending p _ _) p _ s
  | replyWrite p => exact .inl ⟨_, fun _ => rfl, fun s => s.replyWrite_pending p⟩
  | noticeBuild p => exact .inl ⟨_, fun _ => rfl, fun s => s.noticeBuild_pending p⟩
  | baudSwitch p => exact .inl ⟨_, fun _ => rfl, fun s => s.onPort_pending p _⟩
  | guardEnd p => exact .inl ⟨_, fun _ => rfl, fun s => s.onPort_pending p _⟩
  | assemblerTake p => exact .inl ⟨_, fun _ => rfl, fun s => s.onPort_pending p _⟩
  | gapExpiry p => exact .inl ⟨_, fun _ => rfl, fun s => s.onPort_pending p _⟩
  | characterSent p => exact .inl ⟨_, fun _ => rfl, fun s => s.onPort_pending p _⟩
  | feedPeriodExpiry => exact .inl ⟨_, fun _ => rfl, State.feedPeriod_pending⟩
  | openTake => exact .inl ⟨_, fun _ => rfl, State.openTake_pending⟩
  | starvedResume => exact .inl ⟨_, fun _ => rfl, State.starvedResume_pending⟩
  | crankIndex => exact .inl ⟨_, fun _ => rfl, State.crankIndex_pending⟩
  | slowOverdue => exact .inl ⟨_, fun _ => rfl, State.slowOverdue_pending⟩
  | stallTimeout => exact .inl ⟨_, fun _ => rfl, State.stallTimeout_pending⟩
  | windowExpiry => exact .inl ⟨_, fun _ => rfl, State.expireWindow_pending⟩
  | stopLimitExpiry => exact .inl ⟨_, fun _ => rfl, State.stopLimit_pending⟩
  | stepSlot axis => exact .inl ⟨_, fun _ => rfl, fun _ => rfl⟩
  | rxCharacter p value mark stop noise =>
    exact .inl ⟨_, fun _ => rfl, fun s => by split <;> simp⟩
  | startBitVerify p s3 s5 s7 =>
    exact .inl ⟨_, fun _ => rfl, fun s => by (repeat' split) <;> simp⟩
  | breakFound p => exact .inl ⟨_, fun _ => rfl, fun s => by split <;> simp⟩
  | lowPhaseReturn p => exact .inl ⟨_, fun _ => rfl, fun s => by split <;> simp⟩
  | breakPhaseEnd p => exact .inl ⟨_, fun _ => rfl, fun s => by split <;> simp⟩
  | dispatch => exact .inl ⟨_, fun _ => rfl, fun s => by split <;> simp⟩
  | crankEdge onA onB => exact .inl ⟨_, fun _ => rfl, fun s => by split <;> simp⟩
  | holdnFall => exact .inl ⟨_, fun _ => rfl, fun s => by split <;> simp⟩
  | holdnRise => exact .inl ⟨_, fun _ => rfl, fun s => by split <;> simp⟩

/-- Settles O3: every command but the resets, the finding of the loss and the return is a clocked
step. -/
theorem clockStill : Obligations.ClockStill := by
  intro c s hclk hpower hreset hloss hreturn
  rcases Instr.clockDriven_or_unclocked c with ⟨f, hf, -⟩ | hun
  · rw [hf, clocked_still s f hclk]
  · rcases hun with ⟨straps, lines, hc⟩ | ⟨straps, lines, hc⟩ | hc | hc
    · exact absurd hc (hpower straps lines)
    · exact absurd hc (hreset straps lines)
    · exact absurd hc hloss
    · exact absurd hc hreturn

/-- Every command answers a next state and leaves the commands that wait as they are (logs 4 and
36). -/
theorem exec_next (c : Instr) (s : State) : ∃ t, exec c s = .next t ∧ t.pending = s.pending := by
  rcases Instr.clockDriven_or_unclocked c with ⟨f, hf, hkeeps⟩ | hun
  · refine ⟨_, hf s, ?_⟩
    split
    · exact hkeeps s
    · rfl
  · rcases hun with ⟨straps, lines, rfl⟩ | ⟨straps, lines, rfl⟩ | rfl | rfl
    · exact ⟨_, rfl, rfl⟩
    · exact ⟨_, rfl, rfl⟩
    · exact ⟨_, rfl, by split <;> simp⟩
    · exact ⟨_, rfl, by simp⟩

end Sys2Proof.Machine
end

section
/-! SUPPORT. The front of the part: its pins, input filters, time base, settings, clock monitor and port
lines. The work of FI, HJ and SV leaves it as it is; only the tick and the sampled edges change it
(R98, R101, R107, R161). -/

namespace Sys2Proof.Machine

/-! ### The front -/

/-- SD's four input filters and the index age (R101, R107). -/
structure Sensors where
  ca : Filter
  cb : Filter
  cz : Filter
  holdn : Filter
  indexAge : Nat

def Decoder.sensors (d : Decoder) : Sensors :=
  { ca := d.ca, cb := d.cb, cz := d.cz, holdn := d.holdn, indexAge := d.indexAge }

/-- What the front of the part holds; `ports` are the ports but for their notices. -/
structure Front where
  pins : Pins
  subMicro : Nat
  tb : TimeBase
  gt : GradeTable
  pending : List Instr
  sensors : Sensors
  missed : Nat
  monitor : Monitor
  ports : Port → PortState

def State.front (s : State) : Front :=
  { pins := s.pins, subMicro := s.subMicro, tb := s.tb, gt := s.gt, pending := s.pending,
    sensors := s.sd.sensors, missed := s.sv.missed, monitor := s.sv.monitor,
    ports := fun p => (s.port p).silent }

/-- The front after an operation that only raises notices, by the fields it holds. -/
theorem front_eq_of_onlyNotices {s t : State} (ho : onlyNotices s t)
    (hpins : t.pins = s.pins := by simp) (hmicro : t.subMicro = s.subMicro := by simp)
    (htb : t.tb = s.tb := by simp) (hgt : t.gt = s.gt := by simp)
    (hpending : t.pending = s.pending := by simp) (hsd : t.sd.sensors = s.sd.sensors := by simp)
    (hmissed : t.sv.missed = s.sv.missed := by simp)
    (hmonitor : t.sv.monitor = s.sv.monitor := by simp) : t.front = s.front := by
  have hports : (fun p => (t.port p).silent) = fun p => (s.port p).silent :=
    funext fun p => PortState.silent_eq_of_line (ho.2.1 p) (ho.1 p)
  simp only [State.front, hpins, hmicro, htb, hgt, hpending, hsd, hmissed, hmonitor, hports]

/-! ### The shared operations -/

@[simp] theorem State.raise_front (s : State) (p : Port) (k : Notice) :
    (s.raise p k).front = s.front :=
  front_eq_of_onlyNotices ((onlyNotices.refl s).raise p k)

@[simp] theorem State.enter_front (s : State) (st : FiState) : (s.enter st).front = s.front :=
  front_eq_of_onlyNotices ((onlyNotices.refl s).enter st)

@[simp] theorem State.endJog_front (s : State) (c : EndCause) : (s.endJog c).front = s.front :=
  front_eq_of_onlyNotices ((onlyNotices.refl s).endJog c)

@[simp] theorem State.changeHolds_front (s : State) (h : HoldSet) :
    (s.changeHolds h).front = s.front :=
  front_eq_of_onlyNotices ((onlyNotices.refl s).changeHolds h)

@[simp] theorem State.joinHold_front (s : State) (present : Bool) (h : HoldSet) :
    (s.joinHold present h).front = s.front :=
  front_eq_of_onlyNotices ((onlyNotices.refl s).joinHold present h)

@[simp] theorem State.recomputeDemand_front (s : State) : s.recomputeDemand.front = s.front :=
  front_eq_of_onlyNotices (onlyNotices.refl s).recomputeDemand

@[simp] theorem State.applyCap_front (s : State) : s.applyCap.front = s.front :=
  front_eq_of_onlyNotices (onlyNotices.refl s).applyCap

@[simp] theorem State.takeEntry_front (s : State) (e : Entry) : (s.takeEntry e).front = s.front :=
  front_eq_of_onlyNotices ((onlyNotices.refl s).takeEntry e)

@[simp] theorem State.dispatchNow_front (s : State) : s.dispatchNow.front = s.front :=
  front_eq_of_onlyNotices (onlyNotices.refl s).dispatchNow

@[simp] theorem Decoder.released_sensors (d : Decoder) (f : Interpolator) :
    (d.released f).sensors = d.sensors := by
  unfold Decoder.released
  split <;> rfl

@[simp] theorem State.releaseContour_front (s : State) : s.releaseContour.front = s.front :=
  front_eq_of_onlyNotices (onlyNotices.refl s).releaseContour
    (hsd := (congrArg _ s.releaseContour_sd).trans (s.sd.released_sensors s.fi))

@[simp] theorem State.flush_front (s : State) : s.flush.front = s.front :=
  front_eq_of_onlyNotices (onlyNotices.refl s).flush
    (hsd := (congrArg _ s.flush_sd_released).trans (s.sd.released_sensors s.fi))

@[simp] theorem State.setSlow_front (s : State) (slow : Bool) (clearing : Nat) :
    (s.setSlow slow clearing).front = s.front :=
  front_eq_of_onlyNotices ((onlyNotices.refl s).setSlow slow clearing)
    (hsd := (congrArg _ (s.setSlow_sd slow clearing)).trans rfl)

/-- The fall of the permit is no part of the front. -/
@[simp] theorem State.lowerPermit_front (s : State) : s.lowerPermit.front = s.front :=
  front_eq_of_onlyNotices (onlyNotices.refl s).lowerPermit
    (hmissed := by simp [State.lowerPermit_sv]) (hmonitor := by simp [State.lowerPermit_sv])

@[simp] theorem State.endStop_front (s : State) : s.endStop.front = s.front :=
  calc s.endStop.front = (s.enter .stopped).lowerPermit.front := State.flush_front _
    _ = s.front := by simp

@[simp] theorem State.beginStop_front (s : State) : s.beginStop.front = s.front := by
  have hbegun (v : Nat) : (s.stopBegun v).front = s.front :=
    calc (s.stopBegun v).front = ((s.endJog .fault).enter (.stopping s.fi.st.stopMode)).front := rfl
      _ = s.front := by simp
  rcases s.beginStop_cases with ⟨heq, -⟩ | ⟨heq, -⟩ <;> rw [heq]
  · exact hbegun _
  · exact (State.endStop_front _).trans (hbegun 0)

@[simp] theorem State.recordFault_front (s : State) (c : Cause) :
    (s.recordFault c).front = s.front :=
  front_eq_of_onlyNotices ((onlyNotices.refl s).recordFault c)

@[simp] theorem State.reportFault_front (s : State) (c : Cause) :
    (s.reportFault c).front = s.front := by
  unfold State.reportFault
  split
  · simp
  · rfl

@[simp] theorem State.reportCrank_front (s : State) (c : Cause) :
    (s.reportCrank c).front = s.front := by
  unfold State.reportCrank
  split <;> simp

/-! ### FI's work of an expiry (R66 to R69, R80 to R84, R93, R131 to R136) -/

theorem State.contourEnd_front (s : State) : s.contourEnd.front = s.front := by
  unfold State.contourEnd
  extract_lets tag dropped fi s1 s2 s3 fi3
  have h3 : s3.front = s.front :=
    calc s3.front = s2.releaseContour.front := s2.releaseContour.recomputeDemand_front
      _ = s1.front := by simp [s2]
      _ = s.front := rfl
  split
  · exact (State.enter_front _ _).trans h3
  · exact s3.dispatchNow_front.trans h3

theorem State.starve_front (s : State) : s.starve.front = s.front :=
  State.enter_front _ _

theorem State.startPivot_front (s : State) (next : Entry) : (s.startPivot next).front = s.front := by
  unfold State.startPivot
  dsimp only
  split <;> simp

theorem State.stopEnd_front (s : State) (e : Entry) : (s.stopEnd e).front = s.front := by
  have hat : (s.stopAt e).front = s.front := rfl
  unfold State.stopEnd
  dsimp only
  (repeat' split)
  · exact hat
  · exact (State.dispatchNow_front _).trans hat
  · exact (s.stopAt e).contourEnd_front.trans hat
  · exact (s.stopAt e).starve_front.trans hat
  · exact ((s.stopAt e).startPivot_front _).trans hat

theorem State.carryEnd_front (s : State) (e next : Entry) (turn : Bool) (whole : Nat) :
    (s.carryEnd e next turn whole).1.front = s.front := by
  unfold State.carryEnd
  extract_lets excess fi s0 s1 s2 carried fi2 s3 w fi3
  have h1 : s1.front = s.front := (s0.takeEntry_front next).trans rfl
  have h3 : s3.front = s.front := by
    refine (State.applyCap_front _).trans ?_
    split
    · exact (s1.enter_front _).trans h1
    · exact h1
  split
  · exact (State.applyCap_front _).trans h3
  · exact h3

theorem State.runEnds_front (fuel : Nat) (s : State) (whole : Nat) :
    (State.runEnds fuel s whole).front = s.front := by
  induction fuel generalizing s whole with
  | zero => rfl
  | succ fuel ih =>
    unfold State.runEnds
    (repeat' split)
    · rfl
    · rfl
    · exact (ih _ _).trans (s.carryEnd_front _ _ _ _)
    · exact s.stopEnd_front _

theorem State.move_front (s : State) : s.move.front = s.front := State.runEnds_front _ _ _

theorem State.jogStep_front (s : State) : s.jogStep.front = s.front := by
  unfold State.jogStep
  (repeat' split) <;> rfl

theorem State.jogComplete_front (s : State) : s.jogComplete.front = s.front := by
  unfold State.jogComplete
  (repeat' split)
  · exact (State.enter_front _ _).trans (State.flush_front _)
  · rfl
  · rfl

theorem State.slew_front (s : State) : s.slew.front = s.front := by
  simp only [State.slew]
  (repeat' split)
  · exact (State.enter_front _ _).trans (State.takeEntry_front _ _)
  all_goals rfl

theorem State.stopMove_front (s : State) : s.stopMove.front = s.front := by
  unfold State.stopMove
  split
  · split <;> rfl
  · split
    · exact s.move_front
    · rfl

theorem State.feedWork_front (s : State) : s.feedWork.front = s.front := by
  have hmove : s.move.handOff.front = s.front := s.move_front
  have hstop : s.stopMove.handOff.front = s.front := s.stopMove_front
  unfold State.feedWork
  split
  case h_1 | h_2 => rfl
  case h_3 => exact s.slew_front
  case h_4 | h_5 | h_6 => exact hmove
  case h_7 =>
    dsimp only
    (repeat' split)
    · exact (State.enter_front _ _).trans hmove
    all_goals exact hmove
  case h_8 => exact (State.jogComplete_front _).trans s.jogStep_front
  case h_9 =>
    dsimp only
    split
    · exact (State.endStop_front _).trans hstop
    · exact hstop
  case h_10 => rfl

/-! ### The millisecond (R98) -/

theorem State.tickStop_front (s : State) : s.tickStop.front = s.front := by
  unfold State.tickStop
  split <;> rfl

theorem State.tickWindow_front (s : State) : s.tickWindow.front = s.front := by
  unfold State.tickWindow State.expireWindow
  (repeat' split)
  · exact State.endJog_front _ _
  all_goals rfl

theorem State.stallTimeout_front (s : State) : s.stallTimeout.front = s.front := by
  unfold State.stallTimeout
  (repeat' split)
  · exact State.reportFault_front _ _
  · exact State.reportFault_front _ _
  · rfl

theorem State.stopLimit_front (s : State) : s.stopLimit.front = s.front := by
  unfold State.stopLimit
  split
  · exact State.endStop_front _
  · rfl

theorem State.stallFirst_front (s : State) : s.stallFirst.front = s.front := by
  rcases s.stallFirst_cases with h | h | h <;> rw [h]
  · rfl
  · exact s.chosen.stallTimeout_front

theorem State.limitFirst_front (s : State) : s.limitFirst.front = s.front := by
  rcases s.limitFirst_cases with h | h | h <;> rw [h]
  · rfl
  · exact s.chosen.stopLimit_front

/-- The millisecond at the front: the count of TB and the phase (R98). -/
def Front.milli (f : Front) : Front := { f with tb := { f.tb with ms := f.tb.ms + 1, phase := 0 } }

theorem State.millisecond_front (s : State) : s.millisecond.front = s.front.milli :=
  calc s.millisecond.front
    _ = s.tickTime.tickDecoder.stallFirst.tickStop.limitFirst.feedWork.front := State.tickWindow_front _
    _ = s.tickTime.tickDecoder.front := by
      rw [State.feedWork_front, State.limitFirst_front, State.tickStop_front, State.stallFirst_front]
    _ = s.front.milli := rfl

/-! ### The index at FI (R70 to R75) -/

theorem State.turnsFrom.front {s t : State} (h : s.turnsFrom t) : t.front = s.front := by
  obtain ⟨f, -, rfl | ⟨st, rfl⟩⟩ := h
  · rfl
  · exact State.enter_front _ _

theorem State.indexEvent_front (s : State) (withPeriod : Bool) :
    (s.indexEvent withPeriod).front = s.front := by
  have hrefresh : s.refresh.front = s.front := by
    unfold State.refresh
    split <;> rfl
  have hbudget : (if withPeriod then s.refresh else s).front = s.front := by
    split
    · exact hrefresh
    · rfl
  unfold State.indexEvent
  dsimp only
  split
  · exact (State.applyCap_front _).trans hbudget
  · exact ((State.turnsFrom_indexTurn _ _).front.trans (State.applyCap_front _)).trans hbudget

end Sys2Proof.Machine
end

section
/-! SUPPORT. The microsecond at the front of the part: the counts of R98 and R107, and the four input
filters with the events of their edges (R101, R106, R121). -/

namespace Sys2Proof.Machine

/-! ### One sample of a filter (R101) -/

/-- A sample without a filtered edge leaves the filter as R101 gives it; with one, the edge's event
does. -/
theorem Filter.sample_edge (f : Filter) (level : Bool) (k : Nat) :
    (if (f.sample level k).2 then Filter.edge level else (f.sample level k).1) =
      f.sampled level k := by
  unfold Filter.sample Filter.sampled
  by_cases hlevel : level = f.filtered
  · simp [hlevel]
  · by_cases hrun : k ≤ f.run + 1
    · simp [hlevel, hrun, Nat.not_lt.mpr hrun, Filter.edge]
    · simp [hlevel, hrun, Nat.not_le.mp hrun]

/-- A filtered edge is a change of the filtered level, which the sample brings. -/
theorem Filter.sample_edge_iff (f : Filter) (level : Bool) (k : Nat) :
    (f.sample level k).2 = true ↔ (f.sampled level k).filtered ≠ f.filtered := by
  unfold Filter.sample Filter.sampled
  by_cases hlevel : level = f.filtered
  · simp [hlevel]
  · by_cases hrun : k ≤ f.run + 1
    · simp [hlevel, hrun, Nat.not_lt.mpr hrun]
    · simp [hlevel, hrun, Nat.not_le.mp hrun]

/-- The sample leaves the filtered level to the edge, which is away from it. -/
theorem Filter.sample_level (f : Filter) (level : Bool) (k : Nat) (h : (f.sample level k).2 = true) :
    (!(f.sample level k).1.filtered) = level := by
  unfold Filter.sample at h ⊢
  by_cases hlevel : level = f.filtered
  · simp [hlevel] at h
  · by_cases hrun : k ≤ f.run + 1
    · simpa [hlevel, hrun] using (Bool.eq_not.mpr hlevel).symm
    · simp [hlevel, hrun] at h

/-- An edge of CA or CB toggles its filter, which is the level of the edge. -/
theorem Filter.sample_toggle (f : Filter) (level : Bool) (k : Nat) :
    (f.sample level k).1.toggle (f.sample level k).2 = f.sampled level k := by
  rw [← Filter.sample_edge, Filter.toggle]
  split
  case isTrue h => rw [Filter.sample_level f level k h, Filter.edge]
  case isFalse => rfl

/-! ### The events of the edges -/

/-- The front after the edges of CA and CB (R104). -/
def Front.cranked (f : Front) (onA onB : Bool) : Front :=
  let ca := f.sensors.ca.toggle onA
  let cb := f.sensors.cb.toggle onB
  { f with pins := { f.pins with ca := if onA then ca.filtered else f.pins.ca,
                                 cb := if onB then cb.filtered else f.pins.cb }
           sensors := { f.sensors with ca := ca, cb := cb } }

theorem Front.cranked_none (f : Front) : f.cranked false false = f := rfl

theorem State.countForward_front (s : State) : s.countForward.front = s.front := by
  have hmiss (u : State) : u.missIndex.front = u.front := by
    unfold State.missIndex
    dsimp only
    split
    · exact State.reportCrank_front _ _
    · rfl
  unfold State.countForward
  dsimp only
  split
  · exact hmiss _
  · rfl

theorem State.countBack_front (s : State) : s.countBack.front = s.front := by
  unfold State.countBack
  dsimp only
  split
  · exact State.reportCrank_front _ _
  · rfl

theorem State.crankEdge_front (s : State) (onA onB : Bool) :
    (s.crankEdge onA onB).front = s.front.cranked onA onB := by
  have hsample : (s.crankSample onA onB).front = s.front.cranked onA onB := rfl
  unfold State.crankEdge
  dsimp only
  (repeat' split)
  · exact hsample
  · exact hsample
  · exact (State.countForward_front _).trans hsample
  · exact (State.countBack_front _).trans hsample

/-- The front after CZ at its sample: a filtered edge takes the level of the pin, and only a rise
restarts the index age (R106, R107). -/
def Front.indexed (f : Front) (edge : Bool) (age : Nat) : Front :=
  { f with sensors := { f.sensors with
      cz := if edge then Filter.edge f.pins.cz else f.sensors.cz, indexAge := age } }

theorem State.crankIndex_front (s : State) (hcz : s.pins.cz = true) :
    ∃ age, s.crankIndex.front = s.front.indexed true age := by
  have hlevel (level : Bool) (h : s.pins.cz = level) :
      ({ s with pins := { s.pins with cz := level }
                sd := { s.sd with cz := Filter.edge level } } : State).front =
        s.front.indexed true s.sd.indexAge := by
    subst h
    rfl
  have hrises : s.czRises.front = s.front.indexed true s.sd.indexAge := hlevel true hcz
  unfold State.crankIndex
  dsimp only
  split
  · have hvalid : s.czRises.validIndex.front = (s.czRises.countIndex s.czRises.measured).front := by
      unfold State.validIndex
      dsimp only
      rw [State.setSlow_front, State.indexEvent_front]
    refine ⟨0, hvalid.trans ?_⟩
    have hcount : (s.czRises.countIndex s.czRises.measured).front =
      { s.czRises.front with sensors := { s.czRises.front.sensors with indexAge := 0 } } := rfl
    rw [hcount, hrises]
    rfl
  · have hslip : s.czRises.slipIndex.front = s.czRises.front := by
      unfold State.slipIndex
      dsimp only
      split
      · exact State.reportCrank_front _ _
      · rfl
    exact ⟨_, hslip.trans hrises⟩

theorem State.indexSample_front (s : State) (edge : Bool) :
    ∃ age, (s.indexSample edge).front = s.front.indexed edge age ∧
      (s.pins.cz = false ∨ edge = false → age = s.sd.indexAge) := by
  unfold State.indexSample
  by_cases hedge : edge = true
  · subst hedge
    by_cases hcz : s.pins.cz = true
    · obtain ⟨age, h⟩ := s.crankIndex_front hcz
      exact ⟨age, by simp [hcz, h], by simp [hcz]⟩
    · rw [Bool.not_eq_true] at hcz
      have hfall : Filter.edge false = Filter.edge s.pins.cz := by rw [hcz]
      refine ⟨s.sd.indexAge, ?_, fun _ => rfl⟩
      rw [if_pos rfl, if_neg (ne_true_of_eq_false hcz), hfall]
      rfl
  · rw [Bool.not_eq_true] at hedge
    subst hedge
    exact ⟨s.sd.indexAge, rfl, fun _ => rfl⟩

theorem State.overdueTest_front (s : State) : s.overdueTest.front = s.front := by
  unfold State.overdueTest
  split
  · exact s.setSlow_front true 0
  · rfl

theorem State.strokeSample_front (s : State) (edge : Bool) :
    ∃ age, (s.strokeSample edge).front = s.front.indexed edge age ∧
      (s.pins.cz = false ∨ edge = false → age = s.sd.indexAge) := by
  rcases s.strokeSample_cases edge with h | h | h
  · obtain ⟨age, hage, hkept⟩ := s.indexSample_front edge
    exact ⟨age, by rw [h, State.overdueTest_front, hage], hkept⟩
  · obtain ⟨age, hage, hkept⟩ := s.chosen.indexSample_front edge
    exact ⟨age, by rw [h, State.overdueTest_front, hage]; rfl, hkept⟩
  · obtain ⟨age, hage, hkept⟩ := s.chosen.overdueTest.indexSample_front edge
    have hsame : s.chosen.overdueTest.front = s.front := s.chosen.overdueTest_front
    refine ⟨age, by rw [h, State.overdueTest_front, hage, hsame], fun hcond => ?_⟩
    have hpins : s.chosen.overdueTest.pins = s.pins := congrArg Front.pins hsame
    exact (hkept (by rwa [hpins])).trans (congrArg (fun f => f.sensors.indexAge) hsame)

theorem State.bladeSample_front (s : State) (onA onB edge : Bool) :
    ∃ age, (s.bladeSample onA onB edge).front = (s.front.cranked onA onB).indexed edge age ∧
      (s.pins.cz = false ∨ edge = false → age = s.sd.indexAge) := by
  unfold State.bladeSample
  have hcrank : (if onA || onB then s.crankEdge onA onB else s).front = s.front.cranked onA onB := by
    split
    · exact s.crankEdge_front onA onB
    · simp_all [Front.cranked_none]
  generalize (if onA || onB then s.crankEdge onA onB else s) = u at hcrank ⊢
  have hpin : u.pins.cz = s.pins.cz := congrArg (fun f => f.pins.cz) hcrank
  have hage : u.sd.indexAge = s.sd.indexAge := congrArg (fun f => f.sensors.indexAge) hcrank
  obtain ⟨age, hfront, hkept⟩ := u.strokeSample_front edge
  rw [hpin, hage] at hkept
  exact ⟨age, by rw [hfront, hcrank], hkept⟩

/-- The front after HOLDN at its sample: a filtered edge takes the level of the pin (R121). -/
def Front.lined (f : Front) (edge : Bool) : Front :=
  { f with sensors := { f.sensors with
      holdn := if edge then Filter.edge f.pins.holdn else f.sensors.holdn } }

theorem State.lineSample_front (s : State) (edge : Bool) :
    (s.lineSample edge).front = s.front.lined edge := by
  have hedge (level : Bool) (h : s.pins.holdn = level) :
      (s.holdnEdge level).front = s.front.lined true := by
    subst h
    rfl
  unfold State.lineSample
  (repeat' split)
  case isTrue.isTrue h => subst_vars; exact (State.changeHolds_front _ _).trans (hedge true h)
  case isTrue.isFalse h =>
    subst_vars
    exact (State.joinHold_front _ _ _).trans (hedge false (by simpa using h))
  case isFalse h =>
    rw [Bool.not_eq_true] at h
    subst h
    rfl

/-! ### The sample of the four inputs (R101) -/

/-- The front after one sample of the four inputs. -/
def Front.sampled (f : Front) (age : Nat) : Front :=
  let k := f.gt.settings.filterK
  { f with sensors := {
      ca := f.sensors.ca.sampled f.pins.ca k, cb := f.sensors.cb.sampled f.pins.cb k
      cz := f.sensors.cz.sampled f.pins.cz k, holdn := f.sensors.holdn.sampled f.pins.holdn k
      indexAge := age } }

/-- The sample of CZ brings no index: the pin is low, or the filtered level stays (R106). -/
def Front.noIndex (f : Front) : Prop :=
  f.pins.cz = false ∨
    (f.sensors.cz.sampled f.pins.cz f.gt.settings.filterK).filtered = f.sensors.cz.filtered

/-- The pin of a crank input is at the level that its filtered edge brings. -/
theorem Filter.sample_pin (f : Filter) (level : Bool) (k : Nat) :
    (if (f.sample level k).2 then (f.sampled level k).filtered else level) = level := by
  rw [← Filter.sample_edge]
  split <;> rfl

/-- The filters as a sample leaves them before the events of its edges. -/
def Front.filtered (f : Front) : Front :=
  let k := f.gt.settings.filterK
  { f with sensors := { f.sensors with
      ca := (f.sensors.ca.sample f.pins.ca k).1, cb := (f.sensors.cb.sample f.pins.cb k).1
      cz := (f.sensors.cz.sample f.pins.cz k).1
      holdn := (f.sensors.holdn.sample f.pins.holdn k).1 } }

/-- With the events of its edges a sample leaves the four filters as R101 gives them. -/
theorem Front.sampled_eq_events (f : Front) (age : Nat) :
    let k := f.gt.settings.filterK
    ((f.filtered.cranked (f.sensors.ca.sample f.pins.ca k).2 (f.sensors.cb.sample f.pins.cb k).2).indexed
      (f.sensors.cz.sample f.pins.cz k).2 age).lined (f.sensors.holdn.sample f.pins.holdn k).2 =
        f.sampled age := by
  simp only [Front.lined, Front.indexed, Front.cranked, Front.filtered, Front.sampled,
    Filter.sample_pin, Filter.sample_toggle, Filter.sample_edge]

theorem State.sampleInputs_front (s : State) :
    ∃ age, s.sampleInputs.front = s.front.sampled age ∧
      (s.front.noIndex → age = s.sd.indexAge) := by
  unfold State.sampleInputs
  extract_lets k ca cb cz holdn sd s1
  have hevents (age : Nat) :
      ((s1.front.cranked ca.2 cb.2).indexed cz.2 age).lined holdn.2 = s.front.sampled age :=
    s.front.sampled_eq_events age
  have hnone (h : s.front.noIndex) : s1.pins.cz = false ∨ cz.2 = false := by
    refine Or.imp_right (fun hlevel => ?_) h
    rw [← Bool.not_eq_true]
    exact fun hedge => (s.sd.cz.sample_edge_iff s.pins.cz k).mp hedge hlevel
  have hblade (u : State) (hu : u.front = s1.front) :
      ∃ age, ((u.bladeSample ca.2 cb.2 cz.2).lineSample holdn.2).front = s.front.sampled age ∧
        (s.front.noIndex → age = s.sd.indexAge) := by
    obtain ⟨age, hfront, hkept⟩ := u.bladeSample_front ca.2 cb.2 cz.2
    refine ⟨age, by rw [State.lineSample_front, hfront, hu, hevents], fun h => ?_⟩
    have hpins : u.pins = s1.pins := congrArg Front.pins hu
    exact (hkept (by rw [hpins]; exact hnone h)).trans (congrArg (fun f => f.sensors.indexAge) hu)
  have hline : ∃ age, ((s1.chosen.lineSample holdn.2).bladeSample ca.2 cb.2 cz.2).front =
      s.front.sampled age ∧ (s.front.noIndex → age = s.sd.indexAge) := by
    have hlined : (s1.chosen.lineSample holdn.2).front = s1.front.lined holdn.2 :=
      s1.chosen.lineSample_front holdn.2
    obtain ⟨age, hfront, hkept⟩ :=
      (s1.chosen.lineSample holdn.2).bladeSample_front ca.2 cb.2 cz.2
    refine ⟨age, by rw [hfront, hlined, ← hevents]; rfl, fun h => ?_⟩
    have hpins : (s1.chosen.lineSample holdn.2).pins = s1.pins := congrArg Front.pins hlined
    exact (hkept (by rw [hpins]; exact hnone h)).trans
      (congrArg (fun f => f.sensors.indexAge) hlined)
  (repeat' split)
  · exact hline
  · exact hblade s1.chosen rfl
  · exact hblade s1 rfl

/-! ### The microsecond (R98, R107) -/

theorem State.stallMeets_front (s before : State) : (s.stallMeets before).front = s.front := by
  rcases s.stallMeets_cases before with h | h <;> rw [h]
  rfl

/-- The counts of one microsecond, the inputs at its sample, and the millisecond at the wrap of the
phase, whichever comes first. -/
theorem State.microsecond_front (s : State) :
    ∃ age, s.microsecond.front =
        (if 999 ≤ s.tb.phase then (s.passMicro.front.sampled age).milli
          else s.passMicro.front.sampled age) ∧
      (s.front.noIndex → age = min 1000000 (s.sd.indexAge + 1)) := by
  have hslots (u : State) : u.slots.front = u.front := rfl
  unfold State.microsecond
  dsimp only
  simp only [hslots]
  by_cases hwrap : 999 ≤ s.tb.phase
  · simp only [if_pos hwrap]
    split
    · obtain ⟨age, hfront, hkept⟩ := s.passMicro.chosen.sampleInputs_front
      refine ⟨age, ?_, hkept⟩
      rw [State.millisecond_front, State.stallMeets_front, hfront]
      rfl
    · obtain ⟨age, hfront, hkept⟩ := s.passMicro.chosen.millisecond.sampleInputs_front
      have hmilli := s.passMicro.chosen.millisecond_front
      rw [hmilli] at hfront hkept
      exact ⟨age, hfront, fun h => (hkept h).trans (congrArg (fun f => f.sensors.indexAge) hmilli)⟩
  · simp only [if_neg hwrap]
    exact s.passMicro.sampleInputs_front

end Sys2Proof.Machine
end

section
/-! SUPPORT. One CLKIN cycle of a port (R171): the receiver's sample with the gap timer (R173 to R176,
R180), and the transmitter's bit time (R181, R182). -/

namespace Sys2Proof.Machine

/-! ### The receiver's sample -/

/-- A port beside what its receiver fills: receiver, FIFO and tallies, and of the assembler the gap timer
alone. -/
def PortState.beside (q : PortState) : PortState :=
  { q with rx := (PortState.reset 0).rx, rxFifo := [], tallies := (PortState.reset 0).tallies
           asm := { (PortState.reset 0).asm with gap := q.asm.gap } }

theorem PortState.store_beside (q : PortState) (value : Byte) (mark noise framing : Bool) :
    (q.store value mark noise framing).beside = q.beside := by
  unfold PortState.store
  split <;> rfl

theorem PortState.verifyStart_beside (q : PortState) (s3 s5 s7 : Bool) :
    (q.verifyStart s3 s5 s7).beside = q.beside := by
  unfold PortState.verifyStart
  split <;> rfl

theorem PortState.characterDone_beside (q : PortState) (value : Byte) (mark stop noise : Bool) :
    (q.characterDone value mark stop noise).beside = q.beside := by
  unfold PortState.characterDone
  dsimp only
  (repeat' split)
  · exact q.store_beside ..
  · exact q.store_beside ..
  · rfl

theorem PortState.sampleStart_beside (q : PortState) (level : Bool) :
    (q.sampleStart level).beside = q.beside := by
  unfold PortState.sampleStart
  dsimp only
  (repeat' split)
  · exact q.verifyStart_beside ..
  all_goals rfl

theorem PortState.sampleData_beside (q : PortState) (level : Bool) :
    (q.sampleData level).beside = q.beside := by
  unfold PortState.sampleData
  dsimp only
  (repeat' split)
  case isFalse.isFalse.isTrue.isTrue => exact q.characterDone_beside ..
  all_goals rfl

theorem PortState.sampleLow_beside (q : PortState) (level : Bool) :
    (q.sampleLow level).beside = q.beside := by
  unfold PortState.sampleLow
  dsimp only
  (repeat' split)
  · exact q.store_beside ..
  all_goals rfl

theorem PortState.sample_beside (q : PortState) (level : Bool) :
    (q.sample level).beside = q.beside := by
  unfold PortState.sample
  split
  · rfl
  · exact q.sampleStart_beside level
  · exact q.sampleData_beside level
  · exact q.sampleLow_beside level
  · exact q.sampleLow_beside level

/-- One sample of a port, with the break where the test count finds one (R175, R176). -/
def PortState.received (q : PortState) (level : Bool) : PortState :=
  let q1 := q.gapTick.sample level
  if decide (q1.rx.phase = .low) && decide (breakLimit ≤ q1.rx.breakTest) then q1.takeBreak else q1

/-- A port with its gap timer at a value. -/
def PortState.gapped (q : PortState) (gap : Nat) : PortState := { q with asm := { q.asm with gap := gap } }

/-- The gap timer after one sample (R180). -/
def Assembler.nextGap (a : Assembler) : Nat := if a.assembling then min 384 (a.gap + 1) else a.gap

theorem PortState.received_beside (q : PortState) (level : Bool) :
    (q.received level).beside = (q.gapped q.asm.nextGap).beside := by
  have hgap : q.gapTick.beside = (q.gapped q.asm.nextGap).beside := by
    unfold PortState.gapTick PortState.gapped Assembler.nextGap
    split <;> rfl
  rw [← hgap, ← q.gapTick.sample_beside level]
  simp only [PortState.received]
  split <;> rfl

/-- The receiver's part of a cycle: a sample every D cycles (R171). -/
def PortState.rxCycled (q : PortState) (level : Bool) : PortState :=
  if q.divisor ≤ q.rxClock + 1 then ({ q with rxClock := 0 } : PortState).received level
  else { q with rxClock := q.rxClock + 1 }

/-- Between the samples only the clock of the sample advances. -/
theorem PortState.rxCycled_between {q : PortState} (h : ¬ q.divisor ≤ q.rxClock + 1) (level : Bool) :
    q.rxCycled level = { q with rxClock := q.rxClock + 1 } := if_neg h

theorem PortState.rxCycled_sample {q : PortState} (h : q.divisor ≤ q.rxClock + 1) (level : Bool) :
    (q.rxCycled level).beside =
      (({ q with rxClock := 0 } : PortState).gapped q.asm.nextGap).beside := by
  rw [PortState.rxCycled, if_pos h]
  exact PortState.received_beside _ level

/-- What two ports share beside their receivers. -/
theorem PortState.eq_of_beside {q u : PortState} (h : u.beside = q.beside) :
    u = { q with rx := u.rx, rxFifo := u.rxFifo, tallies := u.tallies, asm := u.asm } ∧
      u.asm.gap = q.asm.gap := by
  cases q
  cases u
  simp_all [PortState.beside]

/-- What the receiver's part of a cycle leaves (R171, R180). -/
theorem PortState.rxCycled_eq (q : PortState) (level : Bool) :
    let sample := q.divisor ≤ q.rxClock + 1
    let r := q.rxCycled level
    r = { q with rx := r.rx, rxFifo := r.rxFifo, tallies := r.tallies, asm := r.asm
                 rxClock := if sample then 0 else q.rxClock + 1 } ∧
      r.asm.gap =
        (if sample ∧ q.asm.assembling = true then min 384 (q.asm.gap + 1) else q.asm.gap) ∧
      (¬ sample → r.rx = q.rx ∧ r.rxFifo = q.rxFifo ∧ r.asm = q.asm ∧ r.tallies = q.tallies) := by
  intro sample r
  by_cases h : sample
  · obtain ⟨heq, hgap⟩ := PortState.eq_of_beside (PortState.rxCycled_sample h level)
    refine ⟨?_, ?_, fun hn => absurd h hn⟩
    · rw [if_pos h]
      exact heq
    · simp only [h, true_and]
      exact hgap
  · have heq : r = { q with rxClock := q.rxClock + 1 } := PortState.rxCycled_between h level
    refine ⟨?_, ?_, fun _ => ?_⟩
    · rw [if_neg h, heq]
    · simp [h, heq]
    · rw [heq]
      exact ⟨rfl, rfl, rfl, rfl⟩

/-! ### The transmitter's bit -/

theorem Transmitter.startNext_eq (t : Transmitter) :
    t.startNext = { t with phase := if t.fifo = [] then .idle else .sending, shift := t.fifo.head?
                           bit := 0, fifo := t.fifo.tail } := by
  unfold Transmitter.startNext
  split
  case h_1 h => simp [h]
  case h_2 h => simp [h]

/-- The transmitter's part leaves all but the transmitter and its clock. -/
theorem PortState.txCycle_eq (q : PortState) :
    q.txCycle = { q with tx := q.txCycle.tx, txClock := q.txCycle.txClock } := by
  unfold PortState.txCycle PortState.txBit PortState.guardEnd PortState.characterSent
  (repeat' split) <;> rfl

theorem PortState.txCycle_idle {q : PortState} (h : q.tx.phase = .idle) :
    q.txCycle = { q with txClock := 0 } := if_pos h

theorem PortState.txCycle_inside {q : PortState} (h : q.tx.phase ≠ .idle)
    (hbit : ¬ 16 * q.divisor ≤ q.txClock + 1) : q.txCycle = { q with txClock := q.txClock + 1 } := by
  rw [PortState.txCycle, if_neg h, if_neg hbit]

theorem PortState.txCycle_guard {q : PortState} (h : q.tx.phase = .guard)
    (hbit : 16 * q.divisor ≤ q.txClock + 1) :
    q.txCycle = { q with
      txClock := 0
      tx := if q.tx.guard = 10 then ({ q.tx with guard := 0 } : Transmitter).startNext
        else { q.tx with guard := q.tx.guard + 1 } } := by
  simp only [PortState.txCycle, if_pos hbit, PortState.txBit, PortState.guardEnd, h, reduceCtorEq,
    if_false, if_true]
  split <;> rfl

theorem PortState.txCycle_sending {q : PortState} (h : q.tx.phase = .sending)
    (hbit : 16 * q.divisor ≤ q.txClock + 1) :
    q.txCycle = { q with
      txClock := 0
      tx := if q.tx.bit = 10 then q.tx.startNext else { q.tx with bit := q.tx.bit + 1 } } := by
  simp only [PortState.txCycle, if_pos hbit, PortState.txBit, PortState.characterSent, h, reduceCtorEq,
    if_false, if_true]
  split <;> rfl

/-! ### The cycle of a port -/

/-- One CLKIN cycle of a port. -/
def PortState.portCycled (q : PortState) (level : Bool) : PortState := (q.rxCycled level).txCycle

/-- The cycle of R171, R180 to R182. -/
theorem cycledPort_portCycled (q : PortState) (level : Bool) : cycledPort q (q.portCycled level) := by
  unfold cycledPort
  intro sample bitOver begun
  obtain ⟨heq, hgap, hstill⟩ := q.rxCycled_eq level
  unfold PortState.portCycled
  generalize q.rxCycled level = r at heq hgap hstill ⊢
  have hdivisor : r.divisor = q.divisor := by rw [heq]
  have htx : r.tx = q.tx := by rw [heq]
  have hclock : r.txClock = q.txClock := by rw [heq]
  have hbegun (t : Transmitter) (h : t.fifo = q.tx.fifo) : t.startNext = begun t.guard := by
    rw [Transmitter.startNext_eq, h]
  have hkept := r.txCycle_eq
  refine ⟨?_, ?_, ?_, ?_, ?_, fun hn => ?_, fun hidle => ?_, fun hbusy hbit => ?_, fun hguard hbit => ?_,
    fun hsending hbit => ?_⟩
  · rw [hkept, heq]
  · rw [hkept, heq]
  · rw [hkept, heq]
  · rw [hkept, heq]
  · rw [hkept, hgap]
  · rw [hkept]
    exact hstill hn
  · rw [PortState.txCycle_idle (by rwa [htx])]
    exact ⟨htx, rfl⟩
  · rw [PortState.txCycle_inside (by rwa [htx]) (by rwa [hdivisor, hclock]), hclock]
    exact ⟨htx, rfl⟩
  · rw [PortState.txCycle_guard (by rwa [htx]) (by rwa [hdivisor, hclock]), htx,
      hbegun { q.tx with guard := 0 } rfl]
    exact ⟨rfl, rfl⟩
  · rw [PortState.txCycle_sending (by rwa [htx]) (by rwa [hdivisor, hclock]), htx, hbegun q.tx rfl]
    exact ⟨rfl, rfl⟩

/-! ### The ports of the part -/

theorem State.onPort_port (s : State) (p q : Port) (f : PortState → PortState) :
    (s.onPort p f).port q = if q = p then f (s.port p) else s.port q := by
  unfold State.onPort
  split
  case isTrue h => rw [h, State.setPort_port]
  case isFalse h => exact s.setPort_port_ne _ h

theorem State.findBreak_port (s : State) (p q : Port) :
    (s.findBreak p).port q = if q = p then (s.port p).takeBreak else s.port q := by
  have hend (u : State) : (u.endJog .brk).port q = u.port q := by
    unfold State.endJog
    split <;> rfl
  rw [← State.onPort_port]
  unfold State.findBreak
  dsimp only
  split
  · exact hend _
  · rfl

theorem State.samplePort_port (s : State) (p q : Port) :
    (s.samplePort p).port q = if q = p then (s.port p).received (s.rxLevel p) else s.port q := by
  have hself : (s.onPort p fun q => q.gapTick.sample (s.rxLevel p)).port p =
      (s.port p).gapTick.sample (s.rxLevel p) := by rw [State.onPort_port, if_pos rfl]
  unfold State.samplePort PortState.received
  dsimp only
  rw [hself]
  split
  · rw [State.findBreak_port, hself, State.onPort_port]
    split <;> rfl
  · exact State.onPort_port ..

theorem State.portCycle_port (s : State) (p q : Port) :
    (s.portCycle p).port q =
      if q = p then (s.port p).portCycled (s.rxLevel p) else s.port q := by
  have hlevel (f : PortState → PortState) : (s.onPort p f).rxLevel p = s.rxLevel p := by
    cases p <;> rfl
  have hrx : (s.rxCycle p).port q =
      if q = p then (s.port p).rxCycled (s.rxLevel p) else s.port q := by
    unfold State.rxCycle PortState.rxCycled
    dsimp only
    split
    · rw [State.samplePort_port, hlevel, State.onPort_port, State.onPort_port, if_pos rfl]
      split <;> rfl
    · exact s.onPort_port ..
  by_cases h : q = p
  · subst h
    rw [if_pos rfl] at hrx ⊢
    rw [State.portCycle, State.onPort_port, if_pos rfl, hrx, PortState.portCycled]
  · rw [if_neg h] at hrx ⊢
    rw [State.portCycle, State.onPort_port, if_neg h, hrx]

/-- A cycle raises no notice and builds none (R196, R197). -/
theorem PortState.portCycled_notices (q : PortState) (level : Bool) :
    (q.portCycled level).notices = q.notices ∧ (q.portCycled level).noticePass = q.noticePass := by
  obtain ⟨heq, -, -⟩ := q.rxCycled_eq level
  rw [PortState.portCycled, PortState.txCycle_eq, heq]
  exact ⟨rfl, rfl⟩

theorem Block.same_onPort {b : Block} (hports : b ≠ .ports) (hnotices : b ≠ .notices) (s : State)
    (p : Port) (f : PortState → PortState) : b.same s (s.onPort p f) := by
  cases b <;> simp_all [Block.same]

theorem Block.same_findBreak {b : Block} (hhj : b ≠ .hj) (hports : b ≠ .ports)
    (hnotices : b ≠ .notices) (s : State) (p : Port) : b.same s (s.findBreak p) := by
  cases b <;> simp_all [Block.same]

/-- The cycle of a port leaves every block but the ports and HJ, whose jog a break ends (R176). -/
theorem Block.same_portCycle {b : Block} (hhj : b ≠ .hj) (hports : b ≠ .ports) (s : State) (p : Port) :
    b.same s (s.portCycle p) := by
  by_cases hnotices : b = .notices
  · subst hnotices
    intro q
    rw [State.portCycle_port]
    split
    case isTrue h => exact h ▸ PortState.portCycled_notices _ _
    case isFalse => exact ⟨rfl, rfl⟩
  · have hon (u : State) (f : PortState → PortState) : b.same u (u.onPort p f) :=
      Block.same_onPort hports hnotices u p f
    have hsample (u : State) : b.same u (u.samplePort p) := by
      unfold State.samplePort
      dsimp only
      split
      · exact (hon u _).trans (Block.same_findBreak hhj hports hnotices _ p)
      · exact hon u _
    have hrx : b.same s (s.rxCycle p) := by
      unfold State.rxCycle
      dsimp only
      split
      · exact (hon s _).trans (hsample _)
      · exact hon s _
    exact hrx.trans (hon _ _)

end Sys2Proof.Machine
end

section
/-! SUPPORT. The step the block takes by itself (log 2): a CLKIN cycle (R98, R101, R107, R161, R171), a
step that is due (log 5), the return of the clock and the monitor's period (R161 to R163). -/

namespace Sys2Proof.Machine

/-! ### The CLKIN cycle -/

/-- The three ports' part of a cycle, behind the edge at the monitor. -/
def State.portsCycled (s : State) : State :=
  ((s.clockEdge.portCycle .job).portCycle .blade).portCycle .panel

theorem State.portCycle_rxLevel (s : State) (p q : Port) :
    (s.portCycle p).rxLevel q = s.rxLevel q := by
  have hpins : (s.portCycle p).pins = s.pins :=
    Block.same_portCycle (b := .pins) (by decide) (by decide) s p
  cases q <;> simp [State.rxLevel, hpins]

theorem State.portsCycled_port (s : State) (p : Port) :
    s.portsCycled.port p = (s.port p).portCycled (s.rxLevel p) := by
  have hedge : s.clockEdge.port p = s.port p ∧ s.clockEdge.rxLevel p = s.rxLevel p := by
    rw [State.clockEdge_eq]
    cases p <;> exact ⟨rfl, rfl⟩
  rw [← hedge.1, ← hedge.2]
  cases p <;> simp [State.portsCycled, State.portCycle_port, State.portCycle_rxLevel]

theorem Block.same_portsCycled {b : Block} (hhj : b ≠ .hj) (hports : b ≠ .ports) (s : State) :
    b.same s.clockEdge s.portsCycled :=
  ((Block.same_portCycle hhj hports _ .job).trans (Block.same_portCycle hhj hports _ .blade)).trans
    (Block.same_portCycle hhj hports _ .panel)

theorem State.portsCycled_sv (s : State) : s.portsCycled.sv =
    { s.sv with missed := if s.sv.monitor = .watching then 0 else s.sv.missed } := by
  have h : s.portsCycled.sv = s.clockEdge.sv :=
    Block.same_portsCycled (b := .sv) (by decide) (by decide) s
  rw [h, State.clockEdge_eq]

/-- The edge of CLKIN at the monitor leaves every block but SV. -/
theorem Block.same_clockEdge {b : Block} (hsv : b ≠ .sv) (s : State) : b.same s s.clockEdge := by
  rw [State.clockEdge_eq]
  cases b <;> simp_all [Block.same, State.port]

/-- The blocks that the ports' part of a cycle leaves. -/
theorem State.portsCycled_same {b : Block} (h : b ∉ [Block.hj, .sv, .ports]) (s : State) :
    b.same s s.portsCycled := by
  simp only [List.mem_cons, List.not_mem_nil, not_or] at h
  obtain ⟨hhj, hsv, hports, -⟩ := h
  exact (Block.same_clockEdge hsv s).trans (Block.same_portsCycled hhj hports s)

/-- From `s` to `u` the edge of CLKIN has passed the monitor and the three ports (R161, R171). -/
structure portsPassed (s u : State) : Prop where
  port : ∀ p, u.port p = (s.port p).portCycled (s.rxLevel p)
  sv : u.sv = { s.sv with missed := if s.sv.monitor = .watching then 0 else s.sv.missed }
  same : ∀ b, b ∉ [Block.hj, .sv, .ports] → b.same s u

theorem State.portsCycled_passed (s : State) : portsPassed s s.portsCycled :=
  ⟨s.portsCycled_port, s.portsCycled_sv, fun _ h => State.portsCycled_same h s⟩

/-- A cycle inside a microsecond, or the sixteenth, which ends one (R98). -/
theorem State.cycle_cases (s : State) : ∃ u, portsPassed s u ∧
    (s.subMicro < 15 → s.cycle = { u with subMicro := s.subMicro + 1 }) ∧
    (15 ≤ s.subMicro → s.cycle = ({ u with subMicro := 0 } : State).microsecond) :=
  ⟨s.portsCycled, s.portsCycled_passed, fun h => if_neg (Nat.not_le.mpr h), fun h => if_pos h⟩

/-- What every cycle does at the front, whether it ends a microsecond or not (R161, R171). -/
theorem cycled_of_front {s t u : State} {f : Front} (hu : portsPassed s u) (hf : t.front = f)
    (hpins : f.pins = u.pins) (hgt : f.gt = u.gt) (hpending : f.pending = u.pending)
    (hmissed : f.missed = u.sv.missed) (hmonitor : f.monitor = u.sv.monitor)
    (hports : f.ports = fun p => (u.port p).silent) :
    (∀ p, cycledPort (s.port p) (t.port p)) ∧ t.pins = s.pins ∧ t.gt = s.gt ∧
      t.pending = s.pending ∧
      t.sv.missed = (if s.sv.monitor = .watching then 0 else s.sv.missed) ∧
      t.sv.monitor = s.sv.monitor := by
  subst hf
  refine ⟨fun p => ?_, ?_, ?_, ?_, ?_, ?_⟩
  · have hport : (t.port p).silent = ((s.port p).portCycled (s.rxLevel p)).silent := by
      rw [← hu.port]
      exact congrFun hports p
    have hcycled : cycledPort (s.port p) ((s.port p).portCycled (s.rxLevel p)).silent :=
      cycledPort_portCycled _ _
    rw [← hport] at hcycled
    exact hcycled
  · exact hpins.trans (hu.same .pins (by decide))
  · exact hgt.trans (hu.same .gt (by decide))
  · exact hpending.trans (hu.same .model (by decide)).1
  · exact hmissed.trans (by rw [hu.sv])
  · exact hmonitor.trans (by rw [hu.sv])

/-- What a microsecond does to the counts of TB and to the inputs of SD (R98, R101, R107). -/
theorem State.microsecond_counts (s : State) :
    let t := s.microsecond
    let k := s.gt.settings.filterK
    t.subMicro = s.subMicro ∧ t.tb.us = s.tb.us + 1 ∧
      (s.tb.phase < 999 → t.tb.phase = s.tb.phase + 1 ∧ t.tb.ms = s.tb.ms) ∧
      (999 ≤ s.tb.phase → t.tb.phase = 0 ∧ t.tb.ms = s.tb.ms + 1) ∧
      t.sd.ca = s.sd.ca.sampled s.pins.ca k ∧ t.sd.cb = s.sd.cb.sampled s.pins.cb k ∧
      t.sd.cz = s.sd.cz.sampled s.pins.cz k ∧ t.sd.holdn = s.sd.holdn.sampled s.pins.holdn k ∧
      (s.front.noIndex → t.sd.indexAge = min 1000000 (s.sd.indexAge + 1)) := by
  intro t k
  obtain ⟨age, hfront, hkept⟩ := s.microsecond_front
  have hmicro : t.subMicro = s.subMicro :=
    (congrArg Front.subMicro hfront).trans (by split <;> rfl)
  have hsensors : t.sd.sensors = (s.passMicro.front.sampled age).sensors :=
    (congrArg Front.sensors hfront).trans (by split <;> rfl)
  have htb : t.tb =
      if 999 ≤ s.tb.phase then { us := s.tb.us + 1, phase := 0, ms := s.tb.ms + 1 }
      else { us := s.tb.us + 1, phase := s.tb.phase + 1, ms := s.tb.ms } := by
    refine (congrArg Front.tb hfront).trans ?_
    by_cases hwrap : 999 ≤ s.tb.phase
    · rw [if_pos hwrap, if_pos hwrap]
      rfl
    · rw [if_neg hwrap, if_neg hwrap]
      simp [Front.sampled, State.front, State.passMicro, hwrap]
  refine ⟨hmicro, ?_, fun h => ?_, fun h => ?_, congrArg Sensors.ca hsensors,
    congrArg Sensors.cb hsensors, congrArg Sensors.cz hsensors, congrArg Sensors.holdn hsensors,
    fun h => (congrArg Sensors.indexAge hsensors).trans (hkept h)⟩
  · rw [htb]
    split <;> rfl
  · rw [htb, if_neg (Nat.not_le.mpr h)]
    exact ⟨rfl, rfl⟩
  · rw [htb, if_pos h]
    exact ⟨rfl, rfl⟩

/-- A cycle inside a microsecond leaves all but the ports, a jog that a break ends and the missed
count (R161, R171, R176). -/
theorem keptBut_cycle_inside {s u : State} (hu : portsPassed s u) (n : Nat) :
    keptBut [.hj, .sv, .ports, .model] s { u with subMicro := n } := by
  have hsame (b : Block) (hb : b ∉ [Block.hj, .sv, .ports, .model]) :
      b.same s { u with subMicro := n } := by
    have hpassed : b.same s u := hu.same b (by simp_all)
    cases b
    case model => simp at hb
    all_goals exact hpassed
  refine ⟨hsame, fun q => ?_⟩
  obtain ⟨hset, hpass⟩ := hu.same .notices (by decide) q
  exact ⟨fun k hk => hset ▸ hk, .inl hpass⟩

/-- One CLKIN cycle does what the rules of TB, SD, SV and the ports give it. -/
theorem cycled_cycle (s : State) : cycled s s.cycle := by
  unfold cycled
  intro k missed
  obtain ⟨u, hu, hinside, hends⟩ := s.cycle_cases
  by_cases hmicro : s.subMicro < 15
  · have hcycle := hinside hmicro
    obtain ⟨hports, hpins, hgt, hpending, hmissed, hmonitor⟩ :=
      cycled_of_front hu (congrArg State.front hcycle) rfl rfl rfl rfl rfl rfl
    refine ⟨hports, hpins, hgt, hpending, hmissed, hmonitor, fun _ => ?_, fun h => ?_⟩
    · rw [hcycle]
      exact ⟨rfl, (hu.same .model (by decide)).2.1, hu.sv, keptBut_cycle_inside hu _⟩
    · exact absurd h (Nat.not_le.mpr hmicro)
  · have hcycle := hends (Nat.not_lt.mp hmicro)
    obtain ⟨age, hfront, hkept⟩ := ({ u with subMicro := 0 } : State).microsecond_front
    rw [← hcycle] at hfront
    obtain ⟨hports, hpins, hgt, hpending, hmissed, hmonitor⟩ := cycled_of_front hu hfront
      (by split <;> rfl) (by split <;> rfl) (by split <;> rfl) (by split <;> rfl) (by split <;> rfl)
      (by split <;> rfl)
    refine ⟨hports, hpins, hgt, hpending, hmissed, hmonitor, fun h => absurd h hmicro, fun _ => ?_⟩
    rw [hcycle]
    have hcounts := State.microsecond_counts { u with subMicro := 0 }
    have htb : u.tb = s.tb := hu.same .tb (by decide)
    have hsd : u.sd = s.sd := hu.same .sd (by decide)
    have hlevels : u.pins = s.pins := hu.same .pins (by decide)
    have hsettings : u.gt = s.gt := hu.same .gt (by decide)
    simpa only [Front.noIndex, State.front, Decoder.sensors, htb, hsd, hlevels, hsettings]
      using hcounts

/-! ### The steps due (log 5) -/

theorem Due.mem_allSteps (d : Due) : d ∈ allSteps := by
  cases d with
  | reply p | notice p | baud p | gap p | assemble p | slot p =>
    cases p <;> simp [allSteps, portSteps]
  | dispatch | openTake | resume | stall | stopLimit => simp [allSteps]

theorem State.mem_dueSteps (s : State) (d : Due) : d ∈ s.dueSteps ↔ d.holds s = true := by
  simp [State.dueSteps, Due.mem_allSteps]

/-- One of the due steps is taken, with the choices made so far (log 5). -/
theorem State.takeDue_mem (s : State) {due : List Due} (h : due ≠ []) :
    ∃ d ∈ due, ∃ n, s.takeDue due = d.act { s with choices := n } := by
  unfold State.takeDue
  split
  case h_1 => exact absurd rfl h
  case h_2 d => exact ⟨d, by simp, s.choices, rfl⟩
  case h_3 d rest _ =>
    have hlt : Config.choice s.choices % (rest.length + 1) < (d :: rest).length :=
      Nat.mod_lt _ (Nat.succ_pos _)
    refine ⟨_, ?_, s.choices + 1, rfl⟩
    rw [List.getD_eq_getElem _ _ hlt]
    exact List.getElem_mem hlt

theorem Due.holds_choices (d : Due) (s : State) (n : Nat) :
    d.holds { s with choices := n } = d.holds s := by
  cases d <;> rfl

/-- A due step is what its command of the table does. -/
theorem Due.exec_command {d : Due} {c : Instr} {s : State} (hclk : s.pins.clkin = true)
    (hd : d.holds s = true) (hc : d.command = some c) : exec c s = .next (d.act s) := by
  have hrun : clocked s (fun u => d.act u) = .next (d.act s) := clocked_run s _ hclk
  cases d with
  | slot p => exact absurd hc (by simp [Due.command])
  | dispatch =>
    have hidle : s.fi.st = .idle := by simp_all [Due.holds]
    cases hc
    exact (clocked_run s _ hclk).trans (by rw [if_pos hidle]; rfl)
  | reply p | notice p | baud p | gap p | assemble p | openTake | resume | stall | stopLimit =>
    cases hc
    exact hrun

theorem Due.act_keeps (d : Due) : keepsCommands d.act := by
  intro s
  cases d with
  | reply p => exact s.replyWrite_pending p
  | notice p => exact s.noticeBuild_pending p
  | baud p => exact s.onPort_pending p _
  | gap p => exact s.onPort_pending p _
  | assemble p => exact s.onPort_pending p _
  | slot p => exact takeSlot_keeps p s
  | dispatch => exact s.dispatchNow_pending
  | openTake => exact s.openTake_pending
  | resume => exact s.starvedResume_pending
  | stall => exact s.stallTimeout_pending
  | stopLimit => exact s.stopLimit_pending

/-- The gap is due in ASSEMBLING with its timer at 384 samples (R180). -/
theorem Due.gap_holds_iff (s : State) (p : Port) : (Due.gap p).holds s = true ↔
    (s.port p).asm.assembling = true ∧ 384 ≤ (s.port p).asm.gap := by
  simp only [Due.holds, Bool.and_eq_true, decide_eq_true_eq]
  rfl

/-- The stop limit is due in FAULT STOPPING with its timer at 100 (R156). -/
theorem Due.stopLimit_holds_iff (s : State) :
    Due.stopLimit.holds s = true ↔ (∃ m, s.fi.st = .stopping m) ∧ 100 ≤ s.sv.stopTimer := by
  unfold Due.holds
  cases s.fi.st <;> simp

/-! ### The block's own step (log 2) -/

theorem State.monitorPeriod_keeps : keepsCommands State.monitorPeriod := by
  intro s
  unfold State.monitorPeriod
  (repeat' split) <;> simp

theorem State.idle_keeps : keepsCommands State.idle := by
  intro s
  unfold State.idle
  (repeat' split)
  · exact State.monitorPeriod_keeps s
  · exact s.clockReturned_pending
  · obtain ⟨-, -, -, hpending, -⟩ := cycled_cycle s
    exact hpending
  · obtain ⟨d, -, n, hact⟩ := s.takeDue_mem (List.cons_ne_nil _ _)
    rw [hact]
    exact d.act_keeps _

theorem State.idle_still {s : State} (hclk : s.pins.clkin = false) : s.idle = s.monitorPeriod := by
  simp [State.idle, hclk]

theorem State.idle_lost {s : State} (hclk : s.pins.clkin = true) (hlost : s.sv.monitor = .lost) :
    s.idle = s.clockReturned := by
  simp [State.idle, hclk, hlost]

theorem State.idle_due {s : State} (hclk : s.pins.clkin = true) (hlost : s.sv.monitor ≠ .lost)
    (hdue : s.dueSteps ≠ []) : s.idle = s.takeDue s.dueSteps := by
  unfold State.idle
  rw [if_neg (by simp [hclk]), if_neg hlost]
  split
  case h_1 h => exact absurd h hdue
  case h_2 h => rw [h]

theorem State.idle_cycle {s : State} (hclk : s.pins.clkin = true) (hlost : s.sv.monitor ≠ .lost)
    (hdue : s.dueSteps = []) : s.idle = s.cycle := by
  simp [State.idle, hclk, hlost, hdue]

/-- Settles O2: every command answers a next state, and with none waiting the block takes a period of
the monitor, the return of the clock, a due step or a CLKIN cycle. -/
theorem stepsComplete : Obligations.StepsComplete := by
  refine ⟨exec_next, fun s hnone => ?_⟩
  intro lost
  have hstep : step s = .next s.idle := by rw [step, hnone]
  rw [hstep]
  refine ⟨?_, fun hclk hmonitor => ?_, fun hclk hmonitor => ⟨fun hmissed => ?_, fun hmissed => ?_⟩,
    fun hclk hlost => ?_, fun hclk hlost hdue => ?_, fun p => ?_, s.mem_dueSteps _, ?_,
    fun hclk hlost hdue => ?_⟩
  · exact ⟨_, rfl, (State.idle_keeps s).trans hnone⟩
  · rw [State.idle_still hclk, State.monitorPeriod]
    split
    · contradiction
    · rfl
  · rw [State.idle_still hclk, State.monitorPeriod, hmonitor]
    exact congrArg _ (if_neg (Nat.not_le.mpr hmissed))
  · have hloss : exec .clockLossFound s = .next s.clockLost := congrArg _ (if_pos hmonitor)
    rw [State.idle_still hclk, State.monitorPeriod, hmonitor, hloss]
    exact congrArg _ (if_pos hmissed)
  · rw [State.idle_lost hclk hlost]
    rfl
  · obtain ⟨d, hd, n, hact⟩ := s.takeDue_mem hdue
    have hholds : d.holds { s with choices := n } = true := by
      rwa [Due.holds_choices, ← State.mem_dueSteps]
    rw [State.idle_due hclk hlost hdue, hact]
    exact ⟨d, hd, n, rfl, fun c hc => (Due.exec_command (by exact hclk) hholds hc).symm⟩
  · rw [State.mem_dueSteps, Due.gap_holds_iff]
  · rw [State.mem_dueSteps, Due.stopLimit_holds_iff]
  · rw [State.idle_cycle hclk hlost hdue]
    exact ⟨_, rfl, cycled_cycle s⟩

end Sys2Proof.Machine
end

section
/-! SUPPORT. What every step keeps of the jog (R127): an operation either leaves FI's state and whether a
jog runs or ends as they are, or leads FI on where no jog is, or begins the quick stop, or ends the jog
together with FI's stay in JOG. -/

namespace Sys2Proof.Machine

/-! ### FI's state beside the jog's phase (R127) -/

/-- Whether the phase is RUNNING or ENDING. -/
def JogPhase.live (p : JogPhase) : Bool := decide (p ≠ .none)

/-- All that R127 speaks of: FI's state, and whether a jog runs or ends. -/
def State.jogView (s : State) : FiState × Bool := (s.fi.st, s.hj.phase.live)

/-- The states of FI in which a jog can be in progress (R127). -/
def FiState.jogs : FiState → Bool
  | .jog => true
  | .stopping _ => true
  | _ => false

theorem FiState.jogs_iff (st : FiState) : st.jogs = true ↔ st = .jog ∨ ∃ m, st = .stopping m := by
  cases st <;> simp [FiState.jogs]

theorem JogPhase.live_iff (p : JogPhase) : p.live = true ↔ p ≠ .none := by simp [JogPhase.live]

theorem State.jogView_eq_iff {s t : State} :
    t.jogView = s.jogView ↔ t.fi.st = s.fi.st ∧ t.hj.phase.live = s.hj.phase.live := Prod.mk_inj

/-- FI's state and HJ's phase untouched, the view is the same. -/
theorem State.jogView_congr {s t : State} (hst : t.fi.st = s.fi.st) (hphase : t.hj.phase = s.hj.phase) :
    t.jogView = s.jogView := by rw [State.jogView, State.jogView, hst, hphase]

theorem State.jogSafe_iff (s : State) : s.jogSafe ↔
    (s.fi.st = .jog → s.hj.phase.live = true) ∧ (s.hj.phase.live = true → s.fi.st.jogs = true) := by
  rw [State.jogSafe, JogPhase.live_iff, FiState.jogs_iff]

/-- Only the view matters. -/
theorem State.jogSafe.congr {s t : State} (h : s.jogSafe) (hv : t.jogView = s.jogView) : t.jogSafe := by
  obtain ⟨hst, hlive⟩ := State.jogView_eq_iff.mp hv
  rw [State.jogSafe_iff] at h ⊢
  rwa [hst, hlive]

/-- In the quick stop the phase may be any. -/
theorem State.jogSafe_of_stopping {s : State} {m : StopMode} (h : s.fi.st = .stopping m) :
    s.jogSafe := by
  simp [State.jogSafe, h]

theorem State.jogSafe.phase_none {s : State} (h : s.jogSafe) (hst : s.fi.st.jogs = false) :
    s.hj.phase = .none := by
  by_contra hphase
  have hjogs : s.fi.st.jogs = true := (s.fi.st.jogs_iff).mpr (h.2 hphase)
  simp [hst] at hjogs

/-- No jog, neither at FI nor at HJ. -/
def State.offJog (s : State) : Prop := s.fi.st ≠ .jog ∧ s.hj.phase = .none

theorem State.offJog.jogSafe {s : State} (h : s.offJog) : s.jogSafe :=
  ⟨fun hst => absurd hst h.1, fun hphase => absurd h.2 hphase⟩

theorem State.jogSafe.offJog {s : State} (h : s.jogSafe) (hst : s.fi.st.jogs = false) : s.offJog :=
  ⟨fun hjog => by simp [hjog, FiState.jogs] at hst, h.phase_none hst⟩

theorem State.enter_offJog {s : State} (hphase : s.hj.phase = .none) {st : FiState} (hst : st ≠ .jog) :
    (s.enter st).offJog := by
  refine ⟨?_, ?_⟩
  · rw [State.enter_fi]
    exact hst
  · rw [State.enter_hj]
    exact hphase

/-- Where FI can pass on while HJ keeps its record: into the quick stop from anywhere, and to any other
state but JOG from one without a jog. -/
def FiState.passesTo (old : FiState) : FiState → Bool
  | .stopping _ => true
  | .jog => false
  | _ => !old.jogs

theorem State.jogSafe.enter {s : State} (h : s.jogSafe) {st : FiState}
    (hto : s.fi.st.passesTo st = true) : (s.enter st).jogSafe := by
  by_cases hstop : ∃ m, st = .stopping m
  · obtain ⟨m, rfl⟩ := hstop
    exact State.jogSafe_of_stopping (by rw [State.enter_fi])
  · have hfrom : s.fi.st.jogs = false ∧ st ≠ .jog := by
      cases st <;> simp_all [FiState.passesTo]
    exact (State.enter_offJog (h.phase_none hfrom.1) hfrom.2).jogSafe

/-! ### The shared operations -/

theorem State.flush_phase (s : State) : s.flush.hj.phase = s.hj.phase := by
  rw [State.flush_hj]
  split <;> rfl

theorem State.releaseContour_phase (s : State) : s.releaseContour.hj.phase = s.hj.phase := by
  rw [State.releaseContour_hj]
  split <;> rfl

theorem State.flush_jogView (s : State) : s.flush.jogView = s.jogView :=
  State.jogView_congr (by rw [State.flush_fi]) s.flush_phase

theorem State.recomputeDemand_jogView (s : State) : s.recomputeDemand.jogView = s.jogView :=
  State.jogView_congr (by rw [State.recomputeDemand_fi]) (by rw [State.recomputeDemand_hj])

theorem State.applyCap_jogView (s : State) : s.applyCap.jogView = s.jogView :=
  State.jogView_congr (by rw [State.applyCap_fi]) (by rw [State.applyCap_hj])

theorem State.takeEntry_jogView (s : State) (e : Entry) : (s.takeEntry e).jogView = s.jogView :=
  State.jogView_congr (by rw [State.takeEntry_fi]) (by rw [State.takeEntry_hj])

/-- A record that goes on or ends in the place of a running one leaves a jog in progress. -/
theorem State.jogView_of_running {s : State} {m : JogMove} (hm : s.hj.phase = .running m)
    {j : HoldsJog} (hj : j.phase.live = true) : State.jogView { s with hj := j } = s.jogView :=
  State.jogView_eq_iff.mpr ⟨rfl, by rw [hm]; exact hj⟩

/-- An end cause puts a running jog in ENDING and starts or ends none (R135). -/
theorem State.endJog_jogView (s : State) (c : EndCause) : (s.endJog c).jogView = s.jogView := by
  unfold State.endJog
  split
  case h_1 m hm => exact State.jogView_of_running hm rfl
  case h_2 => rfl

theorem State.expireWindow_jogView (s : State) : s.expireWindow.jogView = s.jogView := by
  unfold State.expireWindow
  split
  case h_1 m hm =>
    rw [State.endJog_jogView]
    exact State.jogView_of_running hm rfl
  case h_2 => rfl

theorem State.tickWindow_jogView (s : State) : s.tickWindow.jogView = s.jogView := by
  unfold State.tickWindow
  split
  case h_1 m hm =>
    split
    · exact s.expireWindow_jogView
    · exact State.jogView_of_running hm rfl
  case h_2 => rfl

theorem State.onPort_jogView (s : State) (p : Port) (f : PortState → PortState) :
    (s.onPort p f).jogView = s.jogView := State.jogView_congr (by simp) (by simp)

theorem State.findBreak_jogView (s : State) (p : Port) : (s.findBreak p).jogView = s.jogView := by
  have hport := s.onPort_jogView p PortState.takeBreak
  unfold State.findBreak
  dsimp only
  split
  · exact (State.endJog_jogView _ _).trans hport
  · exact hport

/-! ### The hold-reason set (R86, R89) -/

theorem State.jogSafe.holdFeed {s : State} (h : s.jogSafe) : s.holdFeed.jogSafe := by
  unfold State.holdFeed
  split
  case h_7 => exact h
  all_goals
    rename_i hst
    exact h.enter (by rw [hst]; rfl)

theorem Resume.state_passed (r : Resume) {st : FiState} (hst : st.jogs = false) :
    st.passesTo r.state = true := by
  cases r <;> simp [Resume.state, FiState.passesTo, hst]

theorem State.jogSafe.resumeFeed {s : State} (h : s.jogSafe) : s.resumeFeed.jogSafe := by
  unfold State.resumeFeed
  split
  case h_1 r hst => exact h.enter (r.state_passed (by rw [hst]; rfl))
  case h_2 r hst =>
    refine State.jogSafe.enter ?_ (r.state_passed ?_)
    · exact h.congr rfl
    · exact (congrArg FiState.jogs hst).trans rfl
  case h_3 => exact h

theorem State.jogSafe.changeHolds {s : State} (h : s.jogSafe) (x : HoldSet) :
    (s.changeHolds x).jogSafe := by
  have hput : (s.putHolds x).jogSafe := h.congr (State.jogView_congr (by simp) (by simp))
  unfold State.changeHolds
  dsimp only
  (repeat' split)
  · exact hput.holdFeed
  · exact hput.resumeFeed
  · exact hput

theorem State.jogSafe.joinHold {s : State} (h : s.jogSafe) (present : Bool) (x : HoldSet) :
    (s.joinHold present x).jogSafe := by
  unfold State.joinHold
  split
  · exact h
  · exact (h.changeHolds x).congr (State.endJog_jogView _ _)

theorem State.jogSafe.setSlow {s : State} (h : s.jogSafe) (slow : Bool) (clearing : Nat) :
    (s.setSlow slow clearing).jogSafe := by
  unfold State.setSlow
  extract_lets sd s1
  have h1 : s1.jogSafe := h.congr rfl
  split
  · exact h1
  · exact h1.changeHolds _

theorem State.jogSafe.addHold {s : State} (h : s.jogSafe) (p : Port) : (s.addHold p).jogSafe := by
  cases p with
  | job | blade => exact h.joinHold _ _
  | panel => exact h.changeHolds _

theorem State.jogSafe.setBlade {s : State} (h : s.jogSafe) (running : Bool) :
    (s.setBlade running).jogSafe := by
  unfold State.setBlade
  extract_lets sd s1
  have h1 : s1.jogSafe := h.congr rfl
  (repeat' split)
  · exact h
  · exact h1.changeHolds _
  · exact h1.changeHolds _
  · exact h1

theorem State.jogSafe.lineFalls {s : State} (h : s.jogSafe) : s.lineFalls.jogSafe :=
  State.jogSafe.joinHold (s := s.holdnEdge false) (h.congr rfl) _ _

theorem State.jogSafe.lineRises {s : State} (h : s.jogSafe) : s.lineRises.jogSafe :=
  State.jogSafe.changeHolds (s := s.holdnEdge true) (h.congr rfl) _

/-! ### Faults (R93, R94, R152 to R157) -/

/-- The end of the quick stop puts the phase in NONE (R94, R157). -/
theorem State.endStop_offJog (s : State) : s.endStop.offJog :=
  ⟨by simp [State.endStop_fi], s.endStop_phase⟩

/-- The quick stop may leave the jog's phase as it is, and its end clears it (R93, R94). -/
theorem State.beginStop_jogSafe (s : State) : s.beginStop.jogSafe := by
  rcases s.beginStop_cases with ⟨heq, -⟩ | ⟨heq, -⟩ <;> rw [heq]
  · exact State.jogSafe_of_stopping (by rw [State.stopBegun_fi])
  · exact (State.endStop_offJog _).jogSafe

theorem State.jogSafe.reportFault {s : State} (h : s.jogSafe) (c : Cause) :
    (s.reportFault c).jogSafe := by
  unfold State.reportFault
  split
  · exact State.beginStop_jogSafe _
  · exact h.congr rfl

theorem State.jogSafe.reportCrank {s : State} (h : s.jogSafe) (c : Cause) :
    (s.reportCrank c).jogSafe := by
  unfold State.reportCrank
  split
  · exact h
  · exact h.reportFault c

/-! ### The path (R68, R73, R74, R77, R80 to R84) -/

/-- The dispatch leads to IDLE, PRIMING or TRAVERSING (R77). -/
theorem State.dispatchNow_offJog {s : State} (hphase : s.hj.phase = .none) : s.dispatchNow.offJog := by
  unfold State.dispatchNow
  (repeat' split) <;> exact State.enter_offJog (by simpa using hphase) (by nofun)

theorem State.contourEnd_offJog {s : State} (hphase : s.hj.phase = .none) : s.contourEnd.offJog := by
  unfold State.contourEnd
  extract_lets tag dropped fi s1 s2 s3 fi3
  have h3 : s3.hj.phase = .none := by
    simpa [s3, s2, s1, dropped, State.releaseContour_phase] using hphase
  split
  · refine State.enter_offJog ?_ (by nofun)
    exact h3
  · exact State.dispatchNow_offJog h3

theorem State.offJog.stopEnd {s : State} (h : s.offJog) (e : Entry) : (s.stopEnd e).offJog := by
  have h1 : (s.stopAt e).offJog := h
  unfold State.stopEnd
  dsimp only
  split
  · exact h1
  split
  · exact State.dispatchNow_offJog h.2
  split
  · exact State.contourEnd_offJog h.2
  split
  · unfold State.starve
    refine State.enter_offJog ?_ (by nofun)
    exact h.2
  · unfold State.startPivot
    dsimp only
    split <;> exact State.enter_offJog (by simpa using h.2) (by nofun)

theorem FiState.crawling_ne_jog {st : FiState} (h : st ≠ .jog) : st.crawling ≠ .jog := by
  cases st with
  | holding r => cases r <;> nofun
  | stopping m => cases m <;> nofun
  | jog => exact absurd rfl h
  | _ => nofun

theorem State.offJog.carryEnd {s : State} (h : s.offJog) (e next : Entry) (turn : Bool) (whole : Nat) :
    (s.carryEnd e next turn whole).1.offJog := by
  refine ⟨?_, by rw [State.carryEnd_hj]; exact h.2⟩
  rcases s.carryEnd_st e next turn whole with hst | hst <;> rw [hst]
  · exact h.1
  · exact FiState.crawling_ne_jog h.1

theorem State.offJog.runEnds (fuel : Nat) {s : State} (h : s.offJog) (whole : Nat) :
    (State.runEnds fuel s whole).offJog := by
  induction fuel generalizing s whole with
  | zero => exact h
  | succ fuel ih =>
    unfold State.runEnds
    split
    · exact h
    split
    · exact h
    split
    · exact ih (h.carryEnd ..) _
    · exact h.stopEnd _

theorem State.offJog.move {s : State} (h : s.offJog) : s.move.offJog :=
  State.offJog.runEnds _ (s := s.advance.1) h _

/-- The take of a cut entry that ends a slew or STARVED (R80, R83). -/
theorem State.jogSafe.takeCut {s : State} (h : s.jogSafe) (e : Entry) {st : FiState}
    (hto : s.fi.st.passesTo st = true) : (((s.takeEntry e).limitBudget e).enter st).jogSafe := by
  have htaken : ((s.takeEntry e).limitBudget e).jogView = s.jogView := s.takeEntry_jogView e
  refine (h.congr htaken).enter ?_
  rwa [(State.jogView_eq_iff.mp htaken).1]

theorem State.jogSafe.slew {s : State} (h : s.jogSafe) (hst : s.fi.st = .pivotEntry) :
    s.slew.jogSafe := by
  have hturned (n : Nat) : State.jogSafe { s with fi := { s.fi with h := n } } := h.congr rfl
  unfold State.slew
  split
  · split
    · dsimp only
      split
      · exact (hturned _).takeCut _ (by simp only [hst]; rfl)
      · exact hturned _
    · exact h
  · exact h

/-! ### Jog, quick stop and the expiry (R92, R93, R131 to R136) -/

/-- The motion of a jog leaves its phase and FI in JOG (R131 to R133). -/
theorem State.jogStep_jogView (s : State) : s.jogStep.jogView = s.jogView := by
  unfold State.jogStep
  (repeat' split) <;> rfl

/-- The phase becomes NONE together with FI's return to IDLE (R136). -/
theorem State.jogSafe.jogComplete {s : State} (h : s.jogSafe) : s.jogComplete.jogSafe := by
  unfold State.jogComplete
  split
  · split
    · exact (State.enter_offJog (State.flush_phase _) (by nofun)).jogSafe
    · exact h
  · exact h

/-- With a jog in progress the quick stop moves its axis, else the path (R93, R132). -/
theorem State.stopMove_jogSafe {s : State} {m : StopMode} (hst : s.fi.st = .stopping m) :
    s.stopMove.jogSafe := by
  unfold State.stopMove
  split
  · split <;> exact State.jogSafe_of_stopping hst
  · split
    case h_1 hmove _ _ _ =>
      have hphase : s.hj.phase = .none := by
        cases hp : s.hj.phase <;> simp_all [JogPhase.move]
      exact (State.offJog.move ⟨by simp [hst], hphase⟩).jogSafe
    case h_2 => exact State.jogSafe_of_stopping hst

theorem State.jogSafe.feedWork {s : State} (h : s.jogSafe) : s.feedWork.jogSafe := by
  have hmove (hst : s.fi.st.jogs = false) : s.move.handOff.offJog := (h.offJog hst).move
  unfold State.feedWork
  split
  case h_1 | h_2 => exact h
  case h_3 hst => exact (h.slew hst).congr rfl
  case h_4 hst | h_5 hst | h_6 hst => exact (hmove (by rw [hst]; rfl)).jogSafe
  case h_7 hst =>
    have hmoved := hmove (by rw [hst]; rfl)
    dsimp only
    split
    · split
      · exact (State.enter_offJog hmoved.2 (by nofun)).jogSafe
      · exact hmoved.jogSafe
    · exact hmoved.jogSafe
  case h_8 =>
    refine State.jogSafe.jogComplete ?_
    exact h.congr s.jogStep_jogView
  case h_9 hst =>
    dsimp only
    split
    · exact (State.endStop_offJog _).jogSafe
    · exact (State.stopMove_jogSafe hst).congr rfl
  case h_10 => exact h.congr rfl

theorem State.jogSafe.stopLimit {s : State} (h : s.jogSafe) : s.stopLimit.jogSafe := by
  unfold State.stopLimit
  split
  · exact (State.endStop_offJog _).jogSafe
  · exact h

theorem State.jogSafe.tickStop {s : State} (h : s.jogSafe) : s.tickStop.jogSafe :=
  h.congr (State.jogView_congr (by simp) (by simp))

theorem State.jogSafe.tickWindow {s : State} (h : s.jogSafe) : s.tickWindow.jogSafe :=
  h.congr s.tickWindow_jogView

theorem State.jogSafe.feedPeriod {s : State} (h : s.jogSafe) : s.feedPeriod.jogSafe := by
  have htick : s.tick.jogSafe := h.congr (State.jogView_congr (by simp) (by simp))
  exact htick.feedWork.tickWindow

/-! ### The takes of an OPEN and of STARVED (R79, R83) -/

theorem State.jogSafe.openTake {s : State} (h : s.jogSafe) : s.openTake.jogSafe := by
  have htake (hst : s.fi.st = .priming) (e : Entry) (c : Contour) : (s.takeOpen e c).jogSafe := by
    have htaken : (s.openTaken e c).jogSafe := by
      refine (State.enter_offJog ?_ (by nofun)).jogSafe
      simpa using h.phase_none (by rw [hst]; rfl)
    rw [State.takeOpen_eq]
    split
    · exact htaken.setSlow _ _
    · exact htaken
  unfold State.openTake
  (repeat' split)
  case isTrue hready => exact htake ((State.openReady_iff s).mp hready).1 _ _
  all_goals exact h

theorem State.jogSafe.starvedResume {s : State} (h : s.jogSafe) : s.starvedResume.jogSafe := by
  have hclass (c : Contour) (e : Entry) : FiState.starved.passesTo (s.resumeClass c e) = true := by
    unfold State.resumeClass
    (repeat' split) <;> rfl
  unfold State.starvedResume
  split
  case h_1 c e _ _ _ =>
    split
    case isTrue hready =>
      have hst : s.fi.st = .starved := by simp_all
      exact h.takeCut e (by rw [hst]; exact hclass c e)
    case isFalse => exact h
  case h_2 => exact h

end Sys2Proof.Machine
end

section
/-! SUPPORT. What the crank, the return of the clock and the block's own cycle keep of the jog (R127): the turns of
a valid index, faults, and the millisecond with its tick at HJ. -/

namespace Sys2Proof.Machine

/-! ### The crank and the index (R73 to R75, R104 to R109, R114) -/

theorem State.jogSafe.missIndex {s : State} (h : s.jogSafe) : s.missIndex.jogSafe := by
  unfold State.missIndex
  extract_lets run sd s1
  have h1 : s1.jogSafe := h.congr rfl
  split
  · exact h1.reportCrank _
  · exact h1

theorem State.jogSafe.crankEdge {s : State} (h : s.jogSafe) (onA onB : Bool) :
    (s.crankEdge onA onB).jogSafe := by
  have h1 : (s.crankSample onA onB).jogSafe := h.congr rfl
  have hforward : (s.crankSample onA onB).countForward.jogSafe := by
    unfold State.countForward
    extract_lets sd s1
    split
    · exact State.jogSafe.missIndex (h1.congr (by rfl))
    · exact h1.congr rfl
  have hback : (s.crankSample onA onB).countBack.jogSafe := by
    unfold State.countBack
    dsimp only
    split
    · exact State.jogSafe.reportCrank (h1.congr (by rfl)) _
    · exact h1.congr rfl
  unfold State.crankEdge
  dsimp only
  (repeat' split)
  · exact h1.congr rfl
  · exact h1
  · exact hforward
  · exact hback

/-- What a valid index turns leads FI on outside JOG, or inside the quick stop (R73 to R75, R93). -/
theorem State.jogSafe.indexTurn {s : State} (h : s.jogSafe) (c : Contour) :
    (s.indexTurn c).jogSafe := by
  have hto {old st : FiState} (hst : s.fi.st = old) (hto : old.passesTo st = true) (u : State)
      (hu : u.jogView = s.jogView) : (u.enter st).jogSafe :=
    (h.congr hu).enter (by rw [(State.jogView_eq_iff.mp hu).1, hst]; exact hto)
  have hcrawl {old normal : FiState} (hst : s.fi.st = old) (hnormal : old.passesTo normal = true) :
      (s.crawlStep c normal).jogSafe := by
    unfold State.crawlStep
    dsimp only
    split
    · exact hto hst hnormal _ rfl
    · exact h.congr rfl
  unfold State.indexTurn
  split
  case h_1 hst =>
    unfold State.cornerStep
    dsimp only
    (repeat' split)
    · exact h
    · exact hto hst rfl _ rfl
    · exact hto hst rfl _ rfl
    · exact h.congr rfl
  case h_2 hst =>
    unfold State.settleStep
    dsimp only
    split
    · exact hto hst rfl _ rfl
    · exact h.congr rfl
  case h_3 hst | h_4 hst | h_5 hst => exact hcrawl hst rfl
  case h_6 => exact h.congr rfl
  case h_7 => exact h

theorem State.refresh_jogView (s : State) : s.refresh.jogView = s.jogView := by
  unfold State.refresh
  split <;> rfl

theorem State.jogSafe.indexEvent {s : State} (h : s.jogSafe) (withPeriod : Bool) :
    (s.indexEvent withPeriod).jogSafe := by
  have hbegun : (if withPeriod then s.refresh else s).jogSafe := by
    split
    · exact h.congr s.refresh_jogView
    · exact h
  unfold State.indexEvent
  extract_lets s1
  split
  · exact State.jogSafe.congr hbegun s1.applyCap_jogView
  · refine State.jogSafe.indexTurn (State.jogSafe.congr ?_ (State.applyCap_jogView _)) _
    exact State.jogSafe.congr hbegun rfl

theorem State.jogSafe.crankIndex {s : State} (h : s.jogSafe) : s.crankIndex.jogSafe := by
  unfold State.crankIndex
  extract_lets s1
  have h1 : s1.jogSafe := h.congr rfl
  split
  · exact State.jogSafe.setSlow (State.jogSafe.indexEvent (h1.congr (by rfl)) _) _ _
  · unfold State.slipIndex
    extract_lets run sd s2
    have h2 : s2.jogSafe := h1.congr rfl
    split
    · exact h2.reportCrank _
    · exact h2

theorem State.jogSafe.slowOverdue {s : State} (h : s.jogSafe) : s.slowOverdue.jogSafe := by
  unfold State.slowOverdue
  split
  · exact h
  · exact State.jogSafe.setSlow (h.congr (by rfl)) _ _

theorem State.jogSafe.stallTimeout {s : State} (h : s.jogSafe) : s.stallTimeout.jogSafe := by
  unfold State.stallTimeout
  (repeat' split)
  · exact State.jogSafe.reportFault (h.congr (by rfl)) _
  · exact State.jogSafe.reportFault (h.congr (by rfl)) _
  · exact h

/-! ### Loss and return of the clock (R94, R161 to R163) -/

theorem State.jogSafe.clockReturned {s : State} (h : s.jogSafe) : s.clockReturned.jogSafe := by
  have hfall {u : State} (hu : u.jogView = s.jogView) : u.lossFall.jogSafe :=
    h.congr ((State.jogView_congr (by simp) (by simp [State.lossFall])).trans hu)
  have hstop (u : State) : u.stopDirect.jogSafe := (State.endStop_offJog _).jogSafe
  unfold State.clockReturned
  extract_lets pins sv s1
  split
  · refine State.jogSafe.congr (s := s1.returnAction) ?_ rfl
    unfold State.returnAction
    split
    · exact hfall rfl
    · exact hstop _
    · exact hfall rfl
    · split <;> exact hstop _
  · exact h.congr rfl

/-! ### The block's own cycle (R98, R101, R171) -/

theorem State.portCycle_jogView (s : State) (p : Port) : (s.portCycle p).jogView = s.jogView := by
  have hsample (u : State) : (u.samplePort p).jogView = u.jogView := by
    unfold State.samplePort
    dsimp only
    split
    · exact (State.findBreak_jogView _ p).trans (u.onPort_jogView p _)
    · exact u.onPort_jogView p _
  have hrx : (s.rxCycle p).jogView = s.jogView := by
    unfold State.rxCycle
    dsimp only
    split
    · exact (hsample _).trans (s.onPort_jogView p _)
    · exact s.onPort_jogView p _
  exact (State.onPort_jogView _ p _).trans hrx

theorem State.jogSafe.strokeSample {s : State} (h : s.jogSafe) (edge : Bool) :
    (s.strokeSample edge).jogSafe := by
  have hindex {u : State} (hu : u.jogSafe) : (u.indexSample edge).jogSafe := by
    unfold State.indexSample
    (repeat' split)
    · exact hu.crankIndex
    · exact hu.congr rfl
    · exact hu
  have hoverdue {u : State} (hu : u.jogSafe) : u.overdueTest.jogSafe := by
    unfold State.overdueTest
    split
    · exact hu.setSlow _ _
    · exact hu
  have hchosen : s.chosen.jogSafe := h.congr rfl
  rcases s.strokeSample_cases edge with he | he | he <;> rw [he]
  · exact hoverdue (hindex h)
  · exact hoverdue (hindex hchosen)
  · exact hoverdue (hindex (hoverdue hchosen))

theorem State.jogSafe.sampleInputs {s : State} (h : s.jogSafe) : s.sampleInputs.jogSafe := by
  have hline {u : State} (hu : u.jogSafe) (edge : Bool) : (u.lineSample edge).jogSafe := by
    unfold State.lineSample
    (repeat' split)
    · exact hu.lineRises
    · exact hu.lineFalls
    · exact hu
  have hblade {u : State} (hu : u.jogSafe) (onA onB edge : Bool) :
      (u.bladeSample onA onB edge).jogSafe := by
    unfold State.bladeSample
    split
    · exact (hu.crankEdge onA onB).strokeSample edge
    · exact hu.strokeSample edge
  unfold State.sampleInputs
  extract_lets k ca cb cz holdn sd s1
  have h1 : s1.jogSafe := h.congr rfl
  have hchosen : s1.chosen.jogSafe := h.congr rfl
  (repeat' split)
  · exact hblade (hline hchosen _) _ _ _
  · exact hline (hblade hchosen _ _ _) _
  · exact hline (hblade h1 _ _ _) _

theorem State.jogSafe.millisecond {s : State} (h : s.jogSafe) : s.millisecond.jogSafe := by
  have hchosen {u : State} (hu : u.jogSafe) : u.chosen.jogSafe := hu.congr rfl
  have hstall {u : State} (hu : u.jogSafe) : u.stallFirst.jogSafe := by
    rcases u.stallFirst_cases with he | he | he <;> rw [he]
    · exact hu
    · exact hchosen hu
    · exact (hchosen hu).stallTimeout
  have hlimit {u : State} (hu : u.jogSafe) : u.limitFirst.jogSafe := by
    rcases u.limitFirst_cases with he | he | he <;> rw [he]
    · exact hu
    · exact hchosen hu
    · exact (hchosen hu).stopLimit
  have hticked : s.tickTime.tickDecoder.jogSafe := h.congr rfl
  exact (hlimit (hstall hticked).tickStop).feedWork.tickWindow

theorem State.jogSafe.microsecond {s : State} (h : s.jogSafe) : s.microsecond.jogSafe := by
  have h1 : s.passMicro.jogSafe := h.congr rfl
  have hchosen : s.passMicro.chosen.jogSafe := h.congr rfl
  have hmeets {u : State} (hu : u.jogSafe) (v : State) : (u.stallMeets v).jogSafe := by
    rcases u.stallMeets_cases v with he | he <;> rw [he]
    · exact hu
    · exact hu.congr rfl
  have hslots {u : State} (hu : u.jogSafe) : u.slots.jogSafe := hu.congr rfl
  unfold State.microsecond
  dsimp only
  refine hslots ?_
  (repeat' split)
  · exact (hmeets hchosen.sampleInputs _).millisecond
  · exact hchosen.millisecond.sampleInputs
  · exact h1.sampleInputs

theorem State.jogSafe.cycle {s : State} (h : s.jogSafe) : s.cycle.jogSafe := by
  have hedge : s.clockEdge.jogView = s.jogView := by rw [State.clockEdge_eq]; rfl
  have hports : s.portsCycled.jogSafe := by
    refine h.congr ?_
    simp only [State.portsCycled, State.portCycle_jogView, hedge]
  unfold State.cycle
  dsimp only
  split
  · refine State.jogSafe.microsecond ?_
    exact hports.congr rfl
  · exact hports.congr rfl

end Sys2Proof.Machine
end

section
/-! SUPPORT. What the requests, the commands and so every step keep of the jog (R127). -/

namespace Sys2Proof.Machine

/-! ### The owners of the requests -/

/-- Whatever the state, `f` keeps the invariant. -/
def jogSteps (f : State → State) : Prop := ∀ s : State, s.jogSafe → (f s).jogSafe

/-- What leaves FI's state and HJ's phase keeps the invariant. -/
theorem jogSteps.of_same {f : State → State} (hst : ∀ s, (f s).fi.st = s.fi.st)
    (hphase : ∀ s, (f s).hj.phase = s.hj.phase) : jogSteps f :=
  fun s h => h.congr (State.jogView_congr (hst s) (hphase s))

theorem jogSteps.arrive {take : State → State} (hf : jogSteps take) (p : Port) (chars : List Byte) :
    jogSteps fun s => s.arrive p chars take := by
  intro s h
  have hport (q : PortState) : (s.setPort p q).jogSafe :=
    h.congr (State.jogView_congr (by simp) (by simp))
  unfold State.arrive
  dsimp only
  (repeat' split)
  case isTrue.isTrue => exact hf _ (hport _)
  all_goals exact hport _

theorem jogSteps.onPort (p : Port) (f : PortState → PortState) : jogSteps fun s => s.onPort p f :=
  fun s h => h.congr (s.onPort_jogView p f)

theorem jogSteps.busy (p : Port) (kind : Byte) (r : Reply) : jogSteps fun s => s.busy p kind r :=
  .of_same (fun s => by simp) (fun s => by simp)

theorem jogSteps.takeRequest {owner : State → State × Reply} (ho : jogSteps fun s => (owner s).1)
    {p : Port} {kind : Byte} {roles : List Port} {n : Nat} {d turned : List Byte} :
    jogSteps fun s => s.takeRequest p kind roles n d turned owner := by
  intro s h
  unfold State.takeRequest
  (repeat' split)
  · exact jogSteps.busy _ _ _ s h
  · exact jogSteps.busy _ _ _ s h
  · exact jogSteps.busy _ _ _ _ (ho s h)

/-- What an owner does to the state keeps the invariant. -/
def jogOwner (owner : State → State × Reply) : Prop := jogSteps fun s => (owner s).1

theorem jogOwner.of_state {owner : State → State × Reply} (ho : ∀ s, (owner s).1 = s) :
    jogOwner owner :=
  .of_same (fun s => by rw [ho]) (fun s => by rw [ho])

theorem ownOnline_jogOwner (d : List Byte) : jogOwner (ownOnline d) := by
  intro s h
  simp only [ownOnline]
  split
  case isTrue hst => exact State.jogSafe.congr (h.enter (by rw [hst]; rfl)) rfl
  case isFalse => exact h

theorem ownMachine_jogOwner (d : List Byte) : jogOwner (ownMachine d) := by
  refine .of_same (fun s => ?_) (fun s => ?_) <;>
  · simp only [ownMachine]
    (repeat' split) <;> simp

theorem ownGrade_jogOwner (d : List Byte) : jogOwner (ownGrade d) := by
  intro s h
  simp only [ownGrade]
  (repeat' split)
  · exact h
  · exact h.congr (State.recomputeDemand_jogView _)
  · exact h.congr rfl

theorem ownOrigin_jogOwner (d : List Byte) : jogOwner (ownOrigin d) := by
  refine .of_same (fun s => ?_) (fun s => ?_) <;>
  · simp only [ownOrigin]
    (repeat' split) <;> rfl

theorem ownArm_jogOwner (d : List Byte) : jogOwner (ownArm d) := by
  refine .of_same (fun s => ?_) (fun s => ?_) <;>
  · simp only [ownArm]
    split <;> rfl

theorem ownJogLock_jogOwner (d : List Byte) : jogOwner (ownJogLock d) := by
  refine .of_same (fun s => ?_) (fun s => ?_) <;>
  · simp only [ownJogLock]
    split <;> rfl

theorem ownOffset_jogOwner (d : List Byte) : jogOwner (ownOffset d) := by
  refine .of_same (fun s => ?_) (fun s => ?_) <;>
  · simp only [ownOffset]
    split <;> rfl

/-- An entry that joins changes D alone of FI (R13, R59). -/
theorem State.jogSafe.acceptReply {s : State} (h : s.jogSafe) (e : Entry) (clamped : Bool) :
    (s.acceptReply e clamped).1.jogSafe := by
  refine h.congr (State.jogView_congr ?_ ?_) <;> simp only [State.acceptReply]
  · rw [State.acceptEntry_fi]
  · rw [State.acceptEntry_hj]

theorem ownTraverse_jogOwner (d : List Byte) : jogOwner (ownTraverse d) := by
  intro s h
  simp only [ownTraverse]
  (repeat' split)
  case isFalse.isFalse => exact h.acceptReply _ _
  all_goals exact h

theorem ownOpen_jogOwner (d : List Byte) : jogOwner (ownOpen d) := by
  intro s h
  simp only [ownOpen]
  (repeat' split)
  case isFalse.isFalse.isFalse => exact h.acceptReply _ _
  all_goals exact h

theorem ownLine_jogOwner (d : List Byte) : jogOwner (ownLine d) := by
  intro s h
  simp only [ownLine]
  (repeat' split)
  case isFalse.isFalse => exact h.acceptReply _ _
  all_goals exact h

theorem ownArc_jogOwner (d : List Byte) : jogOwner (ownArc d) := by
  intro s h
  simp only [ownArc]
  (repeat' split)
  case isFalse.isFalse.isFalse.isFalse => exact h.acceptReply _ _
  all_goals exact h

theorem ownRun_jogOwner (d : List Byte) : jogOwner (ownRun d) := by
  refine .of_same (fun s => ?_) (fun s => ?_) <;>
  · simp only [ownRun]
    split <;> rfl

theorem ownPauseAfter_jogOwner (d : List Byte) : jogOwner (ownPauseAfter d) := by
  intro s h
  simp only [ownPauseAfter, State.pauseRun]
  split
  · exact h.congr rfl
  split
  case isTrue hst =>
    refine State.jogSafe.enter (h.congr (by rfl)) ?_
    exact (congrArg (FiState.passesTo · .idle) hst).trans rfl
  case isFalse => exact h.congr rfl

theorem ownFlush_jogOwner (d : List Byte) : jogOwner (ownFlush d) := by
  intro s h
  simp only [ownFlush]
  split
  case isTrue hflush =>
    refine State.jogSafe.enter (h.congr s.flush_jogView) ?_
    rw [State.flush_fi]
    cases hst : s.fi.st <;> simp_all [FiState.flushable, FiState.passesTo, FiState.jogs]
  case isFalse => exact h

/-- RESET_CUT ends a jog with FI's stay in JOG (R91, R135). -/
theorem ownResetCut_jogOwner (d : List Byte) : jogOwner (ownResetCut d) := by
  intro s h
  simp only [ownResetCut]
  split
  · exact h
  · refine State.offJog.jogSafe ⟨?_, ?_⟩
    · simp [State.resetCut_fi, Interpolator.flushed]
    · rw [State.resetCut_hj]

theorem ownClearFault_jogOwner (d : List Byte) : jogOwner (ownClearFault d) := by
  intro s h
  simp only [ownClearFault]
  split
  case isTrue => exact h
  case isFalse hst =>
    split
    · exact h
    · refine State.offJog.jogSafe ⟨?_, ?_⟩
      · simp [State.clearFault_fi, Interpolator.flushed]
      · rw [State.clearFault_hj]
        exact h.phase_none (by rw [not_not.mp hst]; rfl)

theorem ownBladeState_jogOwner (d : List Byte) : jogOwner (ownBladeState d) := by
  intro s h
  simp only [ownBladeState]
  split
  · exact h
  · exact h.setBlade _

theorem ownOverride_jogOwner (d : List Byte) : jogOwner (ownOverride d) := by
  intro s h
  simp only [ownOverride, State.setOverride]
  split
  · exact h
  · exact h.congr ((State.recomputeDemand_jogView _).trans (State.applyCap_jogView _))

/-- A jog starts with FI in JOG and the phase RUNNING (R129). -/
theorem ownJogStart_jogOwner (d : List Byte) : jogOwner (ownJogStart d) := by
  have hstart (s : State) (axis : Axis) (positive : Bool) (speed : Nat) :
      (s.startJog axis positive speed).jogSafe := by
    rw [State.jogSafe, State.startJog_fi, State.startJog_hj]
    exact ⟨fun _ => nofun, fun _ => .inl rfl⟩
  intro s h
  simp only [ownJogStart]
  (repeat' split)
  case h_2.isFalse.isFalse.isFalse.isFalse => exact hstart s _ _ _
  all_goals exact h

theorem ownJogKeep_jogOwner (d : List Byte) : jogOwner (ownJogKeep d) := by
  intro s h
  simp only [ownJogKeep]
  split
  case h_1 m hm =>
    refine h.congr ?_
    unfold State.keepJog
    split
    · exact s.endJog_jogView .early
    · exact State.jogView_of_running hm rfl
  case h_2 => exact h

theorem ownJogEnd_jogOwner (d : List Byte) : jogOwner (ownJogEnd d) := by
  intro s h
  simp only [ownJogEnd]
  split
  · exact h.congr (s.endJog_jogView .ended)
  · exact h

/-! ### The requests, taken on arrival or from the slot -/

theorem takeKind_jogSteps (p : Port) (kind : Byte) (d : List Byte) : jogSteps (takeKind p kind d) := by
  unfold takeKind
  split
  · exact .takeRequest (ownOnline_jogOwner d)
  · exact .takeRequest (ownMachine_jogOwner d)
  · exact .takeRequest (ownGrade_jogOwner d)
  · exact .takeRequest (owner := ownLevels d) (.of_same (fun _ => rfl) fun _ => rfl)
  · exact .takeRequest (ownOrigin_jogOwner d)
  · exact .takeRequest (ownArm_jogOwner d)
  · exact .takeRequest (owner := ownSyncTime d) (.of_same (fun _ => rfl) fun _ => rfl)
  · exact .takeRequest (ownJogLock_jogOwner d)
  · exact fun s => jogSteps.takeRequest (ownTraverse_jogOwner d) s
  · exact fun s => jogSteps.takeRequest (ownOpen_jogOwner d) s
  · exact fun s => jogSteps.takeRequest (ownLine_jogOwner d) s
  · exact fun s => jogSteps.takeRequest (ownArc_jogOwner d) s
  · exact .takeRequest (ownRun_jogOwner d)
  · exact .takeRequest (ownPauseAfter_jogOwner d)
  · exact .takeRequest (ownFlush_jogOwner d)
  · exact .takeRequest (ownResetCut_jogOwner d)
  · exact .takeRequest (ownClearFault_jogOwner d)
  · exact .takeRequest (owner := ownHold p d) (fun s h => h.addHold p)
  · exact .takeRequest (owner := ownRelease p d) (fun s h => h.changeHolds _)
  · exact .takeRequest (ownBladeState_jogOwner d)
  · exact .takeRequest (ownOffset_jogOwner d)
  · exact .takeRequest (ownOverride_jogOwner d)
  · exact .takeRequest (ownJogStart_jogOwner d)
  · exact .takeRequest (ownJogKeep_jogOwner d)
  · exact .takeRequest (ownJogEnd_jogOwner d)
  · exact .takeRequest (owner := ownProgress d) (jogOwner.of_state fun _ => rfl)
  · exact .takeRequest (jogOwner.of_state (ownStatus_state d))
  · exact .takeRequest (owner := ownStroke d) (jogOwner.of_state fun _ => rfl)
  · exact .takeRequest (jogOwner.of_state (ownReadGrade_state d))
  · exact .takeRequest (jogOwner.of_state (ownReadPort_state d))
  · exact .takeRequest (owner := ownSetBaud p d)
      (.onPort p _)
  · exact .busy p _ _

/-! ### The commands and the block's own step -/

/-- Whatever the state, the command keeps the invariant. -/
def Instr.jogKept (c : Instr) : Prop :=
  ∀ s t : State, s.jogSafe → exec c s = .next t → t.jogSafe

theorem Instr.jogKept.of_clocked {c : Instr} {f : State → State} (hc : ∀ s, exec c s = clocked s f)
    (hf : jogSteps f) : Instr.jogKept c := by
  intro s t h ht
  obtain rfl : (if s.pins.clkin then f s else s) = t := by
    rw [hc] at ht
    injection ht
  split
  · exact hf s h
  · exact h

/-- A clocked command that leaves FI's state and HJ's phase. -/
theorem Instr.jogKept.of_same {c : Instr} {f : State → State} (hc : ∀ s, exec c s = clocked s f)
    (hst : ∀ s, (f s).fi.st = s.fi.st) (hphase : ∀ s, (f s).hj.phase = s.hj.phase) :
    Instr.jogKept c :=
  .of_clocked hc (.of_same hst hphase)

/-- A request command takes the telegram of its kind. -/
theorem Instr.jogKept.request {c : Instr} {p : Port} {kind : Byte} {d : List Byte}
    (hc : ∀ s, exec c s = clocked s fun s => s.arrive p (telegram kind d) (takeKind p kind d)) :
    Instr.jogKept c :=
  .of_clocked hc ((takeKind_jogSteps p kind d).arrive p _)

theorem exec_jogKept (c : Instr) : Instr.jogKept c := by
  cases c with
  | powerOn straps lines | resetn straps lines =>
    intro s t _ ht
    cases ht
    exact State.offJog.jogSafe ⟨nofun, rfl⟩
  | clockLossFound =>
    intro s t h ht
    cases ht
    split
    · exact h.congr rfl
    · exact h
  | clockReturn =>
    intro s t h ht
    cases ht
    exact h.clockReturned
  | online p d | setMachine p d | setGrade p d | setLevels p d | setOrigin p d | armSupervision p d
  | syncTime p d | setJogLock p d | queueTraverse p d | queueOpen p d | queueLine p d | queueArc p d
  | run p d | pauseAfter p d | flush p d | resetCut p d | clearFault p d | hold p d | release p d
  | bladeState p d | setBladeOffset p d | setOverride p d | jogStart p d | jogKeep p d | jogEnd p d
  | readProgress p d | readStatus p d | readStroke p d | readGrade p d | readPort p d | setBaud p d =>
    exact .request fun _ => rfl
  | checkDiscard p chars =>
    refine .of_clocked (fun _ => rfl) fun s h => ?_
    split
    · exact jogSteps.arrive (.onPort p _) p chars s h
    · exact h
  | unknownKindTelegram p kind d =>
    refine .of_clocked (fun _ => rfl) fun s h => ?_
    split
    · exact h
    · exact jogSteps.arrive (.busy p _ _) p _ s h
  | baudSwitch p | guardEnd p | assemblerTake p | gapExpiry p | characterSent p =>
    exact .of_clocked (fun _ => rfl) (.onPort p _)
  | replyWrite p | noticeBuild p =>
    exact .of_same (fun _ => rfl) (fun s => by simp) fun s => by simp
  | rxCharacter p value mark stop noise | lowPhaseReturn p | breakPhaseEnd p =>
    exact .of_same (fun _ => rfl) (fun s => by split <;> simp) fun s => by split <;> simp
  | startBitVerify p s3 s5 s7 =>
    exact .of_same (fun _ => rfl) (fun s => by (repeat' split) <;> simp)
      fun s => by (repeat' split) <;> simp
  | stepSlot axis => exact .of_same (fun _ => rfl) (fun _ => rfl) fun _ => rfl
  | breakFound p =>
    refine .of_clocked (fun _ => rfl) fun s h => ?_
    split
    · exact h.congr (s.findBreak_jogView p)
    · exact h
  | feedPeriodExpiry => exact .of_clocked (fun _ => rfl) fun s h => h.feedPeriod
  | dispatch =>
    refine .of_clocked (fun _ => rfl) fun s h => ?_
    split
    case isTrue hst => exact (State.dispatchNow_offJog (h.phase_none (by rw [hst]; rfl))).jogSafe
    case isFalse => exact h
  | openTake => exact .of_clocked (fun _ => rfl) fun s h => h.openTake
  | starvedResume => exact .of_clocked (fun _ => rfl) fun s h => h.starvedResume
  | crankEdge onA onB =>
    refine .of_clocked (fun _ => rfl) fun s h => ?_
    split
    · exact h.crankEdge onA onB
    · exact h
  | crankIndex => exact .of_clocked (fun _ => rfl) fun s h => h.crankIndex
  | slowOverdue => exact .of_clocked (fun _ => rfl) fun s h => h.slowOverdue
  | holdnFall =>
    refine .of_clocked (fun _ => rfl) fun s h => ?_
    split
    · exact h.lineFalls
    · exact h
  | holdnRise =>
    refine .of_clocked (fun _ => rfl) fun s h => ?_
    split
    · exact h
    · exact h.lineRises
  | stallTimeout => exact .of_clocked (fun _ => rfl) fun s h => h.stallTimeout
  | windowExpiry => exact .of_clocked (fun _ => rfl) fun s h => h.congr s.expireWindow_jogView
  | stopLimitExpiry => exact .of_clocked (fun _ => rfl) fun s h => h.stopLimit

theorem State.jogSafe.takeSlot {s : State} (h : s.jogSafe) (p : Port) : (s.takeSlot p).jogSafe := by
  have htelegram (chars : List Byte) {u : State} (hu : u.jogSafe) :
      (u.takeTelegram p chars).jogSafe := by
    unfold State.takeTelegram
    split
    · exact jogSteps.onPort p _ u hu
    · exact takeKind_jogSteps p _ _ u hu
  unfold State.takeSlot
  (repeat' split)
  · exact h
  · exact htelegram _ (jogSteps.onPort p _ s h)
  · exact h

/-- A due step does what its command of the table does; the take of the slot has none (log 2). -/
theorem Due.act_jogSafe (d : Due) {s : State} (h : s.jogSafe) (hclk : s.pins.clkin = true)
    (hd : d.holds s = true) : (d.act s).jogSafe := by
  cases hc : d.command with
  | some c => exact exec_jogKept c s _ h (Due.exec_command hclk hd hc)
  | none =>
    cases d with
    | slot p => exact h.takeSlot p
    | _ => exact absurd hc nofun

theorem State.jogSafe.idle {s : State} (h : s.jogSafe) : s.idle.jogSafe := by
  by_cases hclk : s.pins.clkin = true
  · by_cases hlost : s.sv.monitor = .lost
    · rw [State.idle_lost hclk hlost]
      exact h.clockReturned
    by_cases hdue : s.dueSteps = []
    · rw [State.idle_cycle hclk hlost hdue]
      exact h.cycle
    · obtain ⟨d, hd, n, hact⟩ := s.takeDue_mem hdue
      rw [State.idle_due hclk hlost hdue, hact]
      refine d.act_jogSafe (h.congr (by rfl)) hclk ?_
      rwa [Due.holds_choices, ← State.mem_dueSteps]
  · rw [State.idle_still (by simpa using hclk)]
    unfold State.monitorPeriod
    (repeat' split)
    · exact h.congr rfl
    · exact h.congr rfl
    · exact h

/-- Settles O60: every operation keeps FI in JOG exactly while a jog runs or ends, but for the quick
stop, and a step is the front command's operations or the block's own. -/
theorem jogKept : Obligations.JogKept := by
  intro s t hs h
  unfold step at h
  split at h
  · cases h
    exact hs.idle
  · rename_i rest _
    exact exec_jogKept _ { s with pending := rest } t (hs.congr rfl) h

end Sys2Proof.Machine
end

section
/-! SUPPORT. The break test (R175 to R177): the storage of a character with room and without, the line's
return in phase LOW, the break with the jog it ends (R135), and the end of the break. -/

namespace Sys2Proof.Machine

/-! ### The storage of a character (R177) -/

/-- With room the character joins the FIFO and takes the loss flag with it. -/
theorem PortState.store_room {q : PortState} (h : q.rxFifo.length < 32) (value : Byte)
    (mark noise framing : Bool) :
    q.store value mark noise framing = { q with
      rxFifo := q.rxFifo ++ [{ value := value, mark := mark, noise := noise, framing := framing,
                               loss := q.rx.loss }]
      rx := { q.rx with loss := false }
      tallies := { q.tallies with
        noise := if noise then min 65535 (q.tallies.noise + 1) else q.tallies.noise
        framing := if framing then min 65535 (q.tallies.framing + 1) else q.tallies.framing } } :=
  if_neg (Nat.not_le.mpr h)

/-- At a full FIFO the character is lost: the overrun tally advances and the loss flag is set. -/
theorem PortState.store_full {q : PortState} (h : 32 ≤ q.rxFifo.length) (value : Byte)
    (mark noise framing : Bool) :
    q.store value mark noise framing = { q with
      tallies := { q.tallies with overrun := min 65535 (q.tallies.overrun + 1) }
      rx := { q.rx with loss := true } } :=
  if_pos h

/-! ### A break (R135, R175, R176) -/

/-- A break leaves HJ, but on the panel port, where it is an end cause of the jog. -/
theorem State.findBreak_hj (s : State) (p : Port) :
    (s.findBreak p).hj = if p = .panel then (s.endJog .brk).hj else s.hj := by
  unfold State.findBreak
  dsimp only
  split
  · simp [State.endJog_hj]
  · exact s.onPort_hj p _

/-- A break raises no notice and builds none. -/
theorem State.findBreak_notices (s : State) (p : Port) : Block.notices.same s (s.findBreak p) := by
  intro q
  rw [State.findBreak_port]
  split
  case isTrue h => subst h; exact ⟨rfl, rfl⟩
  case isFalse => exact ⟨rfl, rfl⟩

theorem keptBut_findBreak (s : State) (p : Port) : keptBut [.hj, .ports] s (s.findBreak p) := by
  have hnotices := s.findBreak_notices p
  refine ⟨fun b hb => ?_, fun q => ⟨fun k hk => ?_, .inl (hnotices q).2⟩⟩
  · simp only [List.mem_cons, List.not_mem_nil, or_false, not_or] at hb
    by_cases hb' : b = .notices
    · rw [hb']
      exact hnotices
    · exact Block.same_findBreak hb.1 hb.2 hb' s p
  · rw [(hnotices q).1]
    exact hk

/-- What a break found in phase LOW leaves. -/
theorem findBreak_facts (s : State) (p : Port) :
    (s.findBreak p).port p = (s.port p).takeBreak ∧
      (∀ o, o ≠ p → (s.findBreak p).port o = s.port o) ∧
      (∀ m, p = .panel → s.hj.phase = .running m →
        (s.findBreak p).hj = { s.hj with phase := .ending m, endCause := some .brk }) ∧
      (p ≠ .panel ∨ s.hj.phase.code ≠ 1 → (s.findBreak p).hj = s.hj) ∧
      keptBut [.hj, .ports] s (s.findBreak p) := by
  refine ⟨?_, fun o ho => ?_, fun m hp hm => ?_, fun hquiet => ?_, keptBut_findBreak s p⟩
  · rw [State.findBreak_port, if_pos rfl]
  · rw [State.findBreak_port, if_neg ho]
  · rw [State.findBreak_hj, if_pos hp, State.endJog_running hm]
  · rw [State.findBreak_hj]
    split
    case isTrue hp => rw [State.endJog_other (hquiet.resolve_left (not_not.mpr hp))]
    case isFalse => rfl

/-- Settles O33: the line's return by the room of the FIFO, the break, its end, and the phases in which
each of the three changes nothing. -/
theorem breakTest : Obligations.BreakTest := by
  intro s p hclk
  extract_lets q rested
  have hreturn : exec (.lowPhaseReturn p) s =
      .next (if q.rx.phase = .low then s.setPort p q.lineReturn else s) := clocked_run s _ hclk
  have hbreak : exec (.breakFound p) s = .next (if q.rx.phase = .low then s.findBreak p else s) :=
    clocked_run s _ hclk
  have hend : exec (.breakPhaseEnd p) s =
      .next (if q.rx.phase = .brk then s.setPort p { q with rx := q.rx.toIdle 3 } else s) :=
    clocked_run s _ hclk
  refine ⟨fun hlow hroom => ?_, fun hlow hfull => ?_, fun hlow => ?_, fun hlow => ?_, fun hbrk => ?_,
    fun hbrk => ?_⟩
  · rw [hreturn, if_pos hlow, PortState.lineReturn, PortState.store_room hroom]
    rfl
  · rw [hreturn, if_pos hlow, PortState.lineReturn, PortState.store_full hfull]
    rfl
  · refine ⟨s.findBreak p, ?_, findBreak_facts s p⟩
    rw [hbreak, if_pos hlow]
  · rw [hreturn, hbreak, if_neg hlow, if_neg hlow]
    exact ⟨rfl, rfl⟩
  · rw [hend, if_pos hbrk]
    rfl
  · rw [hend, if_neg hbrk]

end Sys2Proof.Machine
end

section
/-! SUPPORT. The axis outputs: what one step of the schedule emits, what a hand-off lays and where
the emitted schedule brings the output (R141 to R145). -/

namespace Sys2Proof.Machine

/-! ### One axis among the three -/

theorem Pulses.axis_setAxis (p : Pulses) (axis b : Axis) (v : AxisOut) :
    (p.setAxis axis v).axis b = if b = axis then v else p.axis b := by
  cases axis <;> cases b <;> rfl

/-- A generator put back as it stands changes nothing. -/
theorem Pulses.setAxis_axis (p : Pulses) (axis : Axis) : p.setAxis axis (p.axis axis) = p := by
  cases axis <;> rfl

/-- Beside the generators AP holds the heading in counts and the slot clock. -/
theorem Pulses.setAxis_rest (p : Pulses) (axis : Axis) (v : AxisOut) :
    (p.setAxis axis v).unwrapped = p.unwrapped ∧ (p.setAxis axis v).lastH = p.lastH ∧
      (p.setAxis axis v).slotClock = p.slotClock := by
  cases axis <;> exact ⟨rfl, rfl, rfl⟩

/-! ### One step of the schedule (R142, R143, R145) -/

/-- What one step of the schedule makes of a generator. -/
def AxisOut.stepped (a : AxisOut) : AxisOut :=
  { a with step := true, emitted := a.emitted + 1, output := a.output + if a.dir then 1 else -1 }

theorem AxisOut.emit_next {a : AxisOut} (h : a.emitted < a.laid) : a.emit true = a.stepped := by
  have hout : (if a.dir then a.output + 1 else a.output - 1) =
      a.output + if a.dir then 1 else -1 := by
    split <;> rfl
  simp [AxisOut.emit, AxisOut.stepped, h, hout]

/-- Nothing rises with MPERMIT low, or behind the last step laid. -/
theorem AxisOut.emit_none {a : AxisOut} {permitted : Bool}
    (h : permitted = false ∨ a.laid ≤ a.emitted) : a.emit permitted = a := by
  refine if_neg fun hnext => ?_
  obtain ⟨hhigh, hleft⟩ := Bool.and_eq_true_iff.mp hnext
  rcases h with h | h
  · exact absurd hhigh (by simp [h])
  · exact absurd (of_decide_eq_true hleft) (Nat.not_lt.mpr h)

theorem keptBut_ap (s : State) (p : Pulses) : keptBut [.ap] s { s with ap := p } := by
  refine keptBut_of_onlyNotices (onlyNotices.refl s) (passesKept.refl s) fun b hb _ => ?_
  cases b <;> simp_all [Block.same, State.port]

/-- Settles O48: the axis's generator emits its next step, or stands where none may rise. -/
theorem stepSlot : Obligations.StepSlot := by
  intro s axis hclk a
  have hrun : exec (.stepSlot axis) s =
      .next { s with ap := s.ap.setAxis axis (a.emit s.mpermit) } :=
    clocked_run s (fun s => { s with
      ap := s.ap.setAxis axis ((s.ap.axis axis).emit s.mpermit) }) hclk
  rw [hrun]
  refine ⟨fun hnone => ?_, fun hhigh hleft => ?_⟩
  · rw [AxisOut.emit_none hnone, Pulses.setAxis_axis]
  · rw [hhigh, AxisOut.emit_next hleft]
    obtain ⟨hunwrapped, hlastH, hclock⟩ := s.ap.setAxis_rest axis a.stepped
    exact ⟨_, rfl, (s.ap.axis_setAxis ..).trans (if_pos rfl),
      fun b hb => (s.ap.axis_setAxis ..).trans (if_neg hb), hunwrapped, hlastH, hclock,
      keptBut_ap s _⟩

/-! ### The schedule of a period (R141, R142) -/

/-- A generator after `n` slots of its schedule with MPERMIT high. -/
def AxisOut.afterSlots (b : AxisOut) (n : Nat) : AxisOut :=
  Nat.repeat (fun o => o.emit true) n b

/-- After `n` of the steps left the output has moved by `n` in the period's direction. -/
theorem AxisOut.afterSlots_eq (b : AxisOut) (n : Nat) (hn : b.emitted + n ≤ b.laid) :
    ∃ step, b.afterSlots n = { b with
      step := step, emitted := b.emitted + n
      output := b.output + n * if b.dir then 1 else -1 } := by
  induction n with
  | zero => exact ⟨b.step, by simp [AxisOut.afterSlots, Nat.repeat]⟩
  | succ n ih =>
    obtain ⟨step, hrun⟩ := ih (Nat.le_of_succ_le hn)
    have hnext : b.afterSlots (n + 1) = (b.afterSlots n).emit true := rfl
    refine ⟨true, ?_⟩
    rw [hnext, hrun, AxisOut.emit_next (Nat.lt_of_succ_le hn), AxisOut.stepped]
    simp only [AxisOut.mk.injEq, true_and, and_true]
    exact ⟨by push_cast; ring, rfl⟩

/-- The whole schedule brings the output as far as steps are laid. -/
theorem AxisOut.afterSlots_laid_output (b : AxisOut) (hstart : b.emitted = 0) :
    (b.afterSlots b.laid).output = b.output + b.laid * if b.dir then 1 else -1 := by
  obtain ⟨step, hrun⟩ := b.afterSlots_eq b.laid (by omega)
  rw [hrun]

/-- DIR turns toward what is owed, and stands where nothing is (R143). -/
theorem AxisOut.handOff_dir (a : AxisOut) (target : Int) : (a.handOff target true).dir =
    if target - a.output = 0 then a.dir else decide (0 < target - a.output) := by
  rw [AxisOut.handOff_eq_handed]
  rfl

/-- With MPERMIT high the schedule runs toward the target, over what is owed and at most 500
steps. -/
theorem AxisOut.handOff_run (a : AxisOut) (target : Int) :
    ((a.handOff target true).afterSlots (a.handOff target true).laid).output =
      a.output + max (-500) (min (target - a.output) 500) := by
  have hlaid : (a.handOff target true).laid = min (target - a.output).natAbs 500 := rfl
  have hstart : (a.handOff target true).output = a.output := rfl
  rw [AxisOut.afterSlots_laid_output _ rfl, AxisOut.handOff_dir, hlaid, hstart]
  generalize target - a.output = owed
  rcases lt_trichotomy owed 0 with h | h | h
  · rw [if_neg h.ne, decide_eq_false h.not_gt, if_neg Bool.false_ne_true]
    omega
  · simp [h]
  · rw [if_neg h.ne', decide_eq_true h, if_pos rfl]
    omega

/-! ### The slots of a period (R142) -/

theorem slotOffset_bound {n i : Nat} (hi : i < n) : slotOffset n i ≤ 999 := by
  have hdiv : i * 500 / n < 500 := Nat.div_lt_of_lt_mul (Nat.mul_lt_mul_of_pos_right hi (by decide))
  unfold slotOffset
  omega

theorem slotOffset_odd (n i : Nat) : slotOffset n i % 2 = 1 := by
  unfold slotOffset
  omega

/-- A STEP, high for 1 µs, is low again before the next slot of its axis. -/
theorem slotOffset_apart {n i j : Nat} (hn : n ≤ 500) (hpos : 0 < n) (hj : j < i) :
    slotOffset n j + 2 ≤ slotOffset n i := by
  have hdiv : j * 500 / n + 1 ≤ i * 500 / n :=
    calc j * 500 / n + 1 = (j * 500 + n) / n := (Nat.add_div_right _ hpos).symm
      _ ≤ i * 500 / n := Nat.div_le_div_right (by omega)
  unfold slotOffset
  omega

/-- Settles O49: the hand-off by what is owed, the run of its schedule, and its slots. -/
theorem handOff : Obligations.HandOff := by
  intro a target b run owed low
  have hrun : run.output = a.output + max (-500) (min owed 500) := a.handOff_run target
  have hlaid : b.laid = min owed.natAbs 500 := rfl
  have hdir : b.dir = if owed = 0 then a.dir else decide (0 < owed) := a.handOff_dir target
  have hbacklog : b.backlog = if 500 < owed.natAbs then saturate a.backlog else a.backlog := rfl
  refine ⟨⟨rfl, rfl, rfl, rfl, rfl, fun h => ?_, fun h => ?_, fun h => ?_, fun h => ?_, fun h => ?_⟩,
    fun h => ?_, fun h => ?_, fun h => ?_, fun i hi => ?_, rfl, rfl, rfl, rfl, rfl, rfl⟩
  · rw [hdir, if_pos h]
  · rw [hdir, if_neg h.ne', decide_eq_true h]
  · rw [hdir, if_neg h.ne, decide_eq_false h.not_gt]
  · rw [hbacklog, if_neg (Nat.not_lt.mpr h)]
  · rw [hbacklog, if_pos h]
    rfl
  · rw [hrun]
    omega
  · rw [hrun]
    omega
  · rw [hrun]
    omega
  · exact ⟨slotOffset_odd _ _, slotOffset_bound hi, fun j hj =>
      slotOffset_apart (by omega) (by omega) hj⟩

end Sys2Proof.Machine
end

section
/-! SUPPORT. What every operation keeps of the drives (R145): it leaves what each axis owes, or owes
nothing there, or has the permit state HIGH. -/

namespace Sys2Proof.Machine

/-! ### What an axis owes while MPERMIT is low (R145) -/

theorem AxisOut.handOff_low_owed (a : AxisOut) (target : Int) : (a.handOff target false).owed = 0 :=
  Int.sub_self target

theorem AxisOut.discard_owed (a : AxisOut) : a.discard.owed = 0 := Int.sub_self a.target

theorem AxisOut.shift_low_owed (a : AxisOut) (target : Int) : (a.shift target false).owed = 0 :=
  Int.sub_self target

/-- A new step size leaves nothing owed, with MPERMIT high or low (R148). -/
theorem AxisOut.recount_owed (a : AxisOut) (target : Int) (permitted : Bool) :
    (a.recount target permitted).owed = 0 := Int.sub_self target

/-- With the permit state LOW a pulse cut short is not taken back (log 24). -/
theorem AxisOut.cutPulse_low_owed (a : AxisOut) : (a.cutPulse false).owed = a.owed := by
  simp [AxisOut.cutPulse, AxisOut.owed]

theorem AxisOut.slot_low (a : AxisOut) (t : Nat) : a.slot t false = a := by
  unfold AxisOut.slot
  split
  · exact AxisOut.emit_none (.inl rfl)
  · rfl

theorem State.mpermit_low {s : State} (h : s.sv.permit = false) : s.mpermit = false := by
  simp [State.mpermit, h]

/-! ### The invariant, axis by axis -/

theorem State.drivesSafe_iff (s : State) :
    s.drivesSafe ↔ (s.sv.permit = false → ∀ axis, (s.ap.axis axis).owed = 0) := by
  refine forall_congr' fun _ => ⟨fun ⟨hx, hy, hh⟩ axis => ?_, fun h => ⟨?_, ?_, ?_⟩⟩
  · cases axis
    · exact Int.sub_eq_zero.mpr hx
    · exact Int.sub_eq_zero.mpr hy
    · exact Int.sub_eq_zero.mpr hh
  · exact Int.sub_eq_zero.mp (h .x)
  · exact Int.sub_eq_zero.mp (h .y)
  · exact Int.sub_eq_zero.mp (h .h)

/-- With the permit state HIGH an axis may owe (R141). -/
theorem State.drivesSafe_of_high {s : State} (h : s.sv.permit = true) : s.drivesSafe :=
  fun hlow => absurd h (by simp [hlow])

/-- Where the permit state is LOW, each axis owes what it did, or nothing. -/
theorem State.drivesSafe.of_axes {s t : State} (h : s.drivesSafe)
    (hpermit : t.sv.permit = s.sv.permit)
    (haxis : s.sv.permit = false → ∀ axis,
      (t.ap.axis axis).owed = (s.ap.axis axis).owed ∨ (t.ap.axis axis).owed = 0) :
    t.drivesSafe := by
  rw [State.drivesSafe_iff] at h ⊢
  intro hlow axis
  rw [hpermit] at hlow
  rcases haxis hlow axis with howed | howed
  · rw [howed, h hlow axis]
  · exact howed

/-- An operation that touches neither AP nor the permit state keeps the invariant. -/
theorem State.drivesSafe.of_same {s t : State} (h : s.drivesSafe) (hap : t.ap = s.ap)
    (hpermit : t.sv.permit = s.sv.permit) : t.drivesSafe :=
  h.of_axes hpermit fun _ axis => .inl (by rw [hap])

/-- Where the permit state falls, what is owed is discarded (R145). -/
theorem State.drivesSafe.fallen {s t : State} (h : s.drivesSafe)
    (hap : t.ap = s.ap.fallen s.sv.permit) : t.drivesSafe := by
  rw [State.drivesSafe_iff] at h ⊢
  intro _ axis
  rw [hap, Pulses.fallen]
  split
  case isTrue => cases axis <;> exact AxisOut.discard_owed _
  case isFalse hlow => exact h (by simpa using hlow) axis

/-! ### The permit, the hand-off and the schedule -/

theorem State.drivesSafe.lowerPermit {s : State} (h : s.drivesSafe) : s.lowerPermit.drivesSafe :=
  h.fallen s.lowerPermit_fallen

theorem State.drivesSafe.endStop {s : State} (h : s.drivesSafe) : s.endStop.drivesSafe :=
  h.fallen s.endStop_ap

theorem State.raisePermit_drivesSafe (s : State) : s.raisePermit.drivesSafe :=
  State.drivesSafe_of_high rfl

/-- A hand-off with the permit state LOW owes nothing, whatever was owed (R145). -/
theorem State.handOff_drivesSafe (s : State) : s.handOff.drivesSafe := by
  rw [State.drivesSafe_iff]
  intro hlow axis
  simp only [State.handOff, State.mpermit_low (s := s) hlow]
  cases axis <;> exact AxisOut.handOff_low_owed _ _

/-- With the permit state LOW no slot begins (R142, R145). -/
theorem State.slots_low {s : State} (h : s.sv.permit = false) : s.slots = s := by
  simp only [State.slots, State.mpermit_low h, AxisOut.slot_low]

theorem State.drivesSafe.slots {s : State} (h : s.drivesSafe) : s.slots.drivesSafe :=
  h.of_axes rfl fun hlow _ => .inl (by rw [State.slots_low hlow])

theorem State.drivesSafe.clockLost {s : State} (h : s.drivesSafe) : s.clockLost.drivesSafe := by
  refine h.of_axes rfl fun hlow axis => .inl ?_
  rw [State.clockLost_axis, hlow, AxisOut.cutPulse_low_owed]

theorem State.drivesSafe.recount {s : State} (h : s.drivesSafe) (selector : Nat) :
    (s.recount selector).drivesSafe := by
  refine h.of_axes (by simp) fun _ axis => ?_
  unfold State.recount
  split
  case h_1 | h_2 | h_3 => cases axis <;> simp [Pulses.axis, AxisOut.recount_owed]
  case h_4 => exact .inl rfl

/-! ### Faults and the quick stop (R93, R94, R152) -/

theorem State.drivesSafe.beginStop {s : State} (h : s.drivesSafe) : s.beginStop.drivesSafe := by
  have hbegun (v : Nat) : (s.stopBegun v).drivesSafe :=
    h.of_same (by simp [State.stopBegun]) (by simp [State.stopBegun])
  rcases s.beginStop_cases with ⟨heq, -⟩ | ⟨heq, -⟩ <;> rw [heq]
  · exact hbegun _
  · exact (hbegun 0).endStop

theorem State.drivesSafe.recordFault {s : State} (h : s.drivesSafe) (c : Cause) :
    (s.recordFault c).drivesSafe := h.of_same (by simp) (by simp)

theorem State.drivesSafe.reportFault {s : State} (h : s.drivesSafe) (c : Cause) :
    (s.reportFault c).drivesSafe := by
  unfold State.reportFault
  split
  · exact (h.recordFault c).beginStop
  · exact h.of_same rfl rfl

theorem State.drivesSafe.reportCrank {s : State} (h : s.drivesSafe) (c : Cause) :
    (s.reportCrank c).drivesSafe := by
  unfold State.reportCrank
  split
  · exact h
  · exact h.reportFault c

theorem State.drivesSafe.stallTimeout {s : State} (h : s.drivesSafe) : s.stallTimeout.drivesSafe := by
  unfold State.stallTimeout
  (repeat' split)
  · exact State.drivesSafe.reportFault (h.of_same (by rfl) (by rfl)) _
  · exact State.drivesSafe.reportFault (h.of_same (by rfl) (by rfl)) _
  · exact h

theorem State.drivesSafe.stopLimit {s : State} (h : s.drivesSafe) : s.stopLimit.drivesSafe := by
  unfold State.stopLimit
  split
  · exact State.drivesSafe.endStop (h.of_same (by rfl) (by rfl))
  · exact h

theorem State.drivesSafe.returnAction {s : State} (h : s.drivesSafe) : s.returnAction.drivesSafe := by
  have hstop {u : State} (hu : u.drivesSafe) : u.lossFall.stopDirect.drivesSafe :=
    State.drivesSafe.endStop (s := u.lossFall.endJog .fault)
      (hu.lowerPermit.of_same (by simp [State.lossFall]) (by simp [State.lossFall]))
  have hfurther : s.furtherFault.drivesSafe := h.of_same rfl rfl
  unfold State.returnAction
  split
  · exact h.lowerPermit
  · exact hstop hfurther
  · exact hfurther.lowerPermit
  · split
    · exact hstop (h.recordFault _)
    · exact hstop hfurther

theorem State.drivesSafe.clockReturned {s : State} (h : s.drivesSafe) :
    s.clockReturned.drivesSafe := by
  have hback : s.clockBack.drivesSafe := h.of_same rfl rfl
  by_cases hlost : s.sv.monitor = .lost
  · rw [State.clockReturned_lost hlost]
    exact hback.returnAction.of_same rfl rfl
  · rw [State.clockReturned_other hlost]
    exact hback

/-! ### The feed period expiry (4.2) -/

/-- An expiry hands the position off, but for OFFLINE and FAULT STOPPED, and may then end the quick
stop (R69, R94). -/
theorem State.drivesSafe.feedWork {s : State} (h : s.drivesSafe) : s.feedWork.drivesSafe := by
  unfold State.feedWork
  split
  case h_1 | h_2 => exact h
  case h_3 | h_4 | h_5 | h_6 | h_10 => exact State.handOff_drivesSafe _
  case h_7 =>
    dsimp only
    (repeat' split)
    · exact s.move.handOff_drivesSafe.of_same (by simp) (by simp)
    · exact s.move.handOff_drivesSafe
    · exact s.move.handOff_drivesSafe
  case h_8 => exact s.jogStep.handOff_drivesSafe.of_same (by simp) (by simp)
  case h_9 =>
    dsimp only
    split
    · exact s.stopMove.handOff_drivesSafe.endStop
    · exact s.stopMove.handOff_drivesSafe

theorem State.tickStop_permit (s : State) : s.tickStop.sv.permit = s.sv.permit := by
  unfold State.tickStop
  split <;> rfl

theorem State.drivesSafe.tickStop {s : State} (h : s.drivesSafe) : s.tickStop.drivesSafe :=
  h.of_same (by simp) s.tickStop_permit

/-- The slots of the coming period are counted anew, and no axis owes more for it (R142). -/
theorem State.drivesSafe.tickTime {s : State} (h : s.drivesSafe) : s.tickTime.drivesSafe :=
  h.of_axes rfl fun _ axis => .inl (by cases axis <;> rfl)

theorem State.drivesSafe.tickWindow {s : State} (h : s.drivesSafe) : s.tickWindow.drivesSafe :=
  h.of_same (by simp) (by simp)

theorem State.drivesSafe.tickDecoder {s : State} (h : s.drivesSafe) : s.tickDecoder.drivesSafe :=
  h.of_same rfl rfl

theorem State.drivesSafe.feedPeriod {s : State} (h : s.drivesSafe) : s.feedPeriod.drivesSafe :=
  h.tickTime.tickDecoder.tickStop.feedWork.tickWindow

/-! ### The crank and the index (R104 to R109) -/

theorem State.drivesSafe.countForward {s : State} (h : s.drivesSafe) : s.countForward.drivesSafe := by
  have hmissed {u : State} (hu : u.drivesSafe) : u.missIndex.drivesSafe := by
    unfold State.missIndex
    extract_lets run sd s1
    have h1 : s1.drivesSafe := hu.of_same rfl rfl
    split
    · exact h1.reportCrank _
    · exact h1
  unfold State.countForward
  extract_lets since sd s1
  have h1 : s1.drivesSafe := h.of_same rfl rfl
  split
  · exact hmissed h1
  · exact h1

theorem State.drivesSafe.countBack {s : State} (h : s.drivesSafe) : s.countBack.drivesSafe := by
  unfold State.countBack
  extract_lets run sd s1
  have h1 : s1.drivesSafe := h.of_same rfl rfl
  split
  · exact h1.reportCrank _
  · exact h1

theorem State.drivesSafe.crankEdge {s : State} (h : s.drivesSafe) (onA onB : Bool) :
    (s.crankEdge onA onB).drivesSafe := by
  have h1 : (s.crankSample onA onB).drivesSafe := h.of_same rfl rfl
  unfold State.crankEdge
  dsimp only
  (repeat' split)
  · exact h1.of_same rfl rfl
  · exact h1
  · exact h1.countForward
  · exact h1.countBack

/-- A valid index leaves AP and the permit; the third slip in a row is a fault (R106, R108). -/
theorem State.drivesSafe.crankIndex {s : State} (h : s.drivesSafe) : s.crankIndex.drivesSafe := by
  unfold State.crankIndex
  extract_lets s1
  have h1 : s1.drivesSafe := h.of_same rfl rfl
  split
  · exact h1.of_same (by simp) (by simp)
  · unfold State.slipIndex
    extract_lets run sd s2
    have h2 : s2.drivesSafe := h1.of_same rfl rfl
    split
    · exact h2.reportCrank _
    · exact h2

/-! ### The block's own cycle (R98, R101, R171) -/

theorem State.drivesSafe.chosen {s : State} (h : s.drivesSafe) : s.chosen.drivesSafe :=
  h.of_same rfl rfl

theorem State.drivesSafe.strokeSample {s : State} (h : s.drivesSafe) (edge : Bool) :
    (s.strokeSample edge).drivesSafe := by
  have hindex {u : State} (hu : u.drivesSafe) : (u.indexSample edge).drivesSafe := by
    unfold State.indexSample
    (repeat' split)
    · exact hu.crankIndex
    · exact hu.of_same rfl rfl
    · exact hu
  have hoverdue {u : State} (hu : u.drivesSafe) : u.overdueTest.drivesSafe := by
    unfold State.overdueTest
    split
    · exact hu.of_same (by simp) (by simp)
    · exact hu
  rcases s.strokeSample_cases edge with he | he | he <;> rw [he]
  · exact hoverdue (hindex h)
  · exact hoverdue (hindex h.chosen)
  · exact hoverdue (hindex (hoverdue h.chosen))

theorem State.drivesSafe.sampleInputs {s : State} (h : s.drivesSafe) : s.sampleInputs.drivesSafe := by
  have hline {u : State} (hu : u.drivesSafe) (edge : Bool) : (u.lineSample edge).drivesSafe := by
    unfold State.lineSample
    (repeat' split) <;> exact hu.of_same (by simp) (by simp)
  have hblade {u : State} (hu : u.drivesSafe) (onA onB edge : Bool) :
      (u.bladeSample onA onB edge).drivesSafe := by
    unfold State.bladeSample
    split
    · exact (hu.crankEdge onA onB).strokeSample edge
    · exact hu.strokeSample edge
  unfold State.sampleInputs
  extract_lets k ca cb cz holdn sd s1
  have h1 : s1.drivesSafe := h.of_same rfl rfl
  (repeat' split)
  · exact hblade (hline h1.chosen _) _ _ _
  · exact hline (hblade h1.chosen _ _ _) _
  · exact hline (hblade h1 _ _ _) _

theorem State.drivesSafe.millisecond {s : State} (h : s.drivesSafe) : s.millisecond.drivesSafe := by
  have hstall {u : State} (hu : u.drivesSafe) : u.stallFirst.drivesSafe := by
    rcases u.stallFirst_cases with he | he | he <;> rw [he]
    · exact hu
    · exact hu.chosen
    · exact hu.chosen.stallTimeout
  have hlimit {u : State} (hu : u.drivesSafe) : u.limitFirst.drivesSafe := by
    rcases u.limitFirst_cases with he | he | he <;> rw [he]
    · exact hu
    · exact hu.chosen
    · exact hu.chosen.stopLimit
  exact (hlimit (hstall h.tickTime.tickDecoder).tickStop).feedWork.tickWindow

theorem State.drivesSafe.microsecond {s : State} (h : s.drivesSafe) : s.microsecond.drivesSafe := by
  have h1 : s.passMicro.drivesSafe := h.of_axes rfl fun _ axis => .inl (by cases axis <;> rfl)
  have hmeets {u : State} (hu : u.drivesSafe) (v : State) : (u.stallMeets v).drivesSafe := by
    rcases u.stallMeets_cases v with he | he <;> rw [he]
    · exact hu
    · exact hu.of_same rfl rfl
  unfold State.microsecond
  dsimp only
  refine State.drivesSafe.slots ?_
  (repeat' split)
  · exact (hmeets h1.chosen.sampleInputs _).millisecond
  · exact h1.chosen.millisecond.sampleInputs
  · exact h1.sampleInputs

theorem State.drivesSafe.cycle {s : State} (h : s.drivesSafe) : s.cycle.drivesSafe := by
  have hpassed := s.portsCycled_passed
  have hports : s.portsCycled.drivesSafe :=
    h.of_same (hpassed.same .ap (by decide)) (by rw [hpassed.sv])
  unfold State.cycle
  dsimp only
  split
  · exact State.drivesSafe.microsecond (hports.of_same (by rfl) (by rfl))
  · exact hports.of_same rfl rfl

end Sys2Proof.Machine
end

section
/-! SUPPORT. What the requests, the commands and so every step keep of the drives (R145). -/

namespace Sys2Proof.Machine

/-! ### Operations on states -/

/-- Whatever the state, `f` keeps the invariant. -/
def drivesSteps (f : State → State) : Prop := ∀ s : State, s.drivesSafe → (f s).drivesSafe

/-- `f` touches neither AP nor the permit state. -/
def drivesLeft (f : State → State) : Prop :=
  ∀ s : State, (f s).ap = s.ap ∧ (f s).sv.permit = s.sv.permit

theorem drivesLeft.steps {f : State → State} (hf : drivesLeft f) : drivesSteps f :=
  fun s h => h.of_same (hf s).1 (hf s).2

theorem drivesLeft_onPort (p : Port) (f : PortState → PortState) :
    drivesLeft fun s => s.onPort p f :=
  fun s => by simp

theorem drivesLeft_busy (p : Port) (kind : Byte) (r : Reply) :
    drivesLeft fun s => s.busy p kind r :=
  fun s => by simp

theorem drivesSteps.arrive {take : State → State} (hf : drivesSteps take) (p : Port)
    (chars : List Byte) : drivesSteps fun s => s.arrive p chars take := by
  intro s h
  have hport (q : PortState) : (s.setPort p q).drivesSafe := h.of_same (by simp) (by simp)
  unfold State.arrive
  dsimp only
  (repeat' split)
  case isTrue.isTrue => exact hf _ (hport _)
  all_goals exact hport _

theorem drivesSteps.takeRequest {owner : State → State × Reply}
    (ho : drivesSteps fun s => (owner s).1)
    {p : Port} {kind : Byte} {roles : List Port} {n : Nat} {d turned : List Byte} :
    drivesSteps fun s => s.takeRequest p kind roles n d turned owner := by
  intro s h
  unfold State.takeRequest
  (repeat' split)
  · exact (drivesLeft_busy _ _ _).steps s h
  · exact (drivesLeft_busy _ _ _).steps s h
  · exact (drivesLeft_busy _ _ _).steps _ (ho s h)

/-! ### The owners that act on AP or the permit state -/

theorem ownOnline_drives (d : List Byte) : drivesSteps fun s => (ownOnline d s).1 := by
  intro s h
  dsimp only [ownOnline]
  split
  · exact State.raisePermit_drivesSafe _
  · exact h

theorem ownClearFault_drives (d : List Byte) : drivesSteps fun s => (ownClearFault d s).1 := by
  intro s h
  simp only [ownClearFault]
  (repeat' split)
  · exact h
  · exact h
  · exact State.raisePermit_drivesSafe _

theorem ownMachine_drives (d : List Byte) : drivesSteps fun s => (ownMachine d s).1 := by
  intro s h
  simp only [ownMachine]
  (repeat' split)
  case h_2.isFalse =>
    unfold State.settingActs
    (repeat' split)
    · exact h.of_same rfl rfl
    · exact h.of_same rfl rfl
    · exact State.drivesSafe.recount (h.of_same (by rfl) (by rfl)) _
  all_goals exact h

theorem ownOrigin_drives (d : List Byte) : drivesSteps fun s => (ownOrigin d s).1 := by
  intro s h
  simp only [ownOrigin]
  (repeat' split)
  · exact h
  · exact h
  · refine h.of_axes rfl fun hlow axis => ?_
    rw [State.mpermit_low hlow]
    cases axis with
    | x | y => exact .inr (AxisOut.shift_low_owed _ _)
    | h => exact .inl rfl

/-! ### The other owners -/

theorem acceptReply_drives (s : State) (e : Entry) (clamped : Bool) :
    (s.acceptReply e clamped).1.ap = s.ap ∧
      (s.acceptReply e clamped).1.sv.permit = s.sv.permit := by
  simp [State.acceptReply]

/-- A queue request appends its entry, or is refused with the state as it stands. -/
theorem ownQueue_drives (d : List Byte) :
    drivesLeft (fun s => (ownTraverse d s).1) ∧ drivesLeft (fun s => (ownOpen d s).1) ∧
      drivesLeft (fun s => (ownLine d s).1) ∧ drivesLeft (fun s => (ownArc d s).1) := by
  refine ⟨fun s => ?_, fun s => ?_, fun s => ?_, fun s => ?_⟩
  · simp only [ownTraverse]
    (repeat' split)
    case isFalse.isFalse => exact acceptReply_drives ..
    all_goals exact ⟨rfl, rfl⟩
  · simp only [ownOpen]
    (repeat' split)
    case isFalse.isFalse.isFalse => exact acceptReply_drives ..
    all_goals exact ⟨rfl, rfl⟩
  · simp only [ownLine]
    (repeat' split)
    case isFalse.isFalse => exact acceptReply_drives ..
    all_goals exact ⟨rfl, rfl⟩
  · simp only [ownArc]
    (repeat' split)
    case isFalse.isFalse.isFalse.isFalse => exact acceptReply_drives ..
    all_goals exact ⟨rfl, rfl⟩

/-! ### The requests, taken on arrival or from the slot -/

theorem takeKind_drives (p : Port) (kind : Byte) (d : List Byte) :
    drivesSteps (takeKind p kind d) := by
  have hleft {owner : State → State × Reply} (ho : drivesLeft fun s => (owner s).1)
      {kind : Byte} {roles : List Port} {n : Nat} {turned : List Byte} :
      drivesSteps fun s => s.takeRequest p kind roles n d turned owner := .takeRequest ho.steps
  obtain ⟨htraverse, hopen, hline, harc⟩ := ownQueue_drives d
  unfold takeKind
  split
  case h_1 => exact .takeRequest (ownOnline_drives d)
  case h_2 => exact .takeRequest (ownMachine_drives d)
  case h_5 => exact .takeRequest (ownOrigin_drives d)
  case h_17 => exact .takeRequest (ownClearFault_drives d)
  case h_9 => exact fun s => hleft htraverse s
  case h_10 => exact fun s => hleft hopen s
  case h_11 => exact fun s => hleft hline s
  case h_12 => exact fun s => hleft harc s
  case h_32 => exact (drivesLeft_busy p _ _).steps
  all_goals -- the other owners touch neither AP nor the permit state
    refine hleft fun s => ?_
    simp only [ownGrade, ownLevels, ownArm, ownSyncTime, ownJogLock, ownRun, ownPauseAfter, ownFlush,
      ownResetCut, ownHold, ownRelease, ownBladeState, ownOffset, ownOverride, ownJogStart,
      ownJogKeep, ownJogEnd, ownProgress, ownStatus_state, ownStroke, ownReadGrade_state,
      ownReadPort_state, ownSetBaud]
    (repeat' split) <;> simp

/-! ### The commands and the block's own step -/

/-- Whatever the state, the command keeps the invariant. -/
def Instr.drivesKept (c : Instr) : Prop :=
  ∀ s t : State, s.drivesSafe → exec c s = .next t → t.drivesSafe

theorem Instr.drivesKept.of_clocked {c : Instr} {f : State → State}
    (hc : ∀ s, exec c s = clocked s f) (hf : drivesSteps f) : Instr.drivesKept c := by
  intro s t h ht
  obtain rfl : (if s.pins.clkin then f s else s) = t := by
    rw [hc] at ht
    injection ht
  split
  · exact hf s h
  · exact h

/-- A request command takes the telegram of its kind. -/
theorem Instr.drivesKept.request {c : Instr} {p : Port} {kind : Byte} {d : List Byte}
    (hc : ∀ s, exec c s = clocked s fun s => s.arrive p (telegram kind d) (takeKind p kind d)) :
    Instr.drivesKept c :=
  .of_clocked hc ((takeKind_drives p kind d).arrive p _)

/-- A reset leaves every count at 0 (R151). -/
theorem State.afterReset_drivesSafe (s : State) (straps : Straps) (lines : Lines)
    (armed clkin : Bool) : (s.afterReset straps lines armed clkin).drivesSafe :=
  fun _ => ⟨rfl, rfl, rfl⟩

theorem State.drivesSafe.stepSlot {s : State} (h : s.drivesSafe) (axis : Axis) :
    State.drivesSafe { s with ap := s.ap.setAxis axis ((s.ap.axis axis).emit s.mpermit) } := by
  refine h.of_axes rfl fun hlow b => .inl ?_
  rw [State.mpermit_low hlow, AxisOut.emit_none (.inl rfl), Pulses.setAxis_axis]

theorem exec_drivesKept (c : Instr) : Instr.drivesKept c := by
  cases c with
  | powerOn straps lines | resetn straps lines =>
    intro s t _ ht
    cases ht
    exact s.afterReset_drivesSafe _ _ _ _
  | clockLossFound =>
    intro s t h ht
    cases ht
    split
    · exact h.clockLost
    · exact h
  | clockReturn =>
    intro s t h ht
    cases ht
    exact h.clockReturned
  | online p d | setMachine p d | setGrade p d | setLevels p d | setOrigin p d | armSupervision p d
  | syncTime p d | setJogLock p d | queueTraverse p d | queueOpen p d | queueLine p d | queueArc p d
  | run p d | pauseAfter p d | flush p d | resetCut p d | clearFault p d | hold p d | release p d
  | bladeState p d | setBladeOffset p d | setOverride p d | jogStart p d | jogKeep p d | jogEnd p d
  | readProgress p d | readStatus p d | readStroke p d | readGrade p d | readPort p d | setBaud p d =>
    exact .request fun _ => rfl
  | checkDiscard p chars =>
    refine .of_clocked (fun _ => rfl) fun s h => ?_
    split
    · exact drivesSteps.arrive (drivesLeft_onPort p _).steps p chars s h
    · exact h
  | unknownKindTelegram p kind d =>
    refine .of_clocked (fun _ => rfl) fun s h => ?_
    split
    · exact h
    · exact drivesSteps.arrive (drivesLeft_busy p _ _).steps p _ s h
  | baudSwitch p | guardEnd p | assemblerTake p | gapExpiry p | characterSent p =>
    exact .of_clocked (fun _ => rfl) (drivesLeft_onPort p _).steps
  | replyWrite p | noticeBuild p | windowExpiry | openTake | starvedResume | slowOverdue =>
    exact .of_clocked (fun _ => rfl) fun s h => h.of_same (by simp) (by simp)
  | rxCharacter p value mark stop noise | lowPhaseReturn p | breakPhaseEnd p | breakFound p | dispatch
  | holdnFall | holdnRise =>
    exact .of_clocked (fun _ => rfl) fun s h => h.of_same (by split <;> simp) (by split <;> simp)
  | startBitVerify p s3 s5 s7 =>
    exact .of_clocked (fun _ => rfl) fun s h =>
      h.of_same (by (repeat' split) <;> simp) (by (repeat' split) <;> simp)
  | stepSlot axis => exact .of_clocked (fun _ => rfl) fun s h => h.stepSlot axis
  | feedPeriodExpiry => exact .of_clocked (fun _ => rfl) fun s h => h.feedPeriod
  | crankEdge onA onB =>
    refine .of_clocked (fun _ => rfl) fun s h => ?_
    split
    · exact h.crankEdge onA onB
    · exact h
  | crankIndex => exact .of_clocked (fun _ => rfl) fun s h => h.crankIndex
  | stallTimeout => exact .of_clocked (fun _ => rfl) fun s h => h.stallTimeout
  | stopLimitExpiry => exact .of_clocked (fun _ => rfl) fun s h => h.stopLimit

theorem State.drivesSafe.takeSlot {s : State} (h : s.drivesSafe) (p : Port) :
    (s.takeSlot p).drivesSafe := by
  have htelegram (chars : List Byte) {u : State} (hu : u.drivesSafe) :
      (u.takeTelegram p chars).drivesSafe := by
    unfold State.takeTelegram
    split
    · exact (drivesLeft_onPort p _).steps u hu
    · exact takeKind_drives p _ _ u hu
  unfold State.takeSlot
  (repeat' split)
  · exact h
  · exact htelegram _ ((drivesLeft_onPort p _).steps s h)
  · exact h

/-- A due step does what its command of the table does; the take of the slot has none (log 2). -/
theorem Due.act_drivesSafe (d : Due) {s : State} (h : s.drivesSafe) (hclk : s.pins.clkin = true)
    (hd : d.holds s = true) : (d.act s).drivesSafe := by
  cases hc : d.command with
  | some c => exact exec_drivesKept c s _ h (Due.exec_command hclk hd hc)
  | none =>
    cases d with
    | slot p => exact h.takeSlot p
    | _ => exact absurd hc nofun

theorem State.drivesSafe.idle {s : State} (h : s.drivesSafe) : s.idle.drivesSafe := by
  by_cases hclk : s.pins.clkin = true
  · by_cases hlost : s.sv.monitor = .lost
    · rw [State.idle_lost hclk hlost]
      exact h.clockReturned
    by_cases hdue : s.dueSteps = []
    · rw [State.idle_cycle hclk hlost hdue]
      exact h.cycle
    · obtain ⟨d, hd, n, hact⟩ := s.takeDue_mem hdue
      rw [State.idle_due hclk hlost hdue, hact]
      refine d.act_drivesSafe (h.of_same (by rfl) (by rfl)) hclk ?_
      rwa [Due.holds_choices, ← State.mem_dueSteps]
  · rw [State.idle_still (by simpa using hclk)]
    unfold State.monitorPeriod
    (repeat' split)
    · exact h.clockLost
    · exact h.of_same rfl rfl
    · exact h

/-- Settles O59: where the permit state is LOW every operation leaves what each axis owes or owes
nothing, its fall discards what is owed, and a step is the front command's operations or the block's
own. -/
theorem drivesKept : Obligations.DrivesKept := by
  intro s t hs h
  unfold step at h
  split at h
  · cases h
    exact hs.idle
  · rename_i rest _
    exact exec_drivesKept _ { s with pending := rest } t (hs.of_same rfl rfl) h

end Sys2Proof.Machine
end

section
/-! SUPPORT. The ports' own steps: a command on one port, the transmitter's next character (R181, R182),
the start bit and the complete character (R173, R174, R177), the assembler's character and its gap (R178,
R180), and the switch of rate (R172). -/

namespace Sys2Proof.Machine

/-! ### A command on one port -/

theorem clocked_onPort {s : State} (h : s.pins.clkin = true) (p : Port)
    (f : PortState → PortState) :
    (clocked s fun s => s.onPort p f) = .next (s.setPort p (f (s.port p))) := clocked_run s _ h

/-- A step that leaves its port as it stands leaves the whole state, with CLKIN running or still. -/
theorem clocked_onPort_self {s : State} {p : Port} {f : PortState → PortState}
    (h : f (s.port p) = s.port p) : (clocked s fun s => s.onPort p f) = .next s := by
  simp [clocked, State.onPort, h]

/-! ### The transmitter (R181, R182) -/

theorem PortState.characterSent_sending {q : PortState} (h : q.tx.phase = .sending) :
    q.characterSent = { q with tx := q.tx.startNext, txClock := 0 } := if_pos h

theorem PortState.characterSent_other {q : PortState} (h : q.tx.phase ≠ .sending) :
    q.characterSent = q := if_neg h

theorem PortState.guardEnd_guard {q : PortState} (h : q.tx.phase = .guard) :
    q.guardEnd = { q with tx := ({ q.tx with guard := 0 } : Transmitter).startNext, txClock := 0 } :=
  if_pos h

theorem PortState.guardEnd_other {q : PortState} (h : q.tx.phase ≠ .guard) : q.guardEnd = q :=
  if_neg h

/-- Settles O31: each of the two ends in its phase begins the oldest character or rests, and in another
phase changes nothing. -/
theorem transmitters : Obligations.Transmitters := by
  intro s p hclk q begun
  have hsent : exec (.characterSent p) s = .next (s.setPort p q.characterSent) :=
    clocked_onPort hclk p _
  have hguard : exec (.guardEnd p) s = .next (s.setPort p q.guardEnd) := clocked_onPort hclk p _
  refine ⟨fun h => ?_, fun h => ?_, fun h => ?_, fun h => ?_⟩
  · rw [hsent, PortState.characterSent_sending h, Transmitter.startNext_eq]
  · rw [hsent, PortState.characterSent_other h, s.setPort_self]
  · rw [hguard, PortState.guardEnd_guard h, Transmitter.startNext_eq]
  · rw [hguard, PortState.guardEnd_other h, s.setPort_self]

/-! ### The receiver (R173, R174, R177) -/

/-- The vote of the three samples is their majority. -/
theorem vote_iff : ∀ s3 s5 s7 : Bool,
    ((s3 && s5) || (s3 && s7) || (s5 && s7)) = true ↔ 2 ≤ [s3, s5, s7].count true := by decide

/-- Where the vote is low, a sample disagrees exactly where one of them is high. -/
theorem disagree_eq : ∀ s3 s5 s7 : Bool, [s3, s5, s7].count true < 2 →
    (s3 || s5 || s7) = decide ([s3, s5, s7].count true = 1) := by decide

theorem PortState.verifyStart_high (q : PortState) {s3 s5 s7 : Bool}
    (h : 2 ≤ [s3, s5, s7].count true) :
    q.verifyStart s3 s5 s7 = { q with
      rx := q.rx.toIdle 0
      tallies := { q.tallies with noise := min 65535 (q.tallies.noise + 1) } } :=
  if_pos ((vote_iff s3 s5 s7).mpr h)

theorem PortState.verifyStart_low (q : PortState) {s3 s5 s7 : Bool}
    (h : [s3, s5, s7].count true < 2) :
    q.verifyStart s3 s5 s7 = { q with
      rx := { q.rx with phase := .data, highRun := 0, index := 7, bits := [], votes := [],
                        noise := decide ([s3, s5, s7].count true = 1) } } := by
  rw [← disagree_eq s3 s5 s7 h]
  exact if_neg fun hvote => absurd ((vote_iff s3 s5 s7).mp hvote) (Nat.not_le.mpr h)

/-- The start bit is verified in START, and in IDLE behind three high samples (log 27). -/
theorem exec_startBitVerify {s : State} {p : Port} (hclk : s.pins.clkin = true)
    (h : (s.port p).rx.phase = .idle ∧ (s.port p).rx.highRun = 3 ∨ (s.port p).rx.phase = .start)
    (s3 s5 s7 : Bool) :
    exec (.startBitVerify p s3 s5 s7) s =
      .next (s.setPort p ((s.port p).verifyStart s3 s5 s7)) := by
  show execStartBitVerify p s3 s5 s7 s = _
  rw [execStartBitVerify, clocked_run s _ hclk]
  rcases h with ⟨hidle, hrun⟩ | hstart
  · rw [hidle]
    simp only [hrun, if_true]
    rfl
  · rw [hstart]
    rfl

theorem exec_startBitVerify_other {s : State} {p : Port} (hclk : s.pins.clkin = true)
    (h : (s.port p).rx.phase = .idle ∧ (s.port p).rx.highRun ≠ 3 ∨
      ((s.port p).rx.phase ≠ .idle ∧ (s.port p).rx.phase ≠ .start)) (s3 s5 s7 : Bool) :
    exec (.startBitVerify p s3 s5 s7) s = .next s := by
  show execStartBitVerify p s3 s5 s7 s = _
  rw [execStartBitVerify, clocked_run s _ hclk]
  rcases h with ⟨hidle, hrun⟩ | ⟨hidle, hstart⟩
  · rw [hidle]
    simp only [hrun, if_false]
  · cases hphase : (s.port p).rx.phase with
    | idle => exact absurd hphase hidle
    | start => exact absurd hphase hstart
    | data | low | brk => rfl

theorem PortState.characterDone_stop (q : PortState) (value : Byte) (mark noise : Bool) :
    q.characterDone value mark true noise =
      { q.store value mark (q.rx.noise || noise) false with
        rx := (q.store value mark (q.rx.noise || noise) false).rx.toIdle 3 } := rfl

theorem PortState.characterDone_framing (q : PortState) {value : Byte} {mark : Bool}
    (h : value ≠ 0 ∨ mark = true) (noise : Bool) :
    q.characterDone value mark false noise =
      { q.store value mark (q.rx.noise || noise) true with
        rx := (q.store value mark (q.rx.noise || noise) true).rx.toIdle 0 } := by
  have hones : (decide (value ≠ 0) || mark) = true := by simpa using h
  simp only [PortState.characterDone, hones, Bool.false_eq_true, if_false, if_true]

theorem PortState.characterDone_zeros (q : PortState) (noise : Bool) :
    q.characterDone 0 false false noise = { q with
      rx := { q.rx with phase := .low, highRun := 0, index := 0, bits := [], votes := [],
                        noise := q.rx.noise || noise, breakTest := 0 } } := rfl

/-- Settles O32: the start bit by its vote, the character by its stop bit and by the room of the FIFO,
and the phases in which each of the two changes nothing. -/
theorem receivers : Obligations.Receivers := by
  intro s p value mark noise hclk q rested noisy stored lost
  have hdone {stop : Bool} (v : Byte) (m : Bool) (h : q.rx.phase = .data) :
      exec (.rxCharacter p v m stop noise) s =
        .next (s.setPort p (q.characterDone v m stop noise)) :=
    (clocked_run s _ hclk).trans (congrArg _ (if_pos h))
  refine ⟨fun s3 s5 s7 hmet => ⟨fun hhigh => ?_, fun hlow => ?_⟩, fun s3 s5 s7 hother => ?_,
    fun hdata => ⟨fun hroom => ?_, fun hroom hones => ?_, fun hfull => ?_, fun hfull hones => ?_, ?_⟩,
    fun hother stop => ?_⟩
  · rw [exec_startBitVerify hclk hmet, PortState.verifyStart_high _ hhigh]
    rfl
  · rw [exec_startBitVerify hclk hmet, PortState.verifyStart_low _ hlow]
  · exact exec_startBitVerify_other hclk hother s3 s5 s7
  · rw [hdone value mark hdata, PortState.characterDone_stop, PortState.store_room hroom]
    rfl
  · rw [hdone value mark hdata, PortState.characterDone_framing q hones, PortState.store_room hroom]
    rfl
  · rw [hdone value mark hdata, PortState.characterDone_stop, PortState.store_full hfull]
    rfl
  · rw [hdone value mark hdata, PortState.characterDone_framing q hones, PortState.store_full hfull]
    rfl
  · rw [hdone 0 false hdata, PortState.characterDone_zeros]
  · exact (clocked_run s _ hclk).trans (congrArg _ (if_neg hother))

/-! ### The assembler (R178, R180) -/

/-- A port whose oldest character has gone to the assembler, which restarts the gap timer (R180). -/
def PortState.unloaded (q : PortState) (rest : List RxChar) : PortState :=
  { q with rxFifo := rest, asm := { q.asm with gap := 0 } }

theorem PortState.assemblerTake_takes {q : PortState} {c : RxChar} {rest : List RxChar}
    (hslot : q.asm.slot = none) (hfifo : q.rxFifo = c :: rest) :
    q.assemblerTake = (q.unloaded rest).assemble c := by
  simp only [PortState.assemblerTake, PortState.unloaded, hslot, hfifo]

theorem PortState.assemblerTake_waits {q : PortState} (h : q.asm.slot ≠ none ∨ q.rxFifo = []) :
    q.assemblerTake = q := by
  unfold PortState.assemblerTake
  split
  case h_1 hslot hfifo => simp [hslot, hfifo] at h
  case h_2 => rfl

section Character
variable {q : PortState} {c : RxChar}

theorem PortState.assemble_framing (hf : c.framing = true) :
    q.assemble c = { q with asm := q.asm.hunt } := if_pos hf

theorem PortState.assemble_mark (hf : c.framing = false) (hm : c.mark = true) :
    q.assemble c = { q with
      asm := { assembling := true, chars := [c.value], damaged := false, gap := q.asm.gap,
               slot := q.asm.slot }
      tallies := { q.tallies with
        gap := if q.asm.assembling then min 65535 (q.tallies.gap + 1) else q.tallies.gap } } := by
  simp only [PortState.assemble, hf, hm, Bool.false_eq_true, if_false, if_true, saturate]

theorem PortState.assemble_hunting (hf : c.framing = false) (hm : c.mark = false)
    (ha : q.asm.assembling = false) : q.assemble c = q := by
  simp only [PortState.assemble, hf, hm, ha, Bool.false_eq_true, if_false]

theorem PortState.assemble_inside (hf : c.framing = false) (hm : c.mark = false)
    (ha : q.asm.assembling = true) : q.assemble c = q.addChar c := by
  simp only [PortState.assemble, hf, hm, ha, Bool.false_eq_true, if_false, if_true]

/-- A length character above 20. -/
theorem PortState.addChar_long (hlen : (q.asm.chars ++ [c.value]).length = 2)
    (hn : 20 < ((q.asm.chars ++ [c.value]).getD 1 0).toNat) :
    q.addChar c = ({ q with asm := q.asm.hunt } : PortState).countCheck := if_pos ⟨hlen, hn⟩

/-- The last character of a telegram. -/
theorem PortState.addChar_last (hn : ((q.asm.chars ++ [c.value]).getD 1 0).toNat ≤ 20)
    (hlen : (q.asm.chars ++ [c.value]).length = ((q.asm.chars ++ [c.value]).getD 1 0).toNat + 3) :
    q.addChar c = { q with
      asm := { q.asm.hunt with
        slot := if q.asm.damaged || c.loss then none else some (q.asm.chars ++ [c.value]) } } :=
  (if_neg fun h => absurd h.2 (Nat.not_lt.mpr hn)).trans (if_pos ⟨by omega, hlen⟩)

/-- A character inside a telegram. -/
theorem PortState.addChar_more (hn : ((q.asm.chars ++ [c.value]).getD 1 0).toNat ≤ 20)
    (hlen : (q.asm.chars ++ [c.value]).length ≠ ((q.asm.chars ++ [c.value]).getD 1 0).toNat + 3) :
    q.addChar c = { q with
      asm := { q.asm with chars := q.asm.chars ++ [c.value], damaged := q.asm.damaged || c.loss } } :=
  (if_neg fun h => absurd h.2 (Nat.not_lt.mpr hn)).trans (if_neg fun h => hlen h.2)

end Character

theorem PortState.gapExpire_assembling {q : PortState} (h : q.asm.assembling = true) :
    q.gapExpire = { q with
      asm := { q.asm with assembling := false, chars := [], damaged := false, gap := 384 }
      tallies := { q.tallies with gap := min 65535 (q.tallies.gap + 1) } } := if_pos h

theorem PortState.gapExpire_hunting {q : PortState} (h : q.asm.assembling = false) :
    q.gapExpire = q := if_neg (by simp [h])

/-- Settles O34: the character taken by its tags and by its place in the telegram, and the gap in
ASSEMBLING. -/
theorem assemblers : Obligations.Assemblers := by
  intro s p hclk q hunting
  have htake : exec (.assemblerTake p) s = .next (s.setPort p q.assemblerTake) :=
    clocked_onPort hclk p _
  have hgap : exec (.gapExpiry p) s = .next (s.setPort p q.gapExpire) := clocked_onPort hclk p _
  refine ⟨fun c rest hslot hfifo => ?_, fun hwaits => ?_, fun hasm => ?_, fun hasm => ?_⟩
  · intro taken chars n inside
    let u := q.unloaded rest
    have hnone : u.asm.slot = none := hslot
    have hhunt : u.asm.hunt = hunting := by
      rw [Assembler.hunt, hnone]
      rfl
    have htake : exec (.assemblerTake p) s = .next (s.setPort p (u.assemble c)) := by
      rw [htake, PortState.assemblerTake_takes hslot hfifo]
    refine ⟨fun hf => ?_, fun hf hm => ?_, fun hf hm ha => ?_, fun ⟨hf, hm, ha, _⟩ hlen hn => ?_,
      fun ⟨hf, hm, ha, _⟩ hn hlen => ?_, fun ⟨hf, hm, ha, _⟩ hn hlen => ?_⟩
    · rw [htake, PortState.assemble_framing hf, hhunt]
      rfl
    · rw [htake, PortState.assemble_mark hf hm, hnone]
      rfl
    · rw [htake, PortState.assemble_hunting (q := u) hf hm ha]
      rfl
    · rw [htake, PortState.assemble_inside (q := u) hf hm ha,
        PortState.addChar_long (q := u) hlen hn, hhunt]
      rfl
    · rw [htake, PortState.assemble_inside (q := u) hf hm ha,
        PortState.addChar_last (q := u) hn hlen]
      rfl
    · rw [htake, PortState.assemble_inside (q := u) hf hm ha,
        PortState.addChar_more (q := u) hn hlen]
      rfl
  · rw [htake, PortState.assemblerTake_waits hwaits, s.setPort_self]
  · rw [hgap, PortState.gapExpire_assembling hasm]
  · rw [hgap, PortState.gapExpire_hunting hasm, s.setPort_self]

/-! ### The switch of rate (R172) -/

theorem PortState.switchDue_iff (q : PortState) :
    q.switchDue = true ↔
      (∃ r, q.request = some r ∧ r.written = true) ∧ q.tx.phase = .idle ∧ q.tx.fifo = [] := by
  cases h : q.request <;> simp [PortState.switchDue, h, and_assoc]

theorem PortState.baudSwitch_due {q : PortState} {divisor : Nat} {r : Request}
    (hd : q.pendingDivisor = some divisor) (hr : q.request = some r) (hw : r.written = true)
    (hidle : q.tx.phase = .idle) (hfifo : q.tx.fifo = []) :
    q.baudSwitch = { q with
      divisor := divisor, pendingDivisor := none, rxClock := 0, txClock := 0, rx := q.rx.toIdle 0
      tx := { phase := .guard, guard := 0, shift := none, bit := 0, fifo := [] }
      request := none, noticePass := 0 } := by
  have hdue := q.switchDue_iff.mpr ⟨⟨r, hr, hw⟩, hidle, hfifo⟩
  simp only [PortState.baudSwitch, hd, hdue, hfifo, if_true]

theorem PortState.baudSwitch_early {q : PortState}
    (h : q.pendingDivisor = none ∨ q.switchDue = false) : q.baudSwitch = q := by
  unfold PortState.baudSwitch
  (repeat' split)
  case h_1.isTrue hd hdue => simp [hd, hdue] at h
  all_goals rfl

/-- The clamp of the divisor by its cases. -/
theorem clampTo_divisor (value : Nat) :
    clampTo 1 4095 value = if value < 1 then 1 else if 4095 < value then 4095 else value := by
  unfold clampTo
  (repeat' split) <;> omega

/-- Settles O28: the pending divisor with its answer, the switch at its moment, and none before it. -/
theorem setBaudSwitch : Obligations.SetBaudSwitch := by
  intro s p
  refine ⟨fun value hl hv => ?_, fun divisor r hclk hd hr hw hidle hfifo => ?_, fun hearly => ?_⟩
  · intro divisor
    have hfield : field (natBytes 2 value) 0 2 = value :=
      (field_natBytes 2 value).trans (Nat.mod_eq_of_lt hv)
    rw [exec_setBaud hl (by cases p <;> decide) (natBytes_length 2 value)]
    simp only [ownSetBaud, hfield, clampTo_divisor]
    rfl
  · refine (clocked_onPort hclk p _).trans ?_
    rw [PortState.baudSwitch_due hd hr hw hidle hfifo]
    rfl
  · refine clocked_onPort_self (PortState.baudSwitch_early ?_)
    rw [Bool.eq_false_iff, ne_eq, PortState.switchDue_iff]
    rcases hearly with hd | hw | hidle | hfifo
    · exact .inl hd
    · refine .inr fun ⟨⟨r, hr, hrw⟩, _⟩ => ?_
      simp [hw r hr] at hrw
    · exact .inr fun h => hidle h.2.1
    · exact .inr fun h => hfifo h.2.2

end Sys2Proof.Machine
end

section
/-! SUPPORT. The checks of a telegram (R187): what the row of a request says of its command, and the loss
flag that a telegram takes with it (R177). -/

namespace Sys2Proof.Machine

/-- Nothing waits in a port before a telegram that arrives (R179). -/
theorem PortState.clear_iff (q : PortState) :
    q.clear = true ↔ q.asm.slot = none ∧ q.rxFifo = [] ∧ q.asm.assembling = false := by
  simp [PortState.clear, and_assoc]

@[simp] theorem State.setPort_setPort (s : State) (p : Port) (u v : PortState) :
    (s.setPort p u).setPort p v = s.setPort p v := by cases p <;> rfl

/-- The loss flag has no part in the arbitration of R197. -/
theorem State.mayTake_heard (s : State) (p : Port) :
    (s.setPort p (s.port p).heard).mayTake p = s.mayTake p := by cases p <;> rfl

/-- With nothing before it a telegram has the effect it has without a lost character (R177). -/
theorem State.arrive_heard {s : State} {p : Port} (hc : (s.port p).clear = true) {chars : List Byte}
    (hlen : chars.length ≤ 23) (take : State → State) :
    s.arrive p chars take = (s.setPort p (s.port p).heard).arrive p chars take := by
  simp [State.arrive_eq _ p hlen, hc, State.mayTake_heard]

theorem length_le_of_delimited {chars : List Byte} (h : delimited chars = true) :
    chars.length ≤ 23 := by
  unfold delimited at h
  split at h
  · simp only [Bool.and_eq_true, decide_eq_true_eq] at h
    have hn : _ ≤ 20 := h.1
    simp only [List.length_cons]
    omega
  · cases h

/-! ### The rows of R200 -/

/-- The data of a reply that NOT_PERMITTED or BAD_LENGTH brings: the queue level on a queue request
(log 19). -/
def State.turnedAway (s : State) (kind : Byte) : List Byte :=
  if 0x10 ≤ kind.toNat ∧ kind.toNat ≤ 0x13 then natBytes 1 s.cq.entries.length else []

/-- A command brings the request of a kind to a port: its telegram arrives, and its take checks the port
and the length before an owner acts. -/
structure BringsRequest (c : Instr) (p : Port) (kind : Byte) (d : List Byte) (roles : List Port)
    (n : Nat) : Prop where
  arrives : ∀ s, exec c s = clocked s fun s => s.arrive p (telegram kind d) (takeKind p kind d)
  checks : ∀ s, ∃ owner, takeKind p kind d s =
    s.takeRequest p kind roles n d (s.turnedAway kind) owner

/-- Every row by its command's arm of `exec` and its kind's arm of `takeKind`. -/
theorem bringsRequest_of_mem {p : Port} {d : List Byte} :
    ∀ row ∈ requestRows p d, BringsRequest row.1 p row.2.1 d row.2.2.1 row.2.2.2 := by
  simp only [requestRows, List.forall_mem_cons, List.not_mem_nil, false_imp_iff, implies_true,
    and_true]
  and_intros
  all_goals exact ⟨fun _ => rfl, fun _ => ⟨_, rfl⟩⟩

section Request
variable {c : Instr} {p : Port} {kind : Byte} {d : List Byte} {roles : List Port} {n : Nat} {s : State}

theorem BringsRequest.notPermitted (h : BringsRequest c p kind d roles n) (hd : d.length ≤ 20)
    (hl : s.listens p = true) (hp : p ∉ roles) :
    exec c s = .next (s.busy p kind
      { result := .notPermitted, flags := noFlags, data := .fixed (s.turnedAway kind) }) := by
  obtain ⟨owner, htake⟩ := h.checks s
  rw [h.arrives, clocked_arrive hl hd, htake, s.takeRequest_refuses hp]

theorem BringsRequest.badLength (h : BringsRequest c p kind d roles n) (hd : d.length ≤ 20)
    (hl : s.listens p = true) (hp : p ∈ roles) (hn : d.length ≠ n) :
    exec c s = .next (s.busy p kind
      { result := .badLength, flags := noFlags, data := .fixed (s.turnedAway kind) }) := by
  obtain ⟨owner, htake⟩ := h.checks s
  rw [h.arrives, clocked_arrive hl hd, htake, s.takeRequest_badLength hp hn]

/-- A lost character before the telegram changes nothing of its effect (R177). -/
theorem BringsRequest.heard (h : BringsRequest c p kind d roles n) (hd : d.length ≤ 20)
    (hc : (s.port p).clear = true) :
    exec c s = if s.pins.clkin then exec c (s.setPort p (s.port p).heard) else .next s := by
  have hlen : (telegram kind d).length ≤ 23 := by simpa using hd
  rw [h.arrives, h.arrives]
  split
  case isTrue hclk =>
    rw [clocked_run s _ hclk, clocked_run _ _ ((s.setPort_pins p _).symm ▸ hclk),
      State.arrive_heard hc hlen]
  case isFalse hclk => exact clocked_still s _ (Bool.eq_false_iff.mpr hclk)

/-- A request that cannot be taken waits in the slot (log 3). -/
theorem BringsRequest.waits (h : BringsRequest c p kind d roles n) (hd : d.length ≤ 20)
    (hclk : s.pins.clkin = true) (hc : (s.port p).clear = true) (hm : s.mayTake p = false) :
    exec c s = .next (s.setPort p { (s.port p).heard with
      asm := { (s.port p).asm with slot := some (telegram kind d) } }) := by
  have hlen : (telegram kind d).length ≤ 23 := by simpa using hd
  rw [h.arrives, clocked_run s _ hclk, State.arrive_waits hc hm hlen]

end Request

/-- Settles O26: the rows of R200 by the two checks, the loss flag and the slot, then the discard and the
unknown kind. -/
theorem telegramChecks : Obligations.TelegramChecks := by
  intro s p d hd heard nothingWaits
  refine ⟨fun c kind roles n hrow => ?_, fun chars hl hdel hsum => ?_, fun kind hl hkind => ?_⟩
  · have hreq : BringsRequest c p kind d roles n := bringsRequest_of_mem _ hrow
    refine ⟨fun hl hp => hreq.notPermitted hd hl hp, fun hl hp hn => hreq.badLength hd hl hp hn,
      fun hw => hreq.heard hd ((s.port p).clear_iff.mpr hw), fun hclk hw hm => ?_⟩
    rw [hreq.waits hd hclk ((s.port p).clear_iff.mpr hw) hm, State.setPort_setPort,
      State.setPort_port]
    rfl
  · show execCheckDiscard p chars s = _
    have htest : (delimited chars && decide (charSum chars ≠ 0)) = true := by
      rw [hdel, decide_eq_true hsum]
      rfl
    rw [execCheckDiscard, clocked_run s _ (State.listens_clkin hl), if_pos htest,
      State.arrive_of_listens hl (length_le_of_delimited hdel)]
    rfl
  · show execUnknownKindTelegram p kind d s = _
    have htest : ¬ requestCodes.contains kind.toNat = true := by simpa using hkind
    rw [execUnknownKindTelegram, clocked_run s _ (State.listens_clkin hl), if_neg htest,
      State.arrive_of_listens hl (by simpa using hd)]
    rfl

end Sys2Proof.Machine
end

section
/-! SUPPORT. What a handler writes: the telegrams behind what waits in the transmitter (R181), the reply
(R184, R188), and the notices with their passes (R196, R197). -/

namespace Sys2Proof.Machine

/-! ### Telegrams behind what waits (R181) -/

/-- A transmitter that rests has nothing in its shift. -/
def Transmitter.settled (t : Transmitter) : Prop := t.phase = .idle → t.shift = none

theorem Transmitter.startNext_queued (t : Transmitter) : t.startNext.queued = t.fifo := by
  rw [Transmitter.startNext_eq]
  cases h : t.fifo <;> simp [Transmitter.queued]

theorem PortState.write_eq (q : PortState) (chars : List Byte) :
    q.write chars = { q with tx := (q.write chars).tx, txClock := (q.write chars).txClock } := by
  unfold PortState.write
  dsimp only
  split <;> rfl

theorem PortState.write_queued {q : PortState} (h : q.tx.settled) (chars : List Byte) :
    (q.write chars).tx.queued = q.tx.queued ++ markChars chars := by
  unfold PortState.write
  dsimp only
  split
  case isTrue hidle =>
    rw [Transmitter.startNext_queued, Transmitter.queued, h hidle]
    rfl
  case isFalse => exact (List.append_assoc ..).symm

theorem PortState.write_phase (q : PortState) {chars : List Byte} (hc : chars ≠ []) :
    (q.write chars).tx.phase = if q.tx.phase = .idle then .sending else q.tx.phase := by
  have hmarks : markChars chars ≠ [] := by
    rwa [Ne, ← List.length_eq_zero_iff, markChars_length, List.length_eq_zero_iff]
  unfold PortState.write
  dsimp only
  split
  case isTrue =>
    rw [Transmitter.startNext_eq]
    exact if_neg (List.append_ne_nil_of_right_ne_nil _ hmarks)
  case isFalse => rfl

theorem PortState.write_busy (q : PortState) {chars : List Byte} (hc : chars ≠ []) :
    (q.write chars).tx.phase ≠ .idle := by
  rw [q.write_phase hc]
  split
  case isTrue => exact nofun
  case isFalse h => exact h

theorem PortState.writeAll_eq (q : PortState) (ts : List (List Byte)) :
    q.writeAll ts = { q with tx := (q.writeAll ts).tx, txClock := (q.writeAll ts).txClock } := by
  induction ts generalizing q with
  | nil => rfl
  | cons t rest ih =>
    rw [PortState.writeAll, ih, q.write_eq t]

theorem PortState.writeAll_queued {q : PortState} (h : q.tx.settled) {ts : List (List Byte)}
    (hts : ∀ t ∈ ts, t ≠ []) :
    (q.writeAll ts).tx.queued = q.tx.queued ++ (ts.map markChars).flatten := by
  induction ts generalizing q with
  | nil => simp [PortState.writeAll]
  | cons t rest ih =>
    have hsettled : (q.write t).tx.settled := fun hidle =>
      absurd hidle (q.write_busy (hts t List.mem_cons_self))
    rw [PortState.writeAll, ih hsettled fun u hu => hts u (List.mem_cons_of_mem _ hu),
      PortState.write_queued h]
    simp

theorem PortState.writeAll_phase {q : PortState} {ts : List (List Byte)} (hts : ∀ t ∈ ts, t ≠ [])
    (hne : ts ≠ []) :
    (q.writeAll ts).tx.phase = if q.tx.phase = .idle then .sending else q.tx.phase := by
  induction ts generalizing q with
  | nil => exact absurd rfl hne
  | cons t rest ih =>
    have ht : t ≠ [] := hts t List.mem_cons_self
    rw [PortState.writeAll, ← q.write_phase ht]
    by_cases hrest : rest = []
    · rw [hrest]
      rfl
    · rw [ih (fun u hu => hts u (List.mem_cons_of_mem _ hu)) hrest, if_neg (q.write_busy ht)]

/-! ### The telegrams of a reply (R190, R191) -/

theorem telegram_ne_nil (kind : Byte) (d : List Byte) : telegram kind d ≠ [] := nofun

theorem ne_nil_of_mem_groupFrom {kind : Byte} {header : List Byte} {count i : Nat}
    {parts : List (List Byte)} : ∀ t ∈ groupFrom kind header count i parts, t ≠ [] := by
  induction parts generalizing i with
  | nil => exact nofun
  | cons part rest ih =>
    intro t ht
    rcases List.mem_cons.mp ht with rfl | ht
    · exact telegram_ne_nil _ _
    · exact ih t ht

/-- A group has at least one part. -/
theorem replyGroup_ne_nil (kind : Byte) (header : List Byte) (fields : List (List Byte)) :
    replyGroup kind header fields ≠ [] := by
  unfold replyGroup
  cases h : partsOf fields with
  | nil => simp [partsOf] at h
  | cons part rest => exact nofun

theorem State.replyTelegrams_ne_nil (s : State) (p : Port) (r : Request) :
    s.replyTelegrams p r ≠ [] := by
  unfold State.replyTelegrams
  dsimp only
  split
  case h_1 | h_5 => exact nofun
  all_goals exact replyGroup_ne_nil _ _ _

theorem State.ne_nil_of_mem_replyTelegrams {s : State} {p : Port} {r : Request} :
    ∀ t ∈ s.replyTelegrams p r, t ≠ [] := by
  intro t ht
  unfold State.replyTelegrams at ht
  dsimp only at ht
  split at ht
  case h_1 | h_5 => exact List.mem_singleton.mp ht ▸ telegram_ne_nil _ _
  all_goals exact ne_nil_of_mem_groupFrom t ht

/-! ### The reply (R172, R184, R188) -/

theorem PortState.writeReply_eq (q : PortState) (r : Request) (ts : List (List Byte)) :
    q.writeReply r ts = { q with
      request := r.afterReply, tallies := q.tallies.afterReply r, tx := (q.writeAll ts).tx
      txClock := (q.writeAll ts).txClock, noticePass := 0 } := by
  rw [PortState.writeReply, q.writeAll_eq ts]

theorem Tallies.afterReply_clear (t : Tallies) {r : Request} (h : r.data = .port true) :
    t.afterReply r = { noise := 0, framing := 0, overrun := 0, brk := 0, gap := 0, check := 0,
                       refused := 0 } := by
  simp only [Tallies.afterReply, h]

theorem Tallies.afterReply_other (t : Tallies) {r : Request} (h : r.data ≠ .port true) :
    t.afterReply r =
      if r.result = .accepted then t else { t with refused := min 65535 (t.refused + 1) } := by
  unfold Tallies.afterReply
  split
  case h_1 hport => exact absurd hport h
  case h_2 => rfl

theorem State.replyWrite_due {s : State} {p : Port} {r : Request} (hr : (s.port p).request = some r)
    (hw : r.written = false)
    (hfit : (s.replyTelegrams p r).flatten.length ≤ 64 - (s.port p).tx.fifo.length) :
    s.replyWrite p = s.setPort p ((s.port p).writeReply r (s.replyTelegrams p r)) := by
  have hdue : s.replyDue p = some (r, s.replyTelegrams p r) := by
    simp only [State.replyDue, hr]
    exact if_pos ⟨hw, hfit⟩
  simp only [State.replyWrite, hdue]
  rfl

theorem State.replyWrite_none {s : State} {p : Port}
    (h : (s.port p).request = none ∨ ∃ r, (s.port p).request = some r ∧
      (r.written = true ∨
        64 - (s.port p).tx.fifo.length < (s.replyTelegrams p r).flatten.length)) :
    s.replyWrite p = s := by
  have hdue : s.replyDue p = none := by
    rcases h with hr | ⟨r, hr, hnot⟩
    · simp only [State.replyDue, hr]
    · simp only [State.replyDue, hr]
      refine if_neg fun ⟨hw, hfit⟩ => ?_
      rcases hnot with hwritten | hfull
      · simp [hw] at hwritten
      · exact absurd hfit (Nat.not_le.mpr hfull)
  simp only [State.replyWrite, hdue]

/-! ### The next notice (R196, R197) -/

/-- A notice's place in the order of codes. -/
theorem Notice.code_rank (k : Notice) : k.code.toNat - 0x60 = k.rank := by cases k <;> rfl

theorem noticeOrder_rank : ∀ i : Fin 6, noticeOrder[i].rank = i := by decide

theorem noticeOrder_getElem_rank (k : Notice) : noticeOrder[k.rank]? = some k := by
  cases k <;> rfl

/-- The lowest kind of a sort is the first one the order finds. -/
theorem noticeOrder_find? {f : Notice → Bool} {k : Notice} (hk : f k = true)
    (hlow : ∀ j, j.rank < k.rank → f j = false) : noticeOrder.find? f = some k := by
  obtain ⟨hlt, hget⟩ := List.getElem?_eq_some_iff.mp (noticeOrder_getElem_rank k)
  refine List.find?_eq_some_iff_getElem.mpr ⟨hk, k.rank, hlt, hget, fun i hi => ?_⟩
  have hrank : noticeOrder[i].rank = i := noticeOrder_rank ⟨i, hi.trans hlt⟩
  rw [hlow _ (hrank.trans_lt hi)]
  rfl

section NextNotice
variable {q : PortState} {k : Notice}

theorem PortState.nextInPass_eq (q : PortState) :
    q.nextInPass =
      noticeOrder.find? fun k => q.notices.has k && decide (q.noticePass ≤ k.rank) := by
  rw [PortState.nextInPass, PortState.pendingKinds, List.find?_filter]
  simp only [Bool.decide_and, Bool.decide_eq_true]

theorem PortState.nextInPass_some (hk : q.notices.has k = true) (hpass : q.noticePass ≤ k.rank)
    (hlow : ∀ j : Notice, q.noticePass ≤ j.rank → j.rank < k.rank → q.notices.has j = false) :
    q.nextInPass = some k := by
  rw [PortState.nextInPass_eq]
  refine noticeOrder_find? (by simp [hk, hpass]) fun j hj => ?_
  by_cases hp : q.noticePass ≤ j.rank
  · simp [hlow j hp hj]
  · simp [hp]

theorem PortState.nextInPass_none
    (h : ∀ j : Notice, q.noticePass ≤ j.rank → q.notices.has j = false) :
    q.nextInPass = none := by
  rw [PortState.nextInPass_eq]
  refine List.find?_eq_none.mpr fun j _ hj => ?_
  simp only [Bool.and_eq_true, decide_eq_true_eq] at hj
  simp [h j hj.2] at hj

/-- The lowest kind left in the pass is built next. -/
theorem PortState.nextNotice_inPass (hk : q.notices.has k = true) (hpass : q.noticePass ≤ k.rank)
    (hlow : ∀ j : Notice, j.rank < k.rank → q.noticePass ≤ j.rank → q.notices.has j = false) :
    q.nextNotice = some k := by
  rw [PortState.nextNotice, PortState.nextInPass_some hk hpass fun j hp hj => hlow j hj hp]
  rfl

/-- With none left in the pass a new one begins at the lowest kind. -/
theorem PortState.nextNotice_newPass (hk : q.notices.has k = true)
    (hlow : ∀ j : Notice, j.rank < k.rank ∨ q.noticePass ≤ j.rank → q.notices.has j = false) :
    q.nextNotice = some k := by
  rw [PortState.nextNotice, PortState.nextInPass_none fun j hp => hlow j (.inr hp), Option.none_or,
    PortState.pendingKinds, List.head?_filter]
  exact noticeOrder_find? hk fun j hj => hlow j (.inl hj)

theorem PortState.nextNotice_none (h : ∀ j, q.notices.has j = false) : q.nextNotice = none := by
  rw [PortState.nextNotice, PortState.nextInPass_none fun j _ => h j, Option.none_or,
    PortState.pendingKinds, List.head?_filter]
  exact List.find?_eq_none.mpr fun j _ hj => by simp [h j] at hj

/-- The pass goes on while its lowest kind fits. -/
theorem PortState.closePass_some (h : q.nextInPass = some k) :
    q.closePass.noticePass = if k.length ≤ q.room then q.noticePass else 0 := by
  simp only [PortState.closePass, h]
  split <;> rfl

theorem PortState.closePass_none (h : q.nextInPass = none) : q.closePass.noticePass = 0 := by
  simp only [PortState.closePass, h]

end NextNotice

/-! ### The build of a notice (R197) -/

theorem PortState.writeNotice_eq (q : PortState) (k : Notice) (chars : List Byte) :
    q.writeNotice k chars = { q with
      notices := q.notices.put k false, noticePass := k.rank + 1
      tx := (q.writeNotice k chars).tx, txClock := (q.writeNotice k chars).txClock } := by
  rw [PortState.writeNotice, PortState.write_eq]

theorem PortState.writeNotice_queued {q : PortState} (h : q.tx.settled) (k : Notice)
    (chars : List Byte) :
    (q.writeNotice k chars).tx.queued = q.tx.queued ++ markChars chars :=
  PortState.write_queued (q := { q with notices := q.notices.put k false, noticePass := k.rank + 1 })
    h chars

theorem State.noticeBuild_due {s : State} {p : Port} {k : Notice}
    (hr : (s.port p).request = none) (hnext : (s.port p).nextNotice = some k)
    (hfit : (s.noticeTelegram k).length ≤ 64 - (s.port p).tx.fifo.length) :
    s.noticeBuild p =
      s.setPort p ((s.port p).writeNotice k (s.noticeTelegram k)).closePass := by
  have hdue : s.noticeDue p = some k := by
    simp only [State.noticeDue, hr, hnext]
    exact if_pos hfit
  simp only [State.noticeBuild, hdue]
  rfl

theorem State.noticeBuild_full {s : State} {p : Port} {k : Notice}
    (hnext : (s.port p).nextNotice = some k)
    (hfull : 64 - (s.port p).tx.fifo.length < (s.noticeTelegram k).length) :
    s.noticeBuild p = s := by
  have hdue : s.noticeDue p = none := by
    unfold State.noticeDue
    split
    case h_1 j _ hj =>
      obtain rfl : k = j := Option.some.inj (hnext.symm.trans hj)
      exact if_neg (Nat.not_le.mpr hfull)
    case h_2 => rfl
  simp only [State.noticeBuild, hdue]

theorem State.noticeBuild_none {s : State} {p : Port}
    (h : (s.port p).request ≠ none ∨ (s.port p).nextNotice = none) : s.noticeBuild p = s := by
  have hdue : s.noticeDue p = none := by
    unfold State.noticeDue
    split
    case h_1 hr hk => simp [hr, hk] at h
    case h_2 => rfl
  simp only [State.noticeBuild, hdue]

section Built
variable {q : PortState} {k : Notice}

/-- The kinds above `k` stand as they stood before its build. -/
theorem PortState.writeNotice_has_above {chars : List Byte} {j : Notice} (hj : k.rank < j.rank) :
    (q.writeNotice k chars).notices.has j = q.notices.has j := by
  rw [PortState.writeNotice_eq, NoticeSet.put_has, if_neg]
  rintro rfl
  exact lt_irrefl _ hj

theorem PortState.writeNotice_pass_ends {chars : List Byte}
    (habove : ∀ j : Notice, k.rank < j.rank → q.notices.has j = false) :
    (q.writeNotice k chars).closePass.noticePass = 0 := by
  refine PortState.closePass_none (PortState.nextInPass_none fun j hj => ?_)
  rw [PortState.writeNotice_eq] at hj
  rw [PortState.writeNotice_has_above hj, habove j hj]

theorem PortState.writeNotice_pass_next {chars : List Byte} {j : Notice} (hkj : k.rank < j.rank)
    (hj : q.notices.has j = true)
    (hbetween : ∀ i : Notice, k.rank < i.rank → i.rank < j.rank → q.notices.has i = false) :
    (q.writeNotice k chars).closePass.noticePass =
      if j.length ≤ (q.writeNotice k chars).room then k.rank + 1 else 0 := by
  have hpass : (q.writeNotice k chars).noticePass = k.rank + 1 := by
    rw [PortState.writeNotice_eq]
  rw [PortState.closePass_some (k := j), hpass]
  refine PortState.nextInPass_some ?_ (hpass.trans_le hkj) fun i hi hij => ?_
  · rw [PortState.writeNotice_has_above hkj, hj]
  · rw [hpass] at hi
    rw [PortState.writeNotice_has_above hi, hbetween i hi hij]

end Built

theorem PortState.closePass_tx (q : PortState) : q.closePass.tx = q.tx := by
  rw [PortState.closePass_eq]

/-- Settles O29: the reply, written or not, then the notice of the pass or of a new one, and the pass
behind it and behind a kind made pending. -/
theorem replyAndNotice : Obligations.ReplyAndNotice := by
  intro s p hclk hsettled q rank
  have hrank : rank = Notice.rank := funext Notice.code_rank
  clear_value rank
  subst hrank
  have hreply : exec (.replyWrite p) s = .next (s.replyWrite p) :=
    clocked_run s (fun s => s.replyWrite p) hclk
  have hbuild : exec (.noticeBuild p) s = .next (s.noticeBuild p) :=
    clocked_run s (fun s => s.noticeBuild p) hclk
  refine ⟨fun r hr hw hfit => ?_, fun hnone => ?_, fun k hr hk hnext => ?_, fun hnone => ?_,
    fun k => ?_⟩
  · refine ⟨_, by rw [hreply, State.replyWrite_due hr hw hfit], ?_⟩
    rw [State.setPort_port, PortState.writeReply_eq]
    exact ⟨PortState.writeAll_queued hsettled State.ne_nil_of_mem_replyTelegrams,
      PortState.writeAll_phase State.ne_nil_of_mem_replyTelegrams (s.replyTelegrams_ne_nil p r),
      rfl, Tallies.afterReply_clear _,
      fun hport hok => (Tallies.afterReply_other _ hport).trans (if_pos hok),
      fun hport hno => (Tallies.afterReply_other _ hport).trans (if_neg hno), rfl⟩
  · rw [hreply, State.replyWrite_none hnone]
  · have hnext : q.nextNotice = some k := hnext.elim
      (fun h => PortState.nextNotice_inPass hk h.1 h.2) (PortState.nextNotice_newPass hk)
    refine ⟨fun hfit => ?_, fun hfull => ?_⟩
    · refine ⟨_, by rw [hbuild, State.noticeBuild_due hr hnext hfit], ?_⟩
      rw [State.setPort_port, PortState.closePass_tx]
      refine ⟨PortState.writeNotice_queued hsettled k _, PortState.writeNotice_pass_ends,
        fun j hkj hj hbetween => ?_, ?_⟩
      · rw [PortState.writeNotice_pass_next hkj hj hbetween, s.noticeTelegram_length]
        rfl
      · rw [PortState.closePass_eq, PortState.writeNotice_eq]
    · rw [hbuild, State.noticeBuild_full hnext hfull]
  · rw [hbuild, State.noticeBuild_none (hnone.imp_right PortState.nextNotice_none)]
  · intro kinds u
    have hu : u = q.raise k := s.setPort_port p _
    refine ⟨?_, fun j hj hp hlow => ?_, fun hnone => ?_, fun j => ?_⟩
    · rw [hu]
      exact congrArg (s.setPort p) (PortState.closePass_eq _)
    · rw [hu, s.noticeTelegram_length]
      exact PortState.closePass_some (PortState.nextInPass_some hj hp hlow)
    · rw [hu]
      exact PortState.closePass_none (PortState.nextInPass_none hnone)
    · by_cases hj : j = k <;> simp [kinds, NoticeSet.put_has, hj]

end Sys2Proof.Machine
end

section
/-! SUPPORT. The form of telegrams: the frame of R186, the bytes of a field (R190), how a reply group
lays its fields in parts (R191), and the field lists of notices and replies (R193 to R195, R198). -/

namespace Sys2Proof.Machine

/-! ### The frame of a telegram (R186) -/

theorem charSum_toNat (cs : List Byte) : (charSum cs).toNat = (cs.map BitVec.toNat).sum % 256 := by
  induction cs with
  | nil => rfl
  | cons c cs ih =>
    have hcons : charSum (c :: cs) = c + charSum cs := by
      rw [charSum, List.foldl_cons, sum_from, zero_add]
      rfl
    rw [hcons, BitVec.toNat_add, ih, List.map_cons, List.sum_cons, Nat.add_mod_mod]

theorem framed_telegram (kind : Byte) (payload : List Byte) :
    framed kind payload (telegram kind payload) := by
  refine ⟨telegram_length kind payload, ?_, ?_⟩
  · exact List.take_left' (by simp)
  · rw [← charSum_toNat, charSum_telegram]
    rfl

/-- A telegram of at least 3 and at most 23 characters whose length character counts its payload and
whose characters sum to 0 (R186). -/
def formed (t : List Byte) : Prop :=
  3 ≤ t.length ∧ t.length ≤ 23 ∧ (t.getD 1 0).toNat + 3 = t.length ∧ charSum t = 0

theorem formed_telegram (kind : Byte) {payload : List Byte} (h : payload.length ≤ 20) :
    formed (telegram kind payload) := by
  have hcount : ((telegram kind payload).getD 1 0).toNat = payload.length :=
    (BitVec.toNat_ofNat _ 8).trans (Nat.mod_eq_of_lt (by omega))
  rw [formed, hcount, telegram_length, charSum_telegram]
  exact ⟨by omega, by omega, rfl, rfl⟩

/-! ### The bytes of a field (R190) -/

theorem pow_dvd_sub_leValue (w : Nat) (v : Int) : (256 : Int) ^ w ∣ v - leValue (leBytes w v) := by
  rw [leValue_leBytes]
  exact Int.dvd_self_sub_emod

theorem natBytes_one (n : Nat) : natBytes 1 n = [BitVec.ofNat 8 n] := natBytes_succ 0 n

theorem leBytes_zero (w : Nat) : leBytes w 0 = List.replicate w 0 := by
  induction w with
  | zero => rfl
  | succ w ih => rw [leBytes, Int.zero_ediv, ih, List.replicate_succ]; rfl

/-- The byte of bits is the number whose binary digits they are. -/
theorem bitsByte_eq (bits : List Bool) :
    bitsByte bits = [BitVec.ofNat 8 (bits.foldr (fun b n => (if b then 1 else 0) + 2 * n) 0)] := by
  refine congrArg (fun b => [b]) ?_
  induction bits with
  | nil => rfl
  | cons b bits ih =>
    rw [List.foldr_cons, List.foldr_cons, ih, BitVec.ofNat_add, BitVec.ofNat_mul]
    cases b <;> rfl

namespace Datum

theorem laid_some (w : Nat) (v : Int) : Datum.laid (w, some v) = leBytes w v := rfl

theorem laid_datum (w v : Nat) : (datum w v).laid = natBytes w v := rfl

theorem laid_optDatum (w : Nat) (v : Option Nat) : (optDatum w v).laid = optBytes w v := by
  cases v with
  | none => exact (leBytes_zero w).symm
  | some v => rfl

theorem laid_flagDatum (b : Bool) : (flagDatum b).laid = boolByte b := by
  cases b <;> rfl

theorem laid_bitsDatum (bits : List Bool) : (bitsDatum bits).laid = bitsByte bits := by
  rw [bitsByte_eq, bitsDatum, laid_datum, natBytes_one]

theorem laid_holds (h : HoldSet) : h.datum.laid = h.bytes := laid_bitsDatum _

theorem laid_length (d : Datum) : d.laid.length = d.1 := by
  obtain ⟨w, v⟩ := d
  cases v with
  | none => exact List.length_replicate
  | some v => exact leBytes_length w v

theorem forall_laid_length {P : Nat → Prop} {data : List Datum} (h : ∀ w ∈ data.map Prod.fst, P w) :
    ∀ f ∈ data.map Datum.laid, P f.length :=
  List.forall_mem_map.mpr fun d hd => d.laid_length ▸ List.forall_mem_map.mp h d hd

theorem length_flatMap_laid (data : List Datum) :
    (data.flatMap Datum.laid).length = (data.map Prod.fst).sum := by
  simp [List.length_flatMap, laid_length]

end Datum

/-- The flags byte of a reply (R190). -/
theorem ReplyFlags.bytes_eq (f : ReplyFlags) :
    f.bytes = [BitVec.ofNat 8 ((if f.clamped then 1 else 0) + 2 * (if f.inUse then 1 else 0) +
      4 * (if f.notHeld then 1 else 0))] := by
  rw [ReplyFlags.bytes, bitsByte_eq]
  simp only [List.foldr_cons, List.foldr_nil]
  congr 2
  omega

/-! ### The parts of a group (R191) -/

/-- The fields of a group, divided into parts behind a part begun: a field joins the part while its
payload stays within 20 characters, and otherwise begins the next one. -/
def layParts : List (List Byte) → List (List Byte) → List (List (List Byte))
  | part, [] => [part]
  | part, f :: rest =>
    if part.flatten.length + f.length + 3 ≤ 20 then layParts (part ++ [f]) rest
    else part :: layParts [f] rest

section Parts

variable {part : List (List Byte)} {f : List Byte} {rest fields : List (List Byte)}

theorem layParts_join (h : part.flatten.length + f.length + 3 ≤ 20) :
    layParts part (f :: rest) = layParts (part ++ [f]) rest := if_pos h

theorem layParts_begin (h : ¬part.flatten.length + f.length + 3 ≤ 20) :
    layParts part (f :: rest) = part :: layParts [f] rest := if_neg h

theorem layParts_first (h : f.length ≤ 17) : layParts [] (f :: rest) = layParts [f] rest :=
  layParts_join (by simpa using h)

/-- The model's own laying of fields, part by part. -/
theorem foldl_addField (done : List (List Byte)) (part fields : List (List Byte)) :
    (fields.foldl addField (done, part.flatten)).1 ++ [(fields.foldl addField (done, part.flatten)).2] =
      done ++ (layParts part fields).map List.flatten := by
  induction fields generalizing done part with
  | nil => rfl
  | cons f rest ih =>
    by_cases h : part.flatten.length + f.length + 3 ≤ 20
    · have hadd : addField (done, part.flatten) f = (done, (part ++ [f]).flatten) :=
        (if_pos h).trans (by simp)
      rw [List.foldl_cons, hadd, layParts_join h, ih]
    · have hadd : addField (done, part.flatten) f = (done ++ [part.flatten], [f].flatten) :=
        (if_neg h).trans (by simp)
      rw [List.foldl_cons, hadd, layParts_begin h, ih]
      simp

theorem partsOf_eq (fields : List (List Byte)) :
    partsOf fields = (layParts [] fields).map List.flatten := foldl_addField [] [] fields

/-- No field is lost, and none changes its place. -/
theorem flatten_layParts (part fields : List (List Byte)) :
    (layParts part fields).flatten = part ++ fields := by
  induction fields generalizing part with
  | nil => simp [layParts]
  | cons f rest ih =>
    by_cases h : part.flatten.length + f.length + 3 ≤ 20
    · rw [layParts_join h, ih]
      simp
    · rw [layParts_begin h, List.flatten_cons, ih]
      rfl

/-- The first part begins with the part begun. -/
theorem layParts_eq_cons (part fields : List (List Byte)) :
    ∃ more tail, layParts part fields = (part ++ more) :: tail := by
  induction fields generalizing part with
  | nil => exact ⟨[], [], by simp [layParts]⟩
  | cons f rest ih =>
    by_cases h : part.flatten.length + f.length + 3 ≤ 20
    · obtain ⟨more, tail, hmore⟩ := ih (part ++ [f])
      exact ⟨f :: more, tail, by rw [layParts_join h, hmore, List.append_assoc]; rfl⟩
    · exact ⟨[], layParts [f] rest, by rw [layParts_begin h, List.append_nil]⟩

/-- Every part but one begun empty holds a field. -/
theorem ne_nil_of_mem_layParts (hpart : part ≠ []) : ∀ q ∈ layParts part fields, q ≠ [] := by
  induction fields generalizing part with
  | nil => exact fun q hq => List.mem_singleton.mp hq ▸ hpart
  | cons f rest ih =>
    by_cases h : part.flatten.length + f.length + 3 ≤ 20
    · rw [layParts_join h]
      exact ih (by simp)
    · rw [layParts_begin h]
      exact List.forall_mem_cons.mpr ⟨hpart, ih (by simp)⟩

/-- Every part of fields that fit a telegram alone fits a telegram. -/
theorem layParts_fit (hpart : part.flatten.length + 3 ≤ 20) (hfields : ∀ f ∈ fields, f.length ≤ 17) :
    ∀ q ∈ layParts part fields, q.flatten.length + 3 ≤ 20 := by
  induction fields generalizing part with
  | nil => exact fun q hq => List.mem_singleton.mp hq ▸ hpart
  | cons f rest ih =>
    obtain ⟨hf, hrest⟩ := List.forall_mem_cons.mp hfields
    by_cases h : part.flatten.length + f.length + 3 ≤ 20
    · rw [layParts_join h]
      exact ih (by simpa using h) hrest
    · rw [layParts_begin h]
      exact List.forall_mem_cons.mpr ⟨hpart, ih (by simpa using hf) hrest⟩

/-- The next part begins with a field that the part before it has no room for. -/
def opensFull (part next : List (List Byte)) : Prop :=
  ∀ first rest, next = first :: rest → 20 < part.flatten.length + first.length + 3

theorem isChain_layParts (part fields : List (List Byte)) :
    (layParts part fields).IsChain opensFull := by
  induction fields generalizing part with
  | nil => exact List.isChain_singleton _
  | cons f rest ih =>
    by_cases h : part.flatten.length + f.length + 3 ≤ 20
    · rw [layParts_join h]
      exact ih _
    · obtain ⟨more, tail, hnext⟩ := layParts_eq_cons [f] rest
      have hchain := ih [f]
      rw [layParts_begin h]
      rw [hnext] at hchain ⊢
      refine List.isChain_cons_cons.mpr ⟨?_, hchain⟩
      rintro first _ ⟨rfl, rfl⟩
      omega

/-- How many parts follow from the widths of the fields alone. -/
def partCount : Nat → List Nat → Nat
  | _, [] => 1
  | used, w :: rest =>
    if used + w + 3 ≤ 20 then partCount (used + w) rest else partCount w rest + 1

theorem layParts_length (part fields : List (List Byte)) :
    (layParts part fields).length = partCount part.flatten.length (fields.map List.length) := by
  induction fields generalizing part with
  | nil => rfl
  | cons f rest ih =>
    rw [List.map_cons, partCount]
    by_cases h : part.flatten.length + f.length + 3 ≤ 20
    · rw [layParts_join h, ih, if_pos h]
      simp
    · rw [layParts_begin h, List.length_cons, ih, if_neg h]
      simp

end Parts

/-! ### The telegrams of a group (R191) -/

theorem groupFrom_eq (kind : Byte) (header : List Byte) (count i : Nat) (parts : List (List Byte)) :
    groupFrom kind header count i parts = parts.mapIdx fun j part =>
      telegram kind (header ++ [BitVec.ofNat 8 (i + j + 16 * count)] ++ part) := by
  induction parts generalizing i with
  | nil => rfl
  | cons part rest ih =>
    rw [groupFrom, ih, List.mapIdx_cons, natBytes_one]
    simp only [Nat.add_zero, Nat.add_right_comm i 1, Nat.add_assoc i]

theorem replyGroup_eq (kind : Byte) (header : List Byte) (fields : List (List Byte)) :
    replyGroup kind header fields = (layParts [] fields).mapIdx fun i part => telegram kind
      (header ++ [BitVec.ofNat 8 (i + 16 * (layParts [] fields).length)] ++ part.flatten) := by
  rw [replyGroup, partsOf_eq, groupFrom_eq, List.length_map]
  simp only [Nat.zero_add]
  refine List.ext_getElem? fun i => ?_
  simp [Option.map_map, Function.comp_def]

/-- A group lays fields that each fit a telegram as R191 says. -/
theorem grouped_replyGroup (kind : Byte) (header : List Byte) {data : List Datum} (hne : data ≠ [])
    (hwidth : ∀ w ∈ data.map Prod.fst, w ≤ 17) :
    grouped kind header data (replyGroup kind header (data.map Datum.laid)) := by
  have hfields := Datum.forall_laid_length hwidth
  have hnonempty : ∀ q ∈ layParts [] (data.map Datum.laid), q ≠ [] := by
    obtain ⟨d, rest, rfl⟩ := List.exists_cons_of_ne_nil hne
    rw [List.map_cons, layParts_first (hfields d.laid List.mem_cons_self)]
    exact ne_nil_of_mem_layParts (by simp)
  rw [replyGroup_eq]
  refine ⟨layParts [] (data.map Datum.laid), flatten_layParts [] _, List.length_mapIdx,
    fun i part hpart => ?_, fun i part first rest hpart hnext => ?_⟩
  · have hmem := List.mem_of_getElem? hpart
    exact ⟨hnonempty part hmem, layParts_fit (by simp) hfields part hmem, _,
      by rw [List.getElem?_mapIdx, hpart]; rfl, framed_telegram _ _⟩
  · obtain ⟨_, rfl⟩ := List.getElem?_eq_some_iff.mp hpart
    obtain ⟨hi, hfirst⟩ := List.getElem?_eq_some_iff.mp hnext
    exact List.isChain_iff_getElem.mp (isChain_layParts [] _) i hi first rest hfirst

/-- Widths of fields that each fit a telegram, and whose group is at most three telegrams of at most 60
characters together, each with its kind, length, result, flags, part byte and check. -/
def groupFits (widths : List Nat) : Prop :=
  (∀ w ∈ widths, w ≤ 17) ∧ partCount 0 widths ≤ 3 ∧ widths.sum + 6 * partCount 0 widths ≤ 60

theorem replyGroup_length (kind : Byte) (header : List Byte) (data : List Datum) :
    (replyGroup kind header (data.map Datum.laid)).length = partCount 0 (data.map Prod.fst) := by
  rw [replyGroup_eq, List.length_mapIdx, layParts_length, List.map_map]
  exact congrArg (partCount 0) (List.map_congr_left fun d _ => d.laid_length)

theorem length_flatten_groupFrom (kind : Byte) {header : List Byte} (hheader : header.length = 2)
    (count i : Nat) (parts : List (List Byte)) :
    (groupFrom kind header count i parts).flatten.length = parts.flatten.length + 6 * parts.length := by
  induction parts generalizing i with
  | nil => rfl
  | cons part rest ih =>
    simp only [groupFrom, List.flatten_cons, List.length_append, List.length_cons, telegram_length,
      natBytes_length, hheader, ih]
    omega

theorem length_flatten_replyGroup (kind : Byte) {header : List Byte} (hheader : header.length = 2)
    (data : List Datum) :
    (replyGroup kind header (data.map Datum.laid)).flatten.length =
      (data.map Prod.fst).sum + 6 * partCount 0 (data.map Prod.fst) := by
  have hparts : (partsOf (data.map Datum.laid)).flatten = data.flatMap Datum.laid := by
    rw [partsOf_eq, ← List.flatten_flatten, flatten_layParts, List.nil_append, List.flatMap_def]
  have hcount : (partsOf (data.map Datum.laid)).length = partCount 0 (data.map Prod.fst) := by
    rw [← replyGroup_length kind header, replyGroup_eq, List.length_mapIdx, partsOf_eq,
      List.length_map]
  rw [replyGroup, length_flatten_groupFrom kind hheader, hparts, hcount, Datum.length_flatMap_laid]

theorem formed_of_mem_replyGroup {kind : Byte} {header : List Byte} (hheader : header.length = 2)
    {data : List Datum} (hwidth : ∀ w ∈ data.map Prod.fst, w ≤ 17) :
    ∀ t ∈ replyGroup kind header (data.map Datum.laid), formed t := by
  intro t ht
  rw [replyGroup_eq] at ht
  obtain ⟨i, hi, rfl⟩ := List.mem_mapIdx.mp ht
  have hfit := layParts_fit (by simp) (Datum.forall_laid_length hwidth) _ (List.getElem_mem hi)
  refine formed_telegram kind ?_
  simp only [List.length_append, hheader, List.length_singleton]
  omega

/-! ### The field lists (R193 to R195, R198) -/

section Lists

variable (s : State)

theorem State.progressFields_eq : s.progressFields = s.progressData.map Datum.laid := by
  simp only [State.progressFields, State.progressData, List.map_cons, List.map_nil, Datum.laid_datum,
    Datum.laid_optDatum, Datum.laid_bitsDatum, Datum.laid_holds, Option.isSome_map]
  rfl

theorem State.strokeFields_eq : s.strokeFields = s.strokeData.map Datum.laid := by
  simp only [State.strokeFields, State.strokeData, List.map_cons, List.map_nil, Datum.laid_datum,
    Datum.laid_optDatum, Datum.laid_bitsDatum, Datum.laid_flagDatum, Datum.laid_some]
  rfl

theorem State.portFields_eq (p : Port) : s.portFields p = (s.portData p).map Datum.laid := by
  simp only [State.portFields, State.portData, List.map_cons, List.map_nil, Datum.laid_datum,
    Datum.laid_optDatum, Datum.laid_bitsDatum, Datum.laid_flagDatum]

theorem AxisOut.fields_eq (a : AxisOut) : a.fields = a.data.map Datum.laid := by
  simp only [AxisOut.fields, AxisOut.data, List.map_cons, List.map_nil, Datum.laid_datum,
    Datum.laid_flagDatum, Datum.laid_some]
  rfl

theorem State.interpolatorFields_eq : s.interpolatorFields = (s.statusData 0).map Datum.laid := by
  simp only [State.interpolatorFields, State.statusData, List.map_cons, List.map_nil,
    Datum.laid_datum, Datum.laid_flagDatum]

theorem State.queueFields_eq : s.queueFields = (s.statusData 1).map Datum.laid := by
  simp only [State.queueFields, State.statusData, List.map_cons, List.map_nil, Datum.laid_datum,
    Datum.laid_optDatum, Datum.laid_bitsDatum, Datum.laid_flagDatum]

theorem State.jogFields_eq : s.jogFields = (s.statusData 2).map Datum.laid := by
  simp only [State.jogFields, State.statusData, List.map_cons, List.map_nil, Datum.laid_datum,
    Datum.laid_optDatum, Datum.laid_bitsDatum, Datum.laid_flagDatum, Datum.laid_holds]

theorem State.supervisionFields_eq : s.supervisionFields = (s.statusData 6).map Datum.laid := by
  simp only [State.supervisionFields, State.statusData, List.map_cons, List.map_nil,
    Datum.laid_datum, Datum.laid_optDatum, Datum.laid_bitsDatum, Datum.laid_flagDatum]
  cases s.sv.record <;> simp

theorem State.statusFields_eq {part : Nat} (h : part ≤ 6) :
    s.statusFields part = (s.statusData part).map Datum.laid := by
  interval_cases part
  · exact s.interpolatorFields_eq
  · exact s.queueFields_eq
  · exact s.jogFields_eq
  · exact s.ap.x.fields_eq
  · exact s.ap.y.fields_eq
  · simp only [State.statusFields, State.statusData, AxisOut.fields_eq, List.map_append,
      List.map_cons, List.map_nil, Datum.laid_some, Datum.laid_datum]
  · exact s.supervisionFields_eq

theorem gradeBytes_eq (g : Option Grade) : gradeBytes g = (recordData g).flatMap Datum.laid := by
  cases g with
  | none => rfl
  | some g =>
    simp [gradeBytes, recordData, Grade.bytes, Datum.laid_optDatum, optBytes, natBytes]

theorem State.gradeData_eq (source argument : Nat) :
    s.gradeData source argument = (s.readGradeData source argument).flatMap Datum.laid := by
  unfold State.gradeData State.readGradeData
  split
  all_goals
    simp [gradeBytes_eq, Datum.laid_datum, Datum.laid_optDatum, Datum.laid_flagDatum,
      Datum.laid_bitsDatum]

theorem State.noticeTelegram_eq (k : Notice) :
    s.noticeTelegram k = telegram k.code ((s.noticeData k).flatMap Datum.laid) := by
  refine congrArg (telegram k.code) ?_
  cases k <;> simp [State.noticeData, Datum.laid_datum, Datum.laid_optDatum, Datum.laid_bitsDatum,
    Datum.laid_holds]

/-! ### The widths of the field lists -/

theorem State.progressData_fits : groupFits (s.progressData.map Prod.fst) := by
  have hwidths : s.progressData.map Prod.fst =
    [1, 1, 1, 1, 2, 2, 3, 3, 3, 3, 2, 2, 3, 3, 4, 1, 1, 4] := rfl
  rw [hwidths, groupFits]
  decide

theorem State.strokeData_fits : groupFits (s.strokeData.map Prod.fst) := by
  have hwidths : s.strokeData.map Prod.fst =
    [1, 1, 1, 1, 1, 2, 4, 3, 2, 1, 3, 2, 1, 1, 1, 1, 1, 1, 2, 2, 2, 4, 4] := rfl
  rw [hwidths, groupFits]
  decide

theorem State.portData_fits (p : Port) : groupFits ((s.portData p).map Prod.fst) := by
  have hwidths : (s.portData p).map Prod.fst =
    [1, 1, 2, 2, 1, 1, 1, 1, 1, 2, 2, 2, 2, 2, 2, 2] := rfl
  rw [hwidths, groupFits]
  decide

/-- The widths of the fields of a READ_STATUS section (R194). -/
def statusWidths : Nat → List Nat
  | 0 => [1, 1, 2, 1, 2, 2, 2]
  | 1 => [1, 3, 3, 2, 1, 1, 2, 2, 1, 1, 2]
  | 2 => [1, 1, 1, 1, 2, 1, 1, 1, 3, 2, 2, 1]
  | 3 => [6, 6, 6, 2, 1, 6, 2]
  | 4 => [6, 6, 6, 2, 1, 6, 2]
  | 5 => [6, 6, 6, 2, 1, 6, 2, 6, 2]
  | _ => [1, 1, 1, 1, 1, 2, 2, 3, 3, 2, 4, 2, 1, 1, 1, 1, 1, 1, 2]

theorem State.statusData_widths {part : Nat} (h : part ≤ 6) :
    (s.statusData part).map Prod.fst = statusWidths part := by
  interval_cases part <;> rfl

theorem groupFits_statusWidths {part : Nat} (h : part ≤ 6) : groupFits (statusWidths part) := by
  unfold groupFits
  revert part
  decide

theorem State.statusData_fits {part : Nat} (h : part ≤ 6) :
    groupFits ((s.statusData part).map Prod.fst) :=
  s.statusData_widths h ▸ groupFits_statusWidths h

theorem State.statusData_ne_nil {part : Nat} (h : part ≤ 6) : s.statusData part ≠ [] := by
  interval_cases part <;> exact nofun

theorem State.readGradeData_length_le (source argument : Nat) :
    ((s.readGradeData source argument).flatMap Datum.laid).length ≤ 18 := by
  rw [Datum.length_flatMap_laid]
  unfold State.readGradeData
  split
  case h_1 | h_2 => exact (by decide : 15 ≤ 18)
  case h_3 => exact (by decide : 5 ≤ 18)
  case h_4 => exact (by decide : 2 ≤ 18)

end Lists

theorem Notice.length_le (k : Notice) : k.length ≤ 11 := by
  cases k <;> decide

theorem State.noticeTelegram_formed (s : State) (k : Notice) : formed (s.noticeTelegram k) := by
  have hlength := (s.noticeTelegram_length k).trans_le k.length_le
  rw [s.noticeTelegram_eq, telegram_length] at hlength
  rw [s.noticeTelegram_eq]
  exact formed_telegram k.code (by omega)

/-! ### The reply (R190, R191) -/

/-- The characters every reply begins with: its result and its flags (R190). -/
def Request.header (r : Request) : List Byte := r.result.code :: r.flags.bytes

theorem Request.header_length (r : Request) : r.header.length = 2 := rfl

theorem Request.header_eq (r : Request) :
    r.header = [r.result.code, BitVec.ofNat 8 ((if r.flags.clamped then 1 else 0) +
      2 * (if r.flags.inUse then 1 else 0) + 4 * (if r.flags.notHeld then 1 else 0))] :=
  congrArg (List.cons r.result.code) r.flags.bytes_eq

section Reply

variable (s : State) (p : Port) {r : Request}

theorem State.replyTelegrams_fixed {bytes : List Byte} (h : r.data = .fixed bytes) :
    s.replyTelegrams p r = [telegram (r.kind + 0x80) (r.header ++ bytes)] := by
  simp only [State.replyTelegrams, Request.header, h]

theorem State.replyTelegrams_grade {source argument : Nat} (h : r.data = .grade source argument) :
    s.replyTelegrams p r = [telegram (r.kind + 0x80)
      (r.header ++ (s.readGradeData source argument).flatMap Datum.laid)] := by
  simp only [State.replyTelegrams, Request.header, h, s.gradeData_eq]

theorem State.replyTelegrams_progress (h : r.data = .progress) :
    s.replyTelegrams p r =
      replyGroup (r.kind + 0x80) r.header (s.progressData.map Datum.laid) := by
  simp only [State.replyTelegrams, Request.header, h, s.progressFields_eq]

theorem State.replyTelegrams_stroke (h : r.data = .stroke) :
    s.replyTelegrams p r =
      replyGroup (r.kind + 0x80) r.header (s.strokeData.map Datum.laid) := by
  simp only [State.replyTelegrams, Request.header, h, s.strokeFields_eq]

theorem State.replyTelegrams_status {part : Nat} (hpart : part ≤ 6) (h : r.data = .status part) :
    s.replyTelegrams p r =
      replyGroup (r.kind + 0x80) r.header ((s.statusData part).map Datum.laid) := by
  simp only [State.replyTelegrams, Request.header, h, s.statusFields_eq hpart]

theorem State.replyTelegrams_port {clear : Bool} (h : r.data = .port clear) :
    s.replyTelegrams p r =
      replyGroup (r.kind + 0x80) r.header ((s.portData p).map Datum.laid) := by
  simp only [State.replyTelegrams, Request.header, h, s.portFields_eq]

/-- A section that READ_STATUS does not have, which no request in progress names (R194), is empty. -/
theorem State.replyTelegrams_noSection {part : Nat} (hpart : 6 < part) (h : r.data = .status part) :
    s.replyTelegrams p r = replyGroup (r.kind + 0x80) r.header [] := by
  have hnone : s.statusFields part = [] := by
    unfold State.statusFields
    split
    case h_8 => rfl
    all_goals omega
  simp only [State.replyTelegrams, Request.header, h, hnone]

/-- What a reply consists of: one telegram with at most 18 characters of data, or the group of a list
of fields. -/
theorem State.replyTelegrams_cases (hfixed : ∀ bytes, r.data = .fixed bytes → bytes.length ≤ 18) :
    (∃ bytes, bytes.length ≤ 18 ∧
      s.replyTelegrams p r = [telegram (r.kind + 0x80) (r.header ++ bytes)]) ∨
    ∃ data : List Datum, groupFits (data.map Prod.fst) ∧
      s.replyTelegrams p r = replyGroup (r.kind + 0x80) r.header (data.map Datum.laid) := by
  cases hdata : r.data with
  | fixed bytes => exact .inl ⟨bytes, hfixed bytes hdata, s.replyTelegrams_fixed p hdata⟩
  | grade source argument =>
    exact .inl ⟨_, s.readGradeData_length_le source argument, s.replyTelegrams_grade p hdata⟩
  | progress => exact .inr ⟨_, s.progressData_fits, s.replyTelegrams_progress p hdata⟩
  | stroke => exact .inr ⟨_, s.strokeData_fits, s.replyTelegrams_stroke p hdata⟩
  | port clear => exact .inr ⟨_, s.portData_fits p, s.replyTelegrams_port p hdata⟩
  | status part =>
    rcases Nat.lt_or_ge 6 part with h | h
    · exact .inr ⟨[], by unfold groupFits; decide, s.replyTelegrams_noSection p h hdata⟩
    · exact .inr ⟨_, s.statusData_fits h, s.replyTelegrams_status p h hdata⟩

/-- Every reply is well formed, at most three telegrams, and fits an empty transmit FIFO. -/
theorem State.replyTelegrams_formed (hfixed : ∀ bytes, r.data = .fixed bytes → bytes.length ≤ 18) :
    (∀ t ∈ s.replyTelegrams p r, formed t) ∧ (s.replyTelegrams p r).length ≤ 3 ∧
      (s.replyTelegrams p r).flatten.length ≤ 60 := by
  have hheader : r.header.length = 2 := r.header_length
  rcases s.replyTelegrams_cases p hfixed with ⟨bytes, hbytes, hreply⟩ | ⟨data, hfits, hreply⟩
  · rw [hreply]
    have hpayload : (r.header ++ bytes).length ≤ 20 := by
      rw [List.length_append, hheader]
      omega
    refine ⟨fun t ht => List.mem_singleton.mp ht ▸ formed_telegram _ hpayload,
      (by decide : 1 ≤ 3), ?_⟩
    rw [List.flatten_singleton, telegram_length]
    omega
  · obtain ⟨hwidth, hcount, hlength⟩ := hfits
    rw [hreply, replyGroup_length, length_flatten_replyGroup _ hheader]
    exact ⟨formed_of_mem_replyGroup hheader hwidth, hcount, hlength⟩

end Reply

/-- Settles O30: the frame of every telegram, the bytes and codes of the fields, and the fields of
notices and replies in the order of their lists. -/
theorem telegramForm : Obligations.TelegramForm := by
  refine ⟨fun s => ⟨s.noticeTelegram_formed, fun p r hfixed => s.replyTelegrams_formed p hfixed⟩,
    fun w v => ⟨leBytes_length w v, pow_dvd_sub_leValue w v⟩, fun _ _ => rfl, fun _ _ => rfl,
    ⟨by decide, by decide, fun _ => ⟨rfl, rfl, rfl, rfl, rfl, rfl⟩, fun _ => ⟨rfl, rfl⟩,
      fun st hst => ?_, by decide, by decide, fun _ => rfl, by decide, by decide, by decide, by decide,
      by decide, by decide, by decide⟩,
    fun s => ⟨fun k => ?_, fun p r => ?_⟩⟩
  · cases st
    case holding r => exact ⟨r, .inl rfl⟩
    case held r => exact ⟨r, .inr rfl⟩
    all_goals exact absurd rfl hst
  · rw [s.noticeTelegram_eq]
    exact framed_telegram _ _
  · intro bit header reply one group
    have hheader : r.header = header := r.header_eq
    have hgroup (data : List Datum) (hne : data ≠ []) (hfits : groupFits (data.map Prod.fst))
        (hreply : reply = replyGroup (r.kind + 0x80) r.header (data.map Datum.laid)) : group data := by
      have hgrouped := grouped_replyGroup (r.kind + 0x80) header hne hfits.1
      rwa [← hheader, ← hreply, hheader] at hgrouped
    have hone (bytes : List Byte) (hreply : reply = [telegram (r.kind + 0x80) (r.header ++ bytes)]) :
        one bytes := ⟨_, hreply, hheader ▸ framed_telegram _ _⟩
    exact ⟨fun bytes h => hone bytes (s.replyTelegrams_fixed p h),
      fun _ _ h => hone _ (s.replyTelegrams_grade p h),
      fun h => hgroup _ nofun s.progressData_fits (s.replyTelegrams_progress p h),
      fun h => hgroup _ nofun s.strokeData_fits (s.replyTelegrams_stroke p h),
      fun part hpart h => hgroup _ (s.statusData_ne_nil hpart) (s.statusData_fits hpart)
        (s.replyTelegrams_status p hpart h),
      fun _ h => hgroup _ nofun (s.portData_fits p) (s.replyTelegrams_port p h)⟩

end Sys2Proof.Machine
end

section
/-! SUPPORT. A step with a command waiting: the other case, the empty queue, is `stepsComplete`. -/

namespace Sys2Proof.Machine

/-- The second case of `step`: the front command acts, and the queue it finds is the rest. -/
theorem step_of_pending_cons {c : Instr} {rest : List Instr} {s : State}
    (hpending : s.pending = c :: rest) : step s = exec c { s with pending := rest } := by
  rw [step, hpending]

/-- Settles O1: the case of `step` in which a command waits. -/
theorem stepTakesFront : Obligations.StepTakesFront :=
  fun _ _ _ hpending => step_of_pending_cons hpending

end Sys2Proof.Machine
end
